-- ==== Sys2Proof/Word.lean ====
section
/-! DEFINITION. The units of data: the byte of the links, and the word of the map memory. -/

namespace Sys2Proof

/-- One byte of a frame (Section 10). -/
abbrev Byte := BitVec 8

/-- A station, numbered by its port, 0 to 7 (Table 0.2). -/
abbrev StationId := Fin 8

/-- A wafer slot, 0 to 31 (R15). -/
abbrev SlotId := Fin 32

/-- A probe site, 0 to 15 (Table 0.2). -/
abbrev SiteId := Fin 16

/-- A bin, 0 to 63 (Table 0.2). -/
abbrev Bin := Fin 64

/-- The cell record of R83 (Table 5.1). Only a TESTED cell has fields: every other cell holds no
result and its fields read as 0, so they are not stored. -/
inductive CellRecord where
  | offWafer
  | untested
  | tested (final first : Bin) (count : Nat) (site : SiteId) (station : StationId)
  | damaged
  deriving DecidableEq, Repr, Inhabited

/-- What a word's 7 check bits say of it when it is next read: the three outcomes of R96. The code
itself is not in the manual (DEDUCED, log 4). -/
inductive WordHealth where
  | clean
  | correctable
  | uncorrectable
  deriving DecidableEq, Repr, Inhabited

/-- One word of the map memory: a cell record with its check bits (R82). -/
structure CellWord where
  record : CellRecord
  health : WordHealth
  deriving DecidableEq, Repr, Inhabited

end Sys2Proof
end

