-- ==== Sys2Proof/Config.lean ====
section
/-! DEFINITION. What the manual leaves undefined: the free values of the model. -/

namespace Sys2Proof

/-- The content of a map memory word that nothing has written since the last power-on or full reset:
undefined by R25 and R106. A FREE VALUE (DESIGN CHOICE, safe, log 3): no body, so nothing can be proved of it. The argument
is the word's address. -/
opaque Config.undefinedWord : Nat → CellWord

end Sys2Proof
end

