-- ==== Sys2Proof/Syntax.lean ====
section
/-! DEFINITION. The commands: one constructor for each row of spec/opcode_table.json.

The table's rows are the part's steps (spec/95). A row that carries out a server request takes the
request, with its fields, from the head of the Host Link Controller's request queue (R171), and a row
that carries out a station record takes it from the staging queue the Intake Arbiter grants (R52), so
these rows carry no operand here. The operands that do stand here are what comes from outside the
part: the bytes on a receive line, and the bit errors of the external map memory (DESIGN CHOICE, log 2, log 4). -/

namespace Sys2Proof

/-- An error that has struck a word of the external map memory. -/
inductive ErrorKind where
  | correctable
  | uncorrectable
  deriving DecidableEq, Repr

/-- A bit error that the external map memory has suffered before a command reads it: the slot's area,
the cell index in the area, and what the check bits will show (R96). -/
structure Upset where
  slot : SlotId
  cell : Nat
  kind : ErrorKind
  deriving DecidableEq, Repr

/-- The commands, in the table's order. -/
inductive Instr where
  /-- HOST_FRAME_RECEIVE: these bytes arrive on HRXD. -/
  | hostFrameReceive (bytes : List Byte)
  /-- IDENTIFY -/
  | identify
  /-- STATUS -/
  | status
  /-- RESET_FULL -/
  | resetFull
  /-- RESET_COLLATION -/
  | resetCollation
  /-- COLLATION_RESTART -/
  | collationRestart
  /-- STATION_SET -/
  | stationSet
  /-- STATION_CTRL_RELEASE -/
  | stationCtrlRelease
  /-- STATION_CTRL_START -/
  | stationCtrlStart
  /-- STATION_CTRL_STOP -/
  | stationCtrlStop
  /-- STATION_CTRL_RESUME -/
  | stationCtrlResume
  /-- STATION_QUERY -/
  | stationQuery
  /-- CLASS_SET -/
  | classSet
  /-- PLAN_LOAD -/
  | planLoad
  /-- PLAN_READ -/
  | planRead
  /-- LOT_OPEN -/
  | lotOpen
  /-- LOT_CLOSE -/
  | lotClose
  /-- LOT_RELEASE -/
  | lotRelease
  /-- LOT_QUERY -/
  | lotQuery
  /-- WAFER_OPEN -/
  | waferOpen
  /-- INITIALISATION_COMPLETE -/
  | initialisationComplete
  /-- WAFER_CLOSE -/
  | waferClose
  /-- WAFER_REOPEN -/
  | waferReopen
  /-- WAFER_RELEASE -/
  | waferRelease
  /-- WAFER_QUERY -/
  | waferQuery
  /-- CELL_READ: the request is taken, or goes on; this many of its cells are read at this step (log 6). -/
  | cellRead (cells : Nat) (upsets : List Upset)
  /-- YIELD_QUERY_SLOT -/
  | yieldQuerySlot
  /-- YIELD_QUERY_LOT -/
  | yieldQueryLot
  /-- RULE_SET -/
  | ruleSet
  /-- RULE_READ -/
  | ruleRead
  /-- ALARM_LIST -/
  | alarmList
  /-- ALARM_ACK -/
  | alarmAck
  /-- ALARM_CLEAR -/
  | alarmClear
  /-- EXPORT_START -/
  | exportStart
  /-- EXPORT_MORE -/
  | exportMore
  /-- EXPORT_STOP -/
  | exportStop
  /-- MAP_SEGMENT_BUILD -/
  | mapSegmentBuild (upsets : List Upset)
  /-- EXPORT_END_BUILD -/
  | exportEndBuild
  /-- MAP_SEGMENT_TAKEN -/
  | mapSegmentTaken
  /-- EXPORT_END_TAKEN -/
  | exportEndTaken
  /-- NOTICE_TAKEN -/
  | noticeTaken
  /-- HOST_REPLY_TAKEN -/
  | hostReplyTaken
  /-- BAD_FRAME: these bytes, which need not be a good frame, arrive on a station's line. -/
  | badFrame (station : StationId) (bytes : List Byte)
  /-- STATION_FRAME_RECEIVE: the good frame of this kind, tag and payload arrives on a station's line. -/
  | stationFrameReceive (station : StationId) (kind tag : Byte) (payload : List Byte)
  /-- LINK_CHECK: the LINK_CHECK frame of this tag arrives on a station's line. -/
  | linkCheck (station : StationId) (tag : Byte)
  /-- WAFER_START. In this row, the next five and GROUP_EXPIRY, `arriving` are the bytes that arrive on the
  station's own line while the Collation Engine carries the work out (R48, R70); none, unless given
  (DESIGN CHOICE, unsafe, log 26). -/
  | waferStart (arriving : List Byte := [])
  /-- WAFER_END -/
  | waferEnd (arriving : List Byte := [])
  /-- TD_OPEN -/
  | tdOpen (arriving : List Byte := [])
  /-- TD_RESULTS -/
  | tdResults (upsets : List Upset) (arriving : List Byte := [])
  /-- TD_CLOSE: the n-th number of `reads` is how many cells a CELL_READ in flight reads before the
  n-th item of the commit (R70, R105). -/
  | tdClose (reads : List Nat) (upsets : List Upset) (arriving : List Byte := [])
  /-- TD_ABORT -/
  | tdAbort (arriving : List Byte := [])
  /-- TIMER_TICK -/
  | timerTick
  /-- GROUP_EXPIRY: `reads` as for TD_CLOSE. -/
  | groupExpiry (reads : List Nat) (upsets : List Upset) (arriving : List Byte := [])
  /-- STATION_TRANSMIT -/
  | stationTransmit (station : StationId)
  /-- RST_ASSERT -/
  | rstAssert
  /-- RST_RELEASE -/
  | rstRelease
  /-- CELL_READ_COMPLETE: the cells still unread are read. -/
  | cellReadComplete (upsets : List Upset)
  deriving DecidableEq, Repr

end Sys2Proof
end

