-- ==== Sys2Proof/Decode.lean ====
section
/-! DEFINITION. The command that a table word spells. -/

namespace Sys2Proof

/-- No row of spec/opcode_table.json gives its command any bits (every row's "fields" is empty), so no
word spells a command. The frames that carry requests and records to the part are read byte by byte in
Machine/Operands.lean and Machine/Ops.lean. -/
def decodeTableWord (_nbits _w : Nat) : Option Instr := none

end Sys2Proof
end

