-- ==== Sys2Proof/Machine/State.lean ====
section
/-! DEFINITION. The state of the part, block by block (Table 0.1), as plain data, and its reset value. -/

namespace Sys2Proof.Machine

/-! ## Frames and requests -/

/-- A good frame without its SYNC, LEN and CRC (Table 10.1): a request waiting in the Host Link
Controller, a record waiting in a staging queue, or a frame the part sends on the host link. Fields are
decoded when the request or record is carried out (R186). -/
structure Frame where
  kind : Byte
  tag : Byte
  payload : List Byte
  deriving DecidableEq, Repr

/-- The record reasons of Table 3.3. -/
inductive Reason where
  | notReady | halted | unknownWafer | waferBusy | stationBound | notBound | groupOpen | noGroup
  | wrongTouchdown | waferClosing | badKind | badLength | badField | badFrame
  deriving DecidableEq, Repr

/-- The entry reasons of Table 4.5. -/
inductive EntryReason where
  | badSite | duplicateSite | dieConflict | offMap | offWafer | badBin | retestLimit | passLocked
  | cellDamaged
  deriving DecidableEq, Repr

/-- The outcome of a station record (R42). -/
inductive RecordOutcome where
  | accept | wait | refuse
  deriving DecidableEq, Repr

/-- One item of an entry-refusal list (R42). The site is the byte the entry carried, which may be above
15 (R66 step 1). -/
structure Refused where
  site : Nat
  reason : EntryReason
  deriving DecidableEq, Repr

/-- The REPLY to a station (Table 3.2). -/
structure StationReply where
  tag : Byte
  outcome : RecordOutcome
  reason : Option Reason
  refusals : Option (List Refused)
  boundSlot : Option SlotId
  deriving DecidableEq, Repr

/-- The three kinds of frame the part sends to a station (R41). -/
inductive StationFrame where
  | reply (r : StationReply)
  | halt (rule : Fin 16) (level : Fin 8)
  | resume
  deriving DecidableEq, Repr

/-- A frame on the Host Link Controller's ready list (R173): a reply, made at once by the frame checker
or made by a request carried out, or the NOTICE, whose content is fixed only when it is taken (R175). -/
inductive ReadyFrame where
  | reply (immediate : Bool) (frame : Frame)
  | notice
  deriving DecidableEq, Repr

/-- The eight pending causes, in priority order (Table 9.3). -/
inductive Cause where
  | restarted | mapFault | alarm | stationFault | waferClosed | lotClosed | exportWaiting | exportDone
  deriving DecidableEq, Repr

/-- The kinds of reset (0.5, Table 9.1). -/
inductive ResetKind where
  | powerOn | full | collation
  deriving DecidableEq, Repr

/-! ## Lots and plans -/

/-- A lot id: its characters (R2). -/
abbrev LotId := List Byte

/-- A lot's state (R1). -/
inductive LotState where
  | opened | closing | closed
  deriving DecidableEq, Repr

/-- The counts that a close records and a lot sums: T, P, G and the 64 bin counts (R115, R116). -/
structure Totals where
  tested : Nat
  passed : Nat
  gross : Nat
  hist : Vector Nat 64
  deriving DecidableEq, Repr

/-- A lot record (Table 1.1). Its field "wafers closed" is the length of the closed list. -/
structure Lot where
  id : LotId
  plan : Fin 4
  state : LotState
  expected : Nat
  closedList : List Nat
  totals : Totals
  active : Nat
  deriving DecidableEq, Repr

/-- The class of a bin (Table 1.3). -/
inductive BinClass where
  | pass | fail | void | unused
  deriving DecidableEq, Repr

/-- A plan's merge policy (Table 1.2). -/
inductive Policy where
  | latest | best
  deriving DecidableEq, Repr

/-- One of the 64 bin entries of a plan (Table 1.2). -/
structure BinEntry where
  cls : BinClass
  rank : Nat
  deriving DecidableEq, Repr

/-- A bin plan (Table 1.2). -/
structure Plan where
  policy : Policy
  limit : Nat
  passLock : Bool
  bins : Vector BinEntry 64
  deriving DecidableEq, Repr

/-! ## Wafer slots -/

/-- The state of a slot that is not FREE (Table 1.5). -/
inductive WaferState where
  | opening | opened | closing | closed | exporting
  deriving DecidableEq, Repr

/-- One run of on-wafer cells in one row (R17). -/
structure Span where
  row : Nat
  first : Nat
  last : Nat
  deriving DecidableEq, Repr

/-- A site triple (R111). -/
structure SiteTriple where
  tests : Nat
  passes : Nat
  voids : Nat
  deriving DecidableEq, Repr

/-- A slot's accumulators (Table 6.1), less G, which is the slot record's. -/
structure Acc where
  tested : Nat
  passed : Nat
  hist : Vector Nat 64
  sites : Vector SiteTriple 16
  timeouts : Nat
  damaged : Nat
  deriving DecidableEq, Repr

/-- The record of a slot that is not FREE (Table 1.4). The bound station is not stored here: the
binding has one home, the station's record (R54). -/
structure Wafer where
  state : WaferState
  lot : LotId
  number : Nat
  cols : Nat
  rows : Nat
  refCol : Nat
  refRow : Nat
  spans : List Span
  gross : Nat
  acc : Acc
  closing : Option Totals
  deriving DecidableEq, Repr

/-! ## Stations, groups and timing classes -/

/-- The six intake states (Table 3.4). -/
inductive Intake where
  | held | stopped | running | stopping | halted | faulted
  deriving DecidableEq, Repr

/-- A binding of a station to a slot, with the orientation q (R54, R27). -/
structure Binding where
  slot : SlotId
  q : Fin 4
  deriving DecidableEq, Repr

/-- One entry of a group (Table 4.1). -/
structure Entry where
  site : SiteId
  cell : Nat
  bin : Bin
  deriving DecidableEq, Repr

/-- What becomes of a group whose timer runs out (R61). -/
inductive ExpiryMode where
  | commit | discard
  deriving DecidableEq, Repr

/-- A timing class (R61). -/
structure TimingClass where
  timeout : Nat
  mode : ExpiryMode
  deriving DecidableEq, Repr

/-- An open touchdown group (Table 4.1). The active site set is the 16-bit set of R187. A timer of 0
is an expiry that has fallen due and is not yet taken (R72). -/
structure Group where
  touchdown : Nat
  active : BitVec 16
  entries : List Entry
  timer : Nat
  mode : ExpiryMode
  deriving DecidableEq, Repr

/-- All that the part holds for one station: the Station Link Controller's fields (Table 3.1), its
receiver and its transmit line, the Collation Engine's binding and group place for it, and the
Excursion Monitor's consecutive counters of it (R140). -/
structure Station where
  intake : Intake
  staging : List Frame
  priority : Nat
  timingClass : Fin 4
  badFrames : Nat
  silence : Nat
  /-- The silence counter has been left to be set to 0 at the next tick (R56, R57). -/
  silenceEnds : Bool
  transmit : List StationFrame
  /-- The frame the line is sending; none when the line is idle (R41). -/
  line : Option StationFrame
  /-- The bytes of a frame partly received; empty while the receiver hunts (R185). -/
  rx : List Byte
  binding : Option Binding
  group : Option Group
  consecFail : Vector Nat 16
  consecVoid : Vector Nat 16
  deriving DecidableEq, Repr

/-! ## The Excursion Monitor -/

/-- The seven rule kinds (Table 7.2). -/
inductive RuleKind where
  | yieldFloor | binCeiling | siteSkew | groupTimeouts | consecFail | consecVoid | linkSilent
  deriving DecidableEq, Repr

/-- A rule's action (Table 7.1). -/
inductive RuleAction where
  | note | hold
  deriving DecidableEq, Repr

/-- A rule (Table 7.1). A scope of none is ALL. -/
structure Rule where
  enabled : Bool
  kind : RuleKind
  scope : Option StationId
  bin : Bin
  threshold : Nat
  minSample : Nat
  level : Fin 8
  action : RuleAction
  deriving DecidableEq, Repr

/-- A rule applied to one of the objects its kind watches (R134). -/
inductive Watch where
  /-- YIELD_FLOOR, BIN_CEILING and GROUP_TIMEOUTS: a rule and a slot. -/
  | slot (rule : Fin 16) (slot : SlotId)
  /-- SITE_SKEW: a rule, a slot and a site. -/
  | slotSite (rule : Fin 16) (slot : SlotId) (site : SiteId)
  /-- CONSEC_FAIL and CONSEC_VOID: a rule, a station and a site. -/
  | probe (rule : Fin 16) (station : StationId) (site : SiteId)
  /-- LINK_SILENT: a rule and a station. -/
  | link (rule : Fin 16) (station : StationId)
  deriving DecidableEq, Repr

/-- The state of an alarm entry (R143). -/
inductive AlarmState where
  | pending | raised | acked
  deriving DecidableEq, Repr

/-- An alarm entry (Table 7.5). -/
structure Alarm where
  rule : Fin 16
  kind : RuleKind
  level : Fin 8
  action : RuleAction
  slot : Option SlotId
  station : StationId
  site : Option SiteId
  observed : Nat
  threshold : Nat
  repeats : Nat
  state : AlarmState
  deriving DecidableEq, Repr

/-! ## The Map Export Unit -/

/-- The detail of an export (R158). -/
inductive Detail where
  | brief | full
  deriving DecidableEq, Repr

/-- The frame the Map Export Unit offers (Table 8.1). -/
inductive Offered where
  | segment (frame : Frame)
  | finish (frame : Frame)
  deriving DecidableEq, Repr

/-- The Map Export Unit's fields while it is ACTIVE or WAITING (Table 8.1). -/
structure Mex where
  waiting : Bool
  slot : SlotId
  detail : Detail
  spanCount : Nat
  position : Nat
  window : Nat
  offered : Option Offered
  deriving DecidableEq, Repr

/-! ## The Host Link Controller's request in progress -/

/-- The requests that stay in progress beyond the step that takes them (R171). -/
inductive InProgress where
  /-- WAFER_OPEN: the slot is being initialised (R19). -/
  | opening (tag : Byte) (slot : SlotId)
  /-- CELL_READ: `cells` are the records read so far; the next is at index `base` plus their number. -/
  | reading (tag : Byte) (slot : SlotId) (row first base count : Nat) (cells : List CellRecord)
  /-- RESET with kind COLLATION: the restart waits for the Collation Engine (R182). -/
  | restarting (tag : Byte)
  /-- EXPORT_STOP: the offered frame has been discarded, and the rest of the stop and its reply wait until the
  segment that the transmitter is sending has been sent whole (R163 step 2, R171). -/
  | stopping (tag : Byte)
  deriving DecidableEq, Repr

/-! ## The map memory -/

/-- The words written since the last power-on or full reset: pairs of an address and a word, the
addresses strictly rising. The word of cell index k in slot n's area is at n × 65,536 + k (R82). An
address that is not listed holds an undefined word (R106, log 3). -/
abbrev Mem := List (Nat × CellWord)

/-! ## The whole part -/

/-- The state of the part. -/
structure State where
  /-- The model's queue of commands, first in, first out (not the part's; log 21). -/
  pending : List Instr
  /-- RST is asserted (R181; log 15). -/
  rst : Bool
  /-- The host receiver's bytes of a frame partly received (R185). -/
  hostRx : List Byte
  /-- The request queue, oldest first (R170). -/
  requests : List Frame
  /-- The request in progress (R171). -/
  inProgress : Option InProgress
  /-- The ready list, oldest first (R173). The notice flag and the number of immediate replies waiting
  (Table 9.1) are read from it: State.noticeWaits and State.immediateWaiting. -/
  ready : List ReadyFrame
  /-- The frame last taken by the host transmitter (R173; log 13). -/
  hostLine : Option Frame
  /-- The pending-cause set, in priority order (R174). -/
  causes : List Cause
  /-- The last reset kind (R168). -/
  lastReset : ResetKind
  /-- The Lot Table (R1). -/
  lots : Vector (Option Lot) 16
  /-- The Bin Plan Table (R11). -/
  plans : Vector Plan 4
  /-- The wafer slot table; none is FREE (R15). -/
  slots : Vector (Option Wafer) 32
  /-- The timing classes (R61). -/
  classes : Vector TimingClass 4
  /-- The eight stations. -/
  stations : Vector Station 8
  /-- The Intake Arbiter's last granted port (R53). -/
  lastGranted : StationId
  /-- The map memory (R82). -/
  mem : Mem
  /-- The corrected-error count (R102). -/
  corrected : Nat
  /-- The rules (R130). -/
  rules : Vector Rule 16
  /-- The watches in trip state TRIPPED, no watch twice; every other watch is ARMED (R134). -/
  tripped : List Watch
  /-- The alarm list, oldest first (R143). -/
  alarms : List Alarm
  /-- The current alarm level (R143). -/
  cal : Nat
  /-- OVERFLOW is SET (R143). -/
  overflow : Bool
  /-- The Map Export Unit; none is IDLE (R154). -/
  mex : Option Mex
  deriving DecidableEq, Repr

/-- No command stops the part: the manual gives every step an effect in every state, so there is no
fault to raise. (An empty type; nobody raises one.) -/
inductive Fault where
  deriving DecidableEq, Repr

/-- Why a command has no meaning. -/
inductive Refusal where
  /-- Raised by exec for a command of the table that is not modelled. Safe: the model stops. -/
  | notModelled (mnemonic : String)
  deriving DecidableEq, Repr

/-! ## Reset values -/

/-- A plan after reset (R14). -/
def Plan.reset : Plan :=
  ⟨.latest, 1, false, Vector.replicate 64 ⟨.unused, 63⟩⟩

/-- A timing class after reset (R61). -/
def TimingClass.reset : TimingClass := ⟨50, .commit⟩

/-- A rule after reset (R130, Table 7.1). -/
def Rule.reset : Rule := ⟨false, .yieldFloor, none, 0, 0, 1, 7, .note⟩

/-- A station after a full reset (Table 3.1, R58, R140): its priority code is its port number. -/
def Station.reset (port : Nat) : Station where
  intake := .held
  staging := []
  priority := port
  timingClass := 0
  badFrames := 0
  silence := 0
  silenceEnds := false
  transmit := []
  line := none
  rx := []
  binding := none
  group := none
  consecFail := Vector.replicate 16 0
  consecVoid := Vector.replicate 16 0

/-- The part right after a power-on reset (R10, R14, R25, R53, R58, R61, R81, R102, R106, R130, R134,
R153, R154, R168, R181): RST released, every slot FREE, every lot entry free, the map memory undefined,
the set holding RESTARTED alone and its NOTICE ready. -/
def State.reset : State where
  pending := []
  rst := false
  hostRx := []
  requests := []
  inProgress := none
  ready := [.notice]
  hostLine := none
  causes := [.restarted]
  lastReset := .powerOn
  lots := Vector.replicate 16 none
  plans := Vector.replicate 4 Plan.reset
  slots := Vector.replicate 32 none
  classes := Vector.replicate 4 TimingClass.reset
  stations := Vector.ofFn fun i => Station.reset i.val
  lastGranted := 7
  mem := []
  corrected := 0
  rules := Vector.replicate 16 Rule.reset
  tripped := []
  alarms := []
  cal := 8
  overflow := false
  mex := none

end Sys2Proof.Machine
end

