-- ==== Sys2Proof/Machine/Operands.lean ====
section
/-! DEFINITION. Frames and fields as bytes: the envelope and its check (R184), the receivers (R185), the
lengths that fit each kind (R186), and the field encodings of R187. -/

namespace Sys2Proof.Machine

/-! ## Numbers in bytes (R184: most significant byte first) -/

/-- A number in one byte. -/
def byte (n : Nat) : Byte := BitVec.ofNat 8 n

/-- A number in two bytes. -/
def be16 (n : Nat) : List Byte := [byte (n / 256), byte n]

/-- A number in four bytes. -/
def be32 (n : Nat) : List Byte := be16 (n / 65536) ++ be16 n

/-- The byte at an offset of a payload. -/
def u8 (p : List Byte) (i : Nat) : Nat := (p.getD i 0).toNat

/-- The two-byte number at an offset. -/
def u16 (p : List Byte) (i : Nat) : Nat := u8 p i * 256 + u8 p (i + 1)

/-- The four-byte number at an offset. -/
def u32 (p : List Byte) (i : Nat) : Nat := u16 p i * 65536 + u16 p (i + 2)

/-- The signed two-byte number at an offset (R187: two's complement). -/
def s16 (p : List Byte) (i : Nat) : Int :=
  if u16 p i < 32768 then (u16 p i : Int) else (u16 p i : Int) - 65536

/-- The value of a range 0 to n − 1, where the number is in it. -/
def inRange (n m : Nat) : Option (Fin n) := if h : m < n then some ⟨m, h⟩ else none

/-! ## The envelope (Table 10.1) and its check (R184) -/

/-- One step of the check register: the generator is x^16 + x^15 + x^2 + 1. -/
def crcBit (r : BitVec 16) : BitVec 16 :=
  if r.msb then (r <<< 1) ^^^ 0x8005#16 else r <<< 1

/-- The check register after one more byte, its most significant bit fed first. -/
def crcByte (r : BitVec 16) (b : Byte) : BitVec 16 :=
  let r := r ^^^ (b.setWidth 16 <<< 8)
  crcBit (crcBit (crcBit (crcBit (crcBit (crcBit (crcBit (crcBit r)))))))

/-- The check over a run of bytes; the register starts at H'FFFF (R184). -/
def crc (bytes : List Byte) : BitVec 16 := bytes.foldl crcByte 0xFFFF#16

/-- The SYNC byte (Table 10.1). -/
def sync : Byte := 0xC3

/-- The bytes that the check covers: LEN, KIND, TAG and the payload (R184). -/
def Frame.checked (f : Frame) : List Byte := be16 f.payload.length ++ f.kind :: f.tag :: f.payload

/-- A frame as the bytes on the line (Table 10.1). -/
def Frame.bytes (f : Frame) : List Byte :=
  sync :: (f.checked ++ be16 (crc f.checked).toNat)

/-- What a receiver makes of the bytes it has (R184, R185): no complete frame yet, with the bytes it
keeps; a bad frame, with the bytes after its SYNC, which are examined again; or a good frame, with the
bytes after its end. -/
inductive Received where
  | waiting (kept : List Byte)
  | bad (rest : List Byte)
  | good (frame : Frame) (rest : List Byte)
  deriving DecidableEq, Repr

/-- The hunt for the next SYNC: every byte before it is discarded (R185). -/
def hunt : List Byte → List Byte
  | [] => []
  | b :: bs => if b = sync then b :: bs else hunt bs

/-- A receiver's reading of the bytes that stand before it (R184, R185). A LEN above 1020 makes the
frame bad at once, and else the frame is complete when its LEN + 7 bytes have arrived. -/
def receive (bytes : List Byte) : Received :=
  match hunt bytes with
  | [] => .waiting []
  | s :: body =>
    if body.length < 2 then .waiting (s :: body)
    else if 1020 < u16 body 0 then .bad body
    else if body.length < u16 body 0 + 6 then .waiting (s :: body)
    else if u16 body (u16 body 0 + 4) = (crc (body.take (u16 body 0 + 4))).toNat then
      .good ⟨byte (u8 body 2), byte (u8 body 3), (body.drop 4).take (u16 body 0)⟩
        (body.drop (u16 body 0 + 6))
    else .bad body

/-! ## Kind codes (Table 10.2, Table 10.3) -/

namespace Code
abbrev identify : Byte := 0x01
abbrev status : Byte := 0x02
abbrev reset : Byte := 0x03
abbrev stationSet : Byte := 0x04
abbrev stationCtrl : Byte := 0x05
abbrev stationQuery : Byte := 0x06
abbrev classSet : Byte := 0x07
abbrev planLoad : Byte := 0x08
abbrev planRead : Byte := 0x09
abbrev lotOpen : Byte := 0x0A
abbrev lotClose : Byte := 0x0B
abbrev lotRelease : Byte := 0x0C
abbrev lotQuery : Byte := 0x0D
abbrev waferOpen : Byte := 0x0E
abbrev waferClose : Byte := 0x0F
abbrev waferReopen : Byte := 0x10
abbrev waferRelease : Byte := 0x11
abbrev waferQuery : Byte := 0x12
abbrev cellRead : Byte := 0x13
abbrev yieldQuery : Byte := 0x14
abbrev ruleSet : Byte := 0x15
abbrev ruleRead : Byte := 0x16
abbrev alarmList : Byte := 0x17
abbrev alarmAck : Byte := 0x18
abbrev alarmClear : Byte := 0x19
abbrev exportStart : Byte := 0x1A
abbrev exportMore : Byte := 0x1B
abbrev exportStop : Byte := 0x1C
/-- The reply to a bad frame or to a frame of no request kind. -/
abbrev noRequest : Byte := 0x80
abbrev notice : Byte := 0xA0
abbrev mapSegment : Byte := 0xA1
abbrev exportEnd : Byte := 0xA2
abbrev linkCheck : Byte := 0x40
abbrev waferStart : Byte := 0x41
abbrev waferEnd : Byte := 0x42
abbrev tdOpen : Byte := 0x43
abbrev tdResults : Byte := 0x44
abbrev tdClose : Byte := 0x45
abbrev tdAbort : Byte := 0x46
abbrev stationReply : Byte := 0xC0
abbrev stationHalt : Byte := 0xC1
abbrev stationResume : Byte := 0xC2
end Code

/-- The payload length that fits a request kind (Table 10.2, R186). None: the kind is no request kind.
WAFER_OPEN's length hangs on the span count the payload holds at offset 20. -/
def requestLength (kind : Byte) (payload : List Byte) : Option Nat :=
  match kind.toNat with
  | 0x01 => some 0
  | 0x02 => some 0
  | 0x03 => some 1
  | 0x04 => some 3
  | 0x05 => some 2
  | 0x06 => some 1
  | 0x07 => some 3
  | 0x08 => some 132
  | 0x09 => some 1
  | 0x0A => some 15
  | 0x0B => some 13
  | 0x0C => some 13
  | 0x0D => some 13
  | 0x0E => some (22 + 3 * u16 payload 20)
  | 0x0F => some 1
  | 0x10 => some 1
  | 0x11 => some 1
  | 0x12 => some 1
  | 0x13 => some 5
  | 0x14 => some 14
  | 0x15 => some 15
  | 0x16 => some 1
  | 0x17 => some 2
  | 0x18 => some 1
  | 0x19 => some 0
  | 0x1A => some 3
  | 0x1B => some 1
  | 0x1C => some 0
  | _ => none

/-- Whether a payload length fits a station record kind (Table 10.3, R37 step 2, R186). None: the kind
is no station record kind. TD_RESULTS holds 1 to 16 entries. -/
def recordFits (kind : Byte) (payload : List Byte) : Option Bool :=
  match kind.toNat with
  | 0x40 => some (payload.length == 0)
  | 0x41 => some (payload.length == 15)
  | 0x42 => some (payload.length == 0)
  | 0x43 => some (payload.length == 4)
  | 0x44 => some (payload.length == 3 + 6 * u8 payload 2 && 1 ≤ u8 payload 2 && u8 payload 2 ≤ 16)
  | 0x45 => some (payload.length == 2)
  | 0x46 => some (payload.length == 2)
  | _ => none

/-! ## Lot ids (R2, R187) -/

/-- A lot id character lies in H'21 to H'7E (R2). -/
def lotChar (b : Byte) : Bool := decide (0x21 ≤ b.toNat) && decide (b.toNat ≤ 0x7E)

/-- The form of a lot id (R2). -/
def LotId.wf (id : LotId) : Bool :=
  decide (1 ≤ id.length) && decide (id.length ≤ 12) && id.all lotChar

/-- The lot id of the 13-byte field at an offset; none where its form breaks R2. Character bytes beyond
the length are ignored. -/
def lotIdField (p : List Byte) (i : Nat) : Option LotId :=
  let id := (p.drop (i + 1)).take (u8 p i)
  if u8 p i ≤ 12 ∧ id.length = u8 p i ∧ LotId.wf id then some id else none

/-- A lot id as its 13-byte field. -/
def lotIdBytes (id : LotId) : List Byte :=
  byte id.length :: (id ++ List.replicate (12 - id.length) 0)

/-! ## Enumerated codes (Table 10.4) -/

def Policy.ofCode : Nat → Option Policy
  | 0 => some .latest
  | 1 => some .best
  | _ => none

def Policy.code : Policy → Byte
  | .latest => 0
  | .best => 1

def boolOfCode : Nat → Option Bool
  | 0 => some false
  | 1 => some true
  | _ => none

/-- OFF and ON, NO and YES, CLEAR and SET, and the presence byte of R187. -/
def boolCode (b : Bool) : Byte := if b then 1 else 0

def BinClass.ofCode : Nat → Option BinClass
  | 0 => some .pass
  | 1 => some .fail
  | 2 => some .void
  | 3 => some .unused
  | _ => none

def BinClass.code : BinClass → Byte
  | .pass => 0
  | .fail => 1
  | .void => 2
  | .unused => 3

def ExpiryMode.ofCode : Nat → Option ExpiryMode
  | 0 => some .commit
  | 1 => some .discard
  | _ => none

def ExpiryMode.code : ExpiryMode → Byte
  | .commit => 0
  | .discard => 1

def RuleKind.ofCode : Nat → Option RuleKind
  | 0 => some .yieldFloor
  | 1 => some .binCeiling
  | 2 => some .siteSkew
  | 3 => some .groupTimeouts
  | 4 => some .consecFail
  | 5 => some .consecVoid
  | 6 => some .linkSilent
  | _ => none

def RuleKind.code : RuleKind → Byte
  | .yieldFloor => 0
  | .binCeiling => 1
  | .siteSkew => 2
  | .groupTimeouts => 3
  | .consecFail => 4
  | .consecVoid => 5
  | .linkSilent => 6

def RuleAction.ofCode : Nat → Option RuleAction
  | 0 => some .note
  | 1 => some .hold
  | _ => none

def RuleAction.code : RuleAction → Byte
  | .note => 0
  | .hold => 1

/-- A rule's scope: H'FF is ALL, 0 to 7 one station. -/
def scopeOfCode (n : Nat) : Option (Option StationId) :=
  if n = 0xFF then some none else (inRange 8 n).map some

def scopeCode : Option StationId → Byte
  | none => 0xFF
  | some i => byte i.val

def Detail.ofCode : Nat → Option Detail
  | 0 => some .brief
  | 1 => some .full
  | _ => none

def Detail.code : Detail → Byte
  | .brief => 0
  | .full => 1

def Intake.code : Intake → Byte
  | .held => 0
  | .stopped => 1
  | .running => 2
  | .stopping => 3
  | .halted => 4
  | .faulted => 5

def LotState.code : LotState → Byte
  | .opened => 0
  | .closing => 1
  | .closed => 2

/-- A slot's state code; FREE is 0. -/
def slotStateCode : Option WaferState → Byte
  | none => 0
  | some .opening => 1
  | some .opened => 2
  | some .closing => 3
  | some .closed => 4
  | some .exporting => 5

def ResetKind.code : ResetKind → Byte
  | .powerOn => 0
  | .full => 1
  | .collation => 2

def AlarmState.code : AlarmState → Byte
  | .pending => 0
  | .raised => 1
  | .acked => 2

/-- A cause's code; NONE is 0. -/
def causeCode : Option Cause → Byte
  | none => 0
  | some .restarted => 1
  | some .mapFault => 2
  | some .alarm => 3
  | some .stationFault => 4
  | some .waferClosed => 5
  | some .lotClosed => 6
  | some .exportWaiting => 7
  | some .exportDone => 8

/-- A cause's bit in a cause set. -/
def Cause.bit : Cause → Nat
  | .restarted => 0x80
  | .mapFault => 0x40
  | .alarm => 0x20
  | .stationFault => 0x10
  | .waferClosed => 0x08
  | .lotClosed => 0x04
  | .exportWaiting => 0x02
  | .exportDone => 0x01

/-- The eight causes, in priority order (Table 9.3). -/
def Cause.all : List Cause :=
  [.restarted, .mapFault, .alarm, .stationFault, .waferClosed, .lotClosed, .exportWaiting, .exportDone]

/-- A cause set as its byte. -/
def causeSetByte (cs : List Cause) : Byte :=
  byte ((Cause.all.filter fun c => decide (c ∈ cs)).map Cause.bit).sum

def RecordOutcome.code : RecordOutcome → Byte
  | .accept => 0
  | .wait => 1
  | .refuse => 2

def reasonCode : Option Reason → Byte
  | none => 0x00
  | some .notReady => 0x01
  | some .halted => 0x02
  | some .unknownWafer => 0x03
  | some .waferBusy => 0x04
  | some .stationBound => 0x05
  | some .notBound => 0x06
  | some .groupOpen => 0x07
  | some .noGroup => 0x08
  | some .wrongTouchdown => 0x09
  | some .waferClosing => 0x0A
  | some .badKind => 0x0B
  | some .badLength => 0x0C
  | some .badField => 0x0D
  | some .badFrame => 0x0E

def EntryReason.code : EntryReason → Byte
  | .badSite => 0x21
  | .duplicateSite => 0x22
  | .dieConflict => 0x23
  | .offMap => 0x24
  | .offWafer => 0x25
  | .badBin => 0x26
  | .retestLimit => 0x27
  | .passLocked => 0x28
  | .cellDamaged => 0x29

/-- The statuses of Table 9.2. -/
inductive Status where
  | ok | pending | unknownKind | badLength | badField | badFrame | queueFull | busy | state
  | notFound | exists | noSpace | inUse | badSpans
  deriving DecidableEq, Repr

def Status.code : Status → Byte
  | .ok => 0
  | .pending => 1
  | .unknownKind => 2
  | .badLength => 3
  | .badField => 4
  | .badFrame => 5
  | .queueFull => 6
  | .busy => 7
  | .state => 8
  | .notFound => 9
  | .exists => 10
  | .noSpace => 11
  | .inUse => 12
  | .badSpans => 13

/-! ## Optional fields (R187): absent is all ones -/

def optByte : Option Nat → Byte
  | none => 0xFF
  | some n => byte n

def opt16 : Option Nat → List Byte
  | none => [0xFF, 0xFF]
  | some n => be16 n

/-! ## Frames to a station (Table 10.6) -/

/-- A REPLY's payload. -/
def StationReply.payload (r : StationReply) : List Byte :=
  [r.outcome.code, reasonCode r.reason, optByte (r.boundSlot.map Fin.val),
    optByte (r.refusals.map List.length)] ++
  (r.refusals.getD []).flatMap fun x => [byte x.site, x.reason.code]

/-- A frame to a station as an envelope (Table 10.6; HALT and RESUME carry tag 0). -/
def StationFrame.frame : StationFrame → Frame
  | .reply r => ⟨Code.stationReply, r.tag, r.payload⟩
  | .halt rule level => ⟨Code.stationHalt, 0, [byte rule.val, byte level.val]⟩
  | .resume => ⟨Code.stationResume, 0, []⟩

/-! ## Cell codes (R104, R158, Table 10.8) -/

/-- The state code: the one value of BRIEF detail. -/
def stateCode : CellRecord → Byte
  | .tested final _ _ _ _ => byte final.val
  | .untested => 64
  | .damaged => 65
  | .offWafer => 66

/-- The three values of FULL detail. -/
def fullCode (c : CellRecord) : List Byte :=
  match c with
  | .tested _ first count site _ => [stateCode c, byte first.val, byte (count * 16 + site.val)]
  | _ => [stateCode c, 0, 0]

/-- The last station; 0 for a cell that is not TESTED. -/
def lastStation : CellRecord → Nat
  | .tested _ _ _ _ station => station.val
  | _ => 0

/-- A cell's code in a detail (R158). -/
def Detail.cellCode (d : Detail) (c : CellRecord) : List Byte :=
  match d with
  | .brief => [stateCode c]
  | .full => fullCode c

/-- Last stations two to a byte, the first cell in the high four bits (Table 10.11). -/
def packStations : List Nat → List Byte
  | [] => []
  | [a] => [byte (a * 16)]
  | a :: b :: rest => byte (a * 16 + b) :: packStations rest

end Sys2Proof.Machine
end

