-- ==== Sys2Proof/Machine/Flags.lean ====
section
/-! DEFINITION. The figures that are computed from the counts, and the conditions that are read from
them: the yield arithmetic of Section 6, the transform of Section 2, the merge policy, and the
conditions of the excursion rules. None of them changes the state. -/

namespace Sys2Proof.Machine

/-! ## Counts -/

/-- A count that stays at its greatest value once it has reached it (R107). -/
def bump (top n : Nat) : Nat := if n < top then n + 1 else n

/-- A number held inside a range (Table 0.2: clamp). -/
def clamp (low high n : Nat) : Nat := if n < low then low else if high < n then high else n

/-! ## The yield arithmetic -/

/-- The ratio yield of n over d, in yield points: n / d × 10000 rounded to the nearest integer, a half
up; absent when d is 0 (R118). -/
def ratioYield (n d : Nat) : Option Nat :=
  if d = 0 then none else some ((20000 * n + d) / (2 * d))

/-- The tested yield TY (R120). -/
def Acc.testedYield (a : Acc) : Option Nat := ratioYield a.passed a.tested

/-- The gross yield GY (R120). -/
def Wafer.grossYield (w : Wafer) : Option Nat := ratioYield w.acc.passed w.gross

/-- The site yield SY (R121). -/
def SiteTriple.yield (t : SiteTriple) : Option Nat := ratioYield t.passes t.tests

/-- The bin fraction in parts per million, rounded down (R123). -/
def Acc.binFraction (a : Acc) (b : Bin) : Option Nat :=
  if a.tested = 0 then none else some (a.hist[b] * 1000000 / a.tested)

/-! ## Span lists and the gross count (R17) -/

def Span.cells (x : Span) : Nat := x.last + 1 - x.first

/-- The sum over all spans of last column − first column + 1. -/
def grossCount (spans : List Span) : Nat := (spans.map Span.cells).sum

/-- Rows strictly ascending from each span to the next. -/
def rowsAscend : List Span → Bool
  | [] => true
  | [_] => true
  | a :: b :: rest => decide (a.row < b.row) && rowsAscend (b :: rest)

/-- The three conditions of a valid span list. -/
def spansValid (cols rows : Nat) (spans : List Span) : Bool :=
  decide (1 ≤ spans.length) && decide (spans.length ≤ 256) &&
  spans.all (fun x => decide (x.first ≤ x.last) && decide (x.last < cols) && decide (x.row < rows)) &&
  rowsAscend spans

/-- The cell at a column and row lies in a span (R32). -/
def onWafer (spans : List Span) (col row : Nat) : Bool :=
  spans.any fun x => decide (x.row = row) && decide (x.first ≤ col) && decide (col ≤ x.last)

/-- What initialisation writes in the cell of an index (R19). -/
def initialRecord (cols : Nat) (spans : List Span) (index : Nat) : CellRecord :=
  if onWafer spans (index % cols) (index / cols) then .untested else .offWafer

/-! ## Die addressing (Section 2) -/

/-- Table 2.2: the station coordinates turned by the orientation. -/
def rotate (q : Fin 4) (sx sy : Int) : Int × Int :=
  match q with
  | 0 => (sx, sy)
  | 1 => (-sy, sx)
  | 2 => (-sx, -sy)
  | 3 => (sy, -sx)

/-- R29: the exact column and row. -/
def place (w : Wafer) (uv : Int × Int) : Int × Int := (w.refCol + uv.1, w.refRow - uv.2)

/-- The outcome of the transform (R33). -/
inductive Transformed where
  | offMap
  | offWafer
  | cell (index : Nat)
  deriving DecidableEq, Repr

/-- The transform of one entry (R28 to R32). -/
def transform (w : Wafer) (q : Fin 4) (sx sy : Int) : Transformed :=
  let (col, row) := place w (rotate q sx sy)
  if col < 0 ∨ (w.cols : Int) ≤ col ∨ row < 0 ∨ (w.rows : Int) ≤ row then .offMap
  else if onWafer w.spans col.toNat row.toNat then .cell (row.toNat * w.cols + col.toNat)
  else .offWafer

/-! ## The merge (Section 5) -/

/-- The class of a bin under a plan. -/
def Plan.cls (p : Plan) (b : Bin) : BinClass := p.bins[b].cls

/-- A bin of class PASS or FAIL is a result; every other is not applied (R86, R92). -/
def Plan.isResult (p : Plan) (b : Bin) : Bool :=
  match p.cls b with
  | .pass => true
  | .fail => true
  | .void => false
  | .unused => false

/-- The final bin of a retest, from the old final bin a and the entry's bin b (R89, Table 5.3). -/
def Plan.finalBin (p : Plan) (a b : Bin) : Bin :=
  match p.policy with
  | .latest => b
  | .best => if p.bins[b].rank ≤ p.bins[a].rank then b else a

/-- P after a final bin goes from a to b (R90, Table 6.3). -/
def Plan.passedAfter (p : Plan) (a b : Bin) (passed : Nat) : Nat :=
  match p.cls a, p.cls b with
  | .pass, .fail => passed - 1
  | .fail, .pass => passed + 1
  | _, _ => passed

/-- T, P and the histogram after a first result (R87). -/
def Acc.first (p : Plan) (b : Bin) (a : Acc) : Acc :=
  { a with
    tested := a.tested + 1
    passed := if p.cls b = .pass then a.passed + 1 else a.passed
    hist := a.hist.set b (a.hist[b] + 1) }

/-- P and the histogram after a retest that makes the final bin b from a (R88, R90). -/
def Acc.retest (p : Plan) (a b : Bin) (x : Acc) : Acc :=
  if a = b then x
  else
    let h := x.hist.set a (x.hist[a] - 1)
    { x with passed := p.passedAfter a b x.passed, hist := h.set b (h[b] + 1) }

/-- The greatest value of a site count and of the damaged count (Table 6.1). -/
abbrev topCount : Nat := 4294967295

/-- The site triple of an applied entry (R91). -/
def SiteTriple.test (pass : Bool) (t : SiteTriple) : SiteTriple :=
  { t with tests := bump topCount t.tests, passes := if pass then bump topCount t.passes else t.passes }

/-- The site triple of an item on the void path (R92). -/
def SiteTriple.void (t : SiteTriple) : SiteTriple := { t with voids := bump topCount t.voids }

def Acc.site (i : SiteId) (f : SiteTriple → SiteTriple) (a : Acc) : Acc :=
  { a with sites := a.sites.set i (f a.sites[i]) }

/-- The consecutive counters of one site after an applied entry (R91, Table 5.4). -/
def Station.applied (i : SiteId) (pass : Bool) (x : Station) : Station :=
  { x with
    consecFail := x.consecFail.set i (if pass then 0 else bump 255 x.consecFail[i])
    consecVoid := x.consecVoid.set i 0 }

/-- The consecutive counters of one site after an item on the void path (R92, Table 5.4). -/
def Station.voided (i : SiteId) (x : Station) : Station :=
  { x with consecVoid := x.consecVoid.set i (bump 255 x.consecVoid[i]) }

/-! ## The conditions of the rules (R131, Table 7.2) -/

/-- What an evaluation finds: whether the condition holds, and the observed value. -/
structure Finding where
  holds : Bool
  observed : Nat
  deriving DecidableEq, Repr

/-- A condition that needs an absent figure does not hold (R124). -/
def Finding.absent : Finding := ⟨false, 0⟩

/-- YIELD_FLOOR (R137). -/
def Rule.yieldFloor (r : Rule) (a : Acc) : Finding :=
  match a.testedYield with
  | none => .absent
  | some ty => ⟨decide (r.minSample ≤ a.tested) && decide (ty < r.threshold), ty⟩

/-- BIN_CEILING (R137). -/
def Rule.binCeiling (r : Rule) (a : Acc) : Finding :=
  match a.binFraction r.bin with
  | none => .absent
  | some f => ⟨decide (r.minSample ≤ a.tested) && decide (r.threshold < f), f⟩

/-- SITE_SKEW at one site (R138). -/
def Rule.siteSkew (r : Rule) (a : Acc) (i : SiteId) : Finding :=
  match a.testedYield, a.sites[i].yield with
  | some ty, some sy =>
    ⟨decide (r.minSample ≤ a.tested) && decide (r.minSample ≤ a.sites[i].tests) &&
      decide (r.threshold ≤ ty) && decide (sy < ty - r.threshold), sy⟩
  | _, _ => .absent

/-- GROUP_TIMEOUTS (R139). -/
def Rule.groupTimeouts (r : Rule) (a : Acc) : Finding :=
  ⟨decide (r.threshold ≤ a.timeouts), a.timeouts⟩

/-- CONSEC_FAIL and CONSEC_VOID: a counter against the threshold (R141). -/
def Rule.consec (r : Rule) (counter : Nat) : Finding := ⟨decide (r.threshold ≤ counter), counter⟩

/-- LINK_SILENT: the threshold is in seconds, the counter in ticks (R142). -/
def Rule.linkSilent (r : Rule) (silence : Nat) : Finding :=
  ⟨decide (r.threshold * 10 ≤ silence), silence⟩

/-- A rule is evaluated for a station only if it is enabled and its scope holds the station (R136, R139,
R142). -/
def Rule.applies (r : Rule) (st : StationId) : Bool :=
  r.enabled && decide (r.scope = none ∨ r.scope = some st)

end Sys2Proof.Machine
end

