-- ==== Sys2Proof/Machine/Ops.lean ====
section
/-! DEFINITION. The shared operations: the tables, the pending-cause set, the replies of the two links, the
map memory, the taking of requests and records, and what the end of a group completes. -/

namespace Sys2Proof.Machine

/-! ## Stations and slots -/

def State.station (s : State) (i : StationId) : Station := s.stations[i]

def State.modStation (i : StationId) (f : Station → Station) (s : State) : State :=
  { s with stations := s.stations.set i (f s.stations[i]) }

def State.slot (s : State) (n : SlotId) : Option Wafer := s.slots[n]

def State.setSlot (n : SlotId) (w : Option Wafer) (s : State) : State :=
  { s with slots := s.slots.set n w }

/-- A change of the record of a slot that is not FREE. -/
def State.modWafer (n : SlotId) (f : Wafer → Wafer) (s : State) : State :=
  s.setSlot n ((s.slot n).map f)

def State.modAcc (n : SlotId) (f : Acc → Acc) (s : State) : State :=
  s.modWafer n fun w => { w with acc := f w.acc }

/-- The station bound to a slot: the slot's bound-station field (Table 1.4, R54). -/
def State.boundStation (s : State) (n : SlotId) : Option StationId :=
  (List.finRange 8).find? fun i => decide ((s.station i).binding.map Binding.slot = some n)

/-- The binding of a station is dropped (R54), which leaves its silence counter to be set to 0 at the next
tick (R56, R57). -/
def State.unbind (i : StationId) (s : State) : State :=
  s.modStation i fun x => { x with binding := none, silenceEnds := true }

/-- The binding of a slot, if any, is dropped (R21 step 1). -/
def State.unbindSlot (n : SlotId) (s : State) : State :=
  match s.boundStation n with
  | none => s
  | some i => s.unbind i

/-- The slots in a state (R176). -/
def State.countSlots (s : State) (w : Option WaferState) : Nat :=
  ((List.finRange 32).filter fun n => decide ((s.slot n).map Wafer.state = w)).length

/-- The slot that holds a wafer of a lot in one of the given states (R18 step 5, R55 step 3). -/
def State.findWafer (s : State) (states : List WaferState) (id : LotId) (number : Nat) :
    Option SlotId :=
  (List.finRange 32).find? fun n =>
    match s.slot n with
    | none => false
    | some w => decide (w.state ∈ states) && decide (w.lot = id) && decide (w.number = number)

/-- The lowest-numbered FREE slot (R19). -/
def State.freeSlot (s : State) : Option SlotId :=
  (List.finRange 32).find? fun n => decide (s.slot n = none)

/-! ## Lots and plans -/

/-- Lookup by id among the entries that hold a lot (R2). -/
def State.findLot (s : State) (id : LotId) : Option (Fin 16) :=
  (List.finRange 16).find? fun e => decide (s.lots[e].map Lot.id = some id)

/-- The lowest-numbered free entry (R3). -/
def State.freeLot (s : State) : Option (Fin 16) :=
  (List.finRange 16).find? fun e => decide (s.lots[e] = none)

def State.setLot (e : Fin 16) (l : Option Lot) (s : State) : State := { s with lots := s.lots.set e l }

def State.modLot (e : Fin 16) (f : Lot → Lot) (s : State) : State := s.setLot e (s.lots[e].map f)

/-- The lot a slot's record names. -/
def State.lotOf (s : State) (id : LotId) : Option Lot := (s.findLot id).bind fun e => s.lots[e]

/-- The plan of a lot (R11). Every slot that is not FREE names a lot; without it, a reset plan (DESIGN
CHOICE, unsafe, log 14). -/
def State.planOf (s : State) (id : LotId) : Plan :=
  match s.lotOf id with
  | some l => s.plans[l.plan]
  | none => Plan.reset

def Totals.zero : Totals := ⟨0, 0, 0, Vector.replicate 64 0⟩

/-- The accumulators of a new wafer (R19, R108). -/
def Acc.zero : Acc :=
  ⟨0, 0, Vector.replicate 64 0, Vector.replicate 16 ⟨0, 0, 0⟩, 0, 0⟩

def Totals.add (a b : Totals) : Totals :=
  ⟨a.tested + b.tested, a.passed + b.passed, a.gross + b.gross,
    Vector.ofFn fun i => a.hist[i] + b.hist[i]⟩

def Totals.sub (a b : Totals) : Totals :=
  ⟨a.tested - b.tested, a.passed - b.passed, a.gross - b.gross,
    Vector.ofFn fun i => a.hist[i] - b.hist[i]⟩

/-- The closing totals of a wafer, from its accumulators (R115). -/
def Wafer.totals (w : Wafer) : Totals := ⟨w.acc.tested, w.acc.passed, w.gross, w.acc.hist⟩

/-- A wafer number at its place in an ascending list (R7). -/
def insertNumber (n : Nat) : List Nat → List Nat
  | [] => [n]
  | m :: ms => if n < m then n :: m :: ms else m :: insertNumber n ms

/-- A wafer joins its lot's closed list and totals (R7). -/
def Lot.join (number : Nat) (t : Totals) (l : Lot) : Lot :=
  { l with closedList := insertNumber number l.closedList, totals := l.totals.add t }

/-- A wafer leaves its lot's closed list and totals (R7). -/
def Lot.leave (number : Nat) (t : Totals) (l : Lot) : Lot :=
  { l with closedList := l.closedList.filter (· ≠ number), totals := l.totals.sub t }

/-! ## The pending-cause set and the NOTICE -/

/-- The notice flag of Table 9.1: a NOTICE waits on the ready list. -/
def State.noticeWaits (s : State) : Bool := decide (ReadyFrame.notice ∈ s.ready)

/-- A cause is added to the set; where the set was empty and no NOTICE waits, a NOTICE becomes ready
(R174, R175). -/
def State.addCause (c : Cause) (s : State) : State :=
  if c ∈ s.causes then s
  else
    { s with
      causes := Cause.all.filter fun x => decide (x = c ∨ x ∈ s.causes)
      ready := if s.causes = [] ∧ s.noticeWaits = false then s.ready ++ [.notice] else s.ready }

/-- A cause leaves the set (R174). -/
def State.dropCause (c : Cause) (s : State) : State :=
  { s with causes := s.causes.filter fun x => decide (x ≠ c) }

/-- The cause of highest priority in the set (R176). -/
def State.topCause (s : State) : Option Cause := Cause.all.find? fun c => decide (c ∈ s.causes)

/-! ## Replies on the host link -/

/-- The immediate replies on the ready list (Table 9.1). -/
def State.immediateWaiting (s : State) : Nat :=
  s.ready.countP fun f => match f with
    | .reply true _ => true
    | _ => false

/-- The replies to carried-out requests on the ready list (R171, R173). -/
def State.carriedWaiting (s : State) : Nat :=
  s.ready.countP fun f => match f with
    | .reply false _ => true
    | _ => false

/-- The reply to a request of this kind, tag and status (R172): the request's kind code plus H'80. -/
def replyFrame (kind tag : Byte) (st : Status) (body : List Byte) : Frame :=
  ⟨kind + 0x80, tag, st.code :: body⟩

/-- A frame joins the ready list. -/
def State.makeReady (f : ReadyFrame) (s : State) : State := { s with ready := s.ready ++ [f] }

/-- The reply to a request carried out becomes ready (R171). -/
def State.answer (kind tag : Byte) (st : Status) (body : List Byte) (s : State) : State :=
  s.makeReady (.reply false (replyFrame kind tag st body))

/-- The reply OK with its fields. -/
def State.ok (r : Frame) (body : List Byte) (s : State) : State := s.answer r.kind r.tag .ok body

/-- A reply that is a status alone. -/
def State.status (r : Frame) (st : Status) (s : State) : State := s.answer r.kind r.tag st []

/-! ## Taking a request (R171) -/

/-- The Host Link Controller can take a request: RST is released, no request is in progress and fewer
than 8 replies to carried-out requests wait. -/
def State.hostReady (s : State) : Bool :=
  decide (s.rst = false) && decide (s.inProgress = none) && decide (s.carriedWaiting < 8)

/-- The oldest request is taken and carried out, if the controller can take one and the oldest is the
one this command stands for. Otherwise the step does not come about and nothing changes (DESIGN CHOICE,
unsafe, log 2). -/
def State.takeRequest (accepts : Frame → Bool) (carry : Frame → State → State) (s : State) : State :=
  match s.requests with
  | [] => s
  | r :: rest =>
    if s.hostReady = true ∧ accepts r = true then carry r { s with requests := rest } else s

/-- The request is of a kind. -/
def ofKind (k : Byte) (r : Frame) : Bool := decide (r.kind = k)

/-- The request is of a kind that carries a code at an offset, and the code is the one this command
stands for, or one that Table 10.4 does not define, which is answered BAD_FIELD
(DESIGN CHOICE, safe, log 7). -/
def ofCode (k : Byte) (offset n code : Nat) (r : Frame) : Bool :=
  decide (r.kind = k) && (decide (u8 r.payload offset = code) || decide (n ≤ u8 r.payload offset))

/-! ## The transmit lists of the stations (R41) -/

def Station.push (f : StationFrame) (x : Station) : Station := { x with transmit := x.transmit ++ [f] }

/-- A REPLY that the Station Link Controller makes at once: none is made while 14 frames wait (R41). -/
def Station.answer (r : StationReply) (x : Station) : Station :=
  if x.transmit.length < 14 then x.push (.reply r) else x

/-- A HALT or RESUME becomes ready: it is not placed while 15 frames wait (R41). -/
def Station.order (f : StationFrame) (x : Station) : Station :=
  if x.transmit.length < 15 then x.push f else x

/-- The Collation Engine's REPLY becomes ready; in FAULTED it is discarded (R41, R48). -/
def Station.deliver (r : StationReply) (x : Station) : Station :=
  if x.intake = .faulted then x else x.push (.reply r)

def StationReply.refuse (tag : Byte) (why : Reason) : StationReply := ⟨tag, .refuse, some why, none, none⟩

def StationReply.accept (tag : Byte) : StationReply := ⟨tag, .accept, none, none, none⟩

def StationReply.wait (tag : Byte) : StationReply := ⟨tag, .wait, none, none, none⟩

def State.deliver (i : StationId) (r : StationReply) (s : State) : State := s.modStation i (Station.deliver r)

def State.refuse (i : StationId) (tag : Byte) (why : Reason) (s : State) : State :=
  s.deliver i (.refuse tag why)

/-! ## Taking a station record (R43, R52) -/

/-- A queue that holds a record waits while its transmit list holds fewer than 14 frames (R52). -/
def Station.waits (x : Station) : Bool := decide (x.staging ≠ []) && decide (x.transmit.length < 14)

/-- The ports in the order of the search: the last granted port + 1, + 2, and so on, modulo 8. -/
def searchOrder (last : StationId) : List StationId := (List.finRange 8).map fun k => last + 1 + k

/-- A candidate of the grant: a waiting queue, with no waiting queue of a lower priority code (R52). -/
def State.candidate (s : State) (i : StationId) : Bool :=
  (s.station i).waits &&
    (List.finRange 8).all fun j =>
      !(s.station j).waits || decide ((s.station i).priority ≤ (s.station j).priority)

/-- The grant: of the candidates, the first in the search order (R52). -/
def State.grant (s : State) : Option StationId := (searchOrder s.lastGranted).find? s.candidate

/-- A restart waits, so the Intake Arbiter makes no grant (R182). -/
def State.restarting (s : State) : Bool :=
  match s.inProgress with
  | some (.restarting _) => true
  | _ => false

/-- The station has an open group whose timer has run out. -/
def Station.expired (x : Station) : Bool := decide (x.group.map Group.timer = some 0)

/-- The expiry to be taken next: of those fallen due, that of the lowest station. R72 gives this order for the
expiries of one tick; that it holds for those of different ticks too is the model's choice (DESIGN CHOICE,
unsafe, log 25). -/
def State.dueExpiry (s : State) : Option StationId :=
  (List.finRange 8).find? fun i => (s.station i).expired

/-- The Collation Engine can take a record: RST is released, no restart waits, and no expiry that has
fallen due waits to be taken first (R72, R182). -/
def State.engineReady (s : State) : Bool :=
  decide (s.rst = false) && !s.restarting && decide (s.dueExpiry = none)

/-- The Intake Arbiter grants a queue and the Collation Engine takes its oldest record, if that record
is of the kind this command stands for; otherwise the step does not come about (DESIGN CHOICE, unsafe,
log 2). -/
def State.takeRecord (k : Byte) (carry : StationId → Frame → State → State) (s : State) : State :=
  match s.grant with
  | none => s
  | some i =>
    match (s.station i).staging with
    | [] => s
    | r :: rest =>
      if s.engineReady = true ∧ r.kind = k then
        carry i r
          (({ s with lastGranted := i } : State).modStation i fun x => { x with staging := rest })
      else s

/-- The state check of R43 (Table 3.6): the reason a record is refused in an intake state. The queue is
empty in HELD and FAULTED, so no record is taken there; FAULTED answers as HELD
(DESIGN CHOICE, unsafe, log 14). -/
def stateCheck (k : Byte) : Intake → Option Reason
  | .running => none
  | .stopping => if k = Code.waferStart ∨ k = Code.tdOpen then some .notReady else none
  | .halted => if k = Code.tdOpen then some .halted else none
  | .stopped => some .notReady
  | .held => some .notReady
  | .faulted => some .notReady

/-! ## The map memory (Section 5) -/

/-- The address of a cell index in a slot's area (R82). -/
def cellAddress (n : SlotId) (index : Nat) : Nat := n.val * 65536 + index

/-- The word at an address. -/
def Mem.word : Mem → Nat → CellWord
  | [], a => Config.undefinedWord a
  | (b, w) :: rest, a => if a = b then w else Mem.word rest a

/-- A word is written; the list keeps its order. -/
def Mem.write (a : Nat) (w : CellWord) : Mem → Mem
  | [] => [(a, w)]
  | (b, v) :: rest =>
    if a < b then (a, w) :: (b, v) :: rest
    else if a = b then (a, w) :: rest
    else (b, v) :: Mem.write a w rest

/-- A run of n words from an address is written, each clean, replacing what stood there (R19). -/
def Mem.writeRun (base n : Nat) (f : Nat → CellRecord) (m : Mem) : Mem :=
  m.filter (fun x => decide (x.1 < base)) ++
  (List.range n).map (fun k => (base + k, ⟨f k, .clean⟩)) ++
  m.filter (fun x => decide (base + n ≤ x.1))

/-- The canonical form: addresses strictly rising, so no address is listed twice. -/
abbrev Mem.wf (m : Mem) : Prop := m.Pairwise fun x y => x.1 < y.1

/-- A word written by the controller has fresh check bits (R96). -/
def State.writeCell (n : SlotId) (index : Nat) (c : CellRecord) (s : State) : State :=
  { s with mem := s.mem.write (cellAddress n index) ⟨c, .clean⟩ }

/-- The word of a cell as it stands. -/
def State.cellWord (s : State) (n : SlotId) (index : Nat) : CellWord := s.mem.word (cellAddress n index)

/-- A correctable error is found: the word is written back corrected and the count rises (R97). -/
def State.correct (n : SlotId) (index : Nat) (c : CellRecord) (s : State) : State :=
  { s.writeCell n index c with corrected := bump 65535 s.corrected }

/-- An uncorrectable error is found: the word is rewritten DAMAGED, the slot's damaged count rises and
MAP_FAULT is added (R98). -/
def State.damage (n : SlotId) (index : Nat) (s : State) : State :=
  ((s.writeCell n index .damaged).modAcc n fun a => { a with damaged := bump topCount a.damaged }).addCause
    .mapFault

/-- A read of a cell through the Map Memory Controller: the state after it and the record handed to the
user (R96, R97, R98). -/
def State.readCell (n : SlotId) (index : Nat) (s : State) : State × CellRecord :=
  match (s.cellWord n index).health with
  | .clean => (s, (s.cellWord n index).record)
  | .correctable =>
    (s.correct n index (s.cellWord n index).record, (s.cellWord n index).record)
  | .uncorrectable => (s.damage n index, .damaged)

/-- The cells of a run of consecutive indexes, read in ascending order. -/
def State.readRun (n : SlotId) (base : Nat) : Nat → State → State × List CellRecord
  | 0, s => (s, [])
  | k + 1, s =>
    let (t, cs) := s.readRun n base k
    let (u, c) := t.readCell n (base + k)
    (u, cs ++ [c])

/-- What an error does to a word that already holds one. -/
def strikeHealth : WordHealth → ErrorKind → WordHealth
  | .uncorrectable, _ => .uncorrectable
  | _, .correctable => .correctable
  | _, .uncorrectable => .uncorrectable

/-- An error strikes the word at an address. A word that nothing has written is undefined as it is. -/
def Mem.strike (a : Nat) (k : ErrorKind) : Mem → Mem
  | [] => []
  | (b, w) :: rest =>
    if a = b then (b, { w with health := strikeHealth w.health k }) :: rest
    else (b, w) :: Mem.strike a k rest

/-- The errors that the external memory has suffered before a step reads it (DESIGN CHOICE, safe,
log 4). -/
def State.upset (us : List Upset) (s : State) : State :=
  us.foldl
    (fun s u =>
      if u.cell < 65536 then { s with mem := s.mem.strike (cellAddress u.slot u.cell) u.kind } else s)
    s

/-! ## What the end of a group completes (R21, R73) -/

/-- The lot's active slot count falls by 1; a CLOSING lot whose count so reaches 0 becomes CLOSED and
LOT_CLOSED is added (R4, R6). -/
def State.releaseActive (id : LotId) (s : State) : State :=
  match s.findLot id with
  | none => s
  | some e =>
    match s.lots[e] with
    | none => s
    | some l =>
      if l.active - 1 = 0 ∧ l.state = .closing then
        (s.setLot e (some { l with active := 0, state := .closed })).addCause .lotClosed
      else s.setLot e (some { l with active := l.active - 1 })

/-- Close completion (R21), in its six steps. -/
def State.completeClose (n : SlotId) (deferred : Bool) (s : State) : State :=
  match s.slot n with
  | none => s
  | some w =>
    let s := s.unbindSlot n
    let s := match s.findLot w.lot with
      | none => s
      | some e => s.modLot e (Lot.join w.number w.totals)
    let s := s.setSlot n (some { w with state := .closed, closing := some w.totals })
    let s := if deferred then s.addCause .waferClosed else s
    s.releaseActive w.lot

/-- The slot is in a state. -/
def State.slotIs (s : State) (n : SlotId) (w : WaferState) : Bool :=
  decide ((s.slot n).map Wafer.state = some w)

/-- A CLOSING slot completes its close (R73 step 1). -/
def State.finishClosing (n : SlotId) (s : State) : State :=
  if s.slotIs n .closing then s.completeClose n true else s

/-- A STOP reaches STOPPED, which leaves the silence counter to be set to 0 at the next tick (R46, R57). -/
def Station.stopped (x : Station) : Station := { x with intake := .stopped, silenceEnds := true }

/-- A STOPPING station moves to STOPPED at the end of its group (R73 step 2, R46). -/
def Station.finishStop (x : Station) : Station := if x.intake = .stopping then x.stopped else x

/-- The end of a group (R73): the place becomes empty, a CLOSING slot completes its close and a STOPPING
station becomes STOPPED. -/
def State.endGroup (i : StationId) (s : State) : State :=
  let b := (s.station i).binding
  let s := s.modStation i fun x => { x with group := none }
  let s := match b with
    | none => s
    | some b => s.finishClosing b.slot
  s.modStation i Station.finishStop

/-- An open group is discarded: no cell, no counter and no rule is touched (R71, R74, R75). -/
def State.discardGroup (i : StationId) (s : State) : State :=
  if (s.station i).group.isSome then s.endGroup i else s

/-! ## The end of an export -/

/-- A slot in EXPORTING becomes CLOSED. -/
def Wafer.endExport (w : Wafer) : Wafer := if w.state = .exporting then { w with state := .closed } else w

/-- The Map Export Unit returns to IDLE and its slot to CLOSED; an offered frame is discarded. -/
def State.endExport (s : State) : State :=
  match s.mex with
  | none => s
  | some m => ({ s with mex := none } : State).modWafer m.slot Wafer.endExport

/-- A running export is stopped and EXPORT_WAITING leaves the set (R163 steps 3 and 4, R166). -/
def State.haltExport (s : State) : State := s.endExport.dropCause .exportWaiting

end Sys2Proof.Machine
end

