-- ==== Sys2Proof/Machine/Excursion.lean ====
section
/-! DEFINITION. The Excursion Monitor (Section 7): trip states, the recording of alarms, the evaluations,
and the commands RULE_SET, RULE_READ, ALARM_LIST, ALARM_ACK and ALARM_CLEAR. -/

namespace Sys2Proof.Machine

/-! ## The trip states (R134) -/

/-- Watches become ARMED. -/
def State.arm (which : Watch → Bool) (s : State) : State :=
  { s with tripped := s.tripped.filter fun w => !which w }

def Watch.ofRule (r : Fin 16) : Watch → Bool
  | .slot k _ => decide (k = r)
  | .slotSite k _ _ => decide (k = r)
  | .probe k _ _ => decide (k = r)
  | .link k _ => decide (k = r)

def Watch.ofSlot (n : SlotId) : Watch → Bool
  | .slot _ m => decide (m = n)
  | .slotSite _ m _ => decide (m = n)
  | .probe _ _ _ => false
  | .link _ _ => false

def Watch.probeOf (i : StationId) : Watch → Bool
  | .probe _ j _ => decide (j = i)
  | _ => false

def Watch.linkOf (i : StationId) : Watch → Bool
  | .link _ j => decide (j = i)
  | _ => false

/-- The watches of the station kinds (Table 7.3). -/
def Watch.ofStationKind : Watch → Bool
  | .slot _ _ => false
  | .slotSite _ _ _ => false
  | .probe _ _ _ => true
  | .link _ _ => true

/-! ## Holds (R47, R148) -/

/-- The Station Link Controller takes a hold: a RUNNING station becomes HALTED and a HALT frame is placed;
in any other intake state nothing changes (R47). -/
def Station.hold (rule : Fin 16) (level : Fin 8) (x : Station) : Station :=
  if x.intake = .running then ({ x with intake := .halted } : Station).order (.halt rule level) else x

/-- The station an alarm's hold names: for a station kind the watched station, for a slot kind the
station bound to the slot at this moment (R148). -/
def State.heldStation (a : Alarm) (s : State) : Option StationId :=
  match a.slot with
  | none => some a.station
  | some n => s.boundStation n

/-- The alarm's action (R148). -/
def State.act (a : Alarm) (s : State) : State :=
  match a.action with
  | .note => s
  | .hold =>
    match s.heldStation a with
    | none => s
    | some i => s.modStation i (Station.hold a.rule a.level)

/-! ## Recording an alarm (R144 to R148) -/

/-- The entry that an alarm repeats into: not ACKED, of the same rule, slot, station and site (R144). -/
def Alarm.repeatsInto (a e : Alarm) : Bool :=
  decide (e.state ≠ .acked ∧ e.rule = a.rule ∧ e.slot = a.slot ∧ e.station = a.station ∧ e.site = a.site)

/-- A repeat in an entry (R144). -/
def Alarm.repeated (observed : Nat) (e : Alarm) : Alarm :=
  { e with repeats := bump 255 e.repeats, observed := observed }

/-- The highest level in the list: that of the least urgent entry (R146). -/
def worstLevel (es : List Alarm) : Nat := (es.map fun e => e.level.val).foldl max 0

/-- The alarm is put into the list: the list and OVERFLOW after it, and the index of the entry it stands
in, if it was stored (R144, R145, R146). -/
def storeAlarm (a : Alarm) (es : List Alarm) (overflow : Bool) : List Alarm × Bool × Option Nat :=
  match es.findIdx? a.repeatsInto with
  | some k => (es.modify k (Alarm.repeated a.observed), overflow, some k)
  | none =>
    if es.length < 32 then (es ++ [a], overflow, some es.length)
    else if es.any (fun e => decide (e.state = .acked)) then
      let rest := es.eraseP fun e => decide (e.state = .acked)
      (rest ++ [a], overflow, some rest.length)
    else if a.level.val < worstLevel es then
      let rest := es.eraseP fun e => decide (e.level.val = worstLevel es)
      (rest ++ [a], true, some rest.length)
    else (es, true, none)

/-- The raise of an entry: PENDING below CAL becomes RAISED, CAL takes its level and ALARM is added
(R147). -/
def State.raise (k : Nat) (s : State) : State :=
  match s.alarms[k]? with
  | none => s
  | some e =>
    if e.state = .pending ∧ e.level.val < s.cal then
      State.addCause .alarm
        { s with alarms := s.alarms.set k { e with state := .raised }, cal := e.level.val }
    else s

/-- The recording of an alarm, whole (R144 to R148). -/
def State.record (a : Alarm) (s : State) : State :=
  let (es, o, k) := storeAlarm a s.alarms s.overflow
  let s : State := { s with alarms := es, overflow := o }
  let s := match k with
    | none => s
    | some k => s.raise k
  s.act a

/-! ## Evaluation (R135) -/

/-- The alarm of a trip (Table 7.5): its entry when new, with one repeat and PENDING. -/
def Rule.alarm (r : Rule) (k : Fin 16) (slot : Option SlotId) (st : StationId) (site : Option SiteId)
    (observed : Nat) : Alarm :=
  ⟨k, r.kind, r.level, r.action, slot, st, site, observed, r.threshold, 1, .pending⟩

/-- One watch is evaluated: its trip state changes by Table 7.4, and a trip records its alarm. -/
def State.judge (w : Watch) (f : Finding) (a : Alarm) (s : State) : State :=
  if w ∈ s.tripped then
    if f.holds then s else { s with tripped := s.tripped.filter fun x => decide (x ≠ w) }
  else if f.holds then State.record a { s with tripped := w :: s.tripped }
  else s

/-- The accumulators of a slot; a FREE slot, which no commit reaches, has none. -/
def State.accOf (s : State) (n : SlotId) : Acc :=
  match s.slot n with
  | none => Acc.zero
  | some w => w.acc

/-- A watch of a slot, evaluated with the slot's accumulators as they stand. -/
def State.judgeSlot (k : Fin 16) (n : SlotId) (st : StationId) (f : Rule → Acc → Finding) (s : State) :
    State :=
  let r := s.rules[k]
  let x := f r (s.accOf n)
  s.judge (.slot k n) x (r.alarm k (some n) st none x.observed)

/-- SITE_SKEW: the 16 watches of the slot, site 0 first. -/
def State.judgeSkew (k : Fin 16) (n : SlotId) (st : StationId) (s : State) : State :=
  (List.finRange 16).foldl
    (fun s i =>
      let r := s.rules[k]
      let x := r.siteSkew (s.accOf n) i
      s.judge (.slotSite k n i) x (r.alarm k (some n) st (some i) x.observed))
    s

/-- CONSEC_FAIL and CONSEC_VOID: the 16 watches of the station, site 0 first. -/
def State.judgeProbe (k : Fin 16) (st : StationId) (counter : Station → SiteId → Nat) (s : State) :
    State :=
  (List.finRange 16).foldl
    (fun s i =>
      let r := s.rules[k]
      let x := r.consec (counter (s.station st) i)
      s.judge (.probe k st i) x (r.alarm k none st (some i) x.observed))
    s

/-- One rule at a commit evaluation (R136). -/
def State.commitRule (n : SlotId) (st : StationId) (s : State) (k : Fin 16) : State :=
  if s.rules[k].applies st then
    match s.rules[k].kind with
    | .yieldFloor => s.judgeSlot k n st Rule.yieldFloor
    | .binCeiling => s.judgeSlot k n st Rule.binCeiling
    | .siteSkew => s.judgeSkew k n st
    | .groupTimeouts => s
    | .consecFail => s.judgeProbe k st fun x i => x.consecFail[i]
    | .consecVoid => s.judgeProbe k st fun x i => x.consecVoid[i]
    | .linkSilent => s
  else s

/-- The commit evaluation: the rules in ascending number, for the committed slot and the committing
station (R136). -/
def State.evalCommit (n : SlotId) (st : StationId) (s : State) : State :=
  (List.finRange 16).foldl (State.commitRule n st) s

/-- One rule at the GROUP_TIMEOUTS evaluation of an expiry (R139). -/
def State.timeoutRule (n : SlotId) (st : StationId) (s : State) (k : Fin 16) : State :=
  if s.rules[k].applies st && decide (s.rules[k].kind = .groupTimeouts) then
    s.judgeSlot k n st Rule.groupTimeouts
  else s

/-- The GROUP_TIMEOUTS evaluation of an expiry, the rules in ascending number (R139). -/
def State.evalTimeouts (n : SlotId) (st : StationId) (s : State) : State :=
  (List.finRange 16).foldl (State.timeoutRule n st) s

/-- One rule at the LINK_SILENT evaluation of a station (R142). -/
def State.silenceRule (st : StationId) (s : State) (k : Fin 16) : State :=
  if s.rules[k].applies st && decide (s.rules[k].kind = .linkSilent) then
    let r := s.rules[k]
    let x := r.linkSilent (s.station st).silence
    s.judge (.link k st) x (r.alarm k none st none x.observed)
  else s

/-- The LINK_SILENT evaluation of a tick for one station, the rules in ascending number (R142). -/
def State.evalSilence (s : State) (st : StationId) : State :=
  (List.finRange 16).foldl (State.silenceRule st) s

/-! ## RULE_SET and RULE_READ -/

/-- The clamping of R132, by the kind. The number is in range by its kind, so a bin above 63 of another
kind is held as 0. -/
def Rule.clamped (enabled : Bool) (kind : RuleKind) (scope : Option StationId) (bin threshold sample : Nat)
    (level : Fin 8) (action : RuleAction) : Rule where
  enabled := enabled
  kind := kind
  scope := scope
  bin := if kind = .binCeiling then Fin.ofNat 64 bin else 0
  threshold :=
    match kind with
    | .yieldFloor => clamp 0 10000 threshold
    | .siteSkew => clamp 0 10000 threshold
    | .binCeiling => clamp 0 1000000 threshold
    | .groupTimeouts => clamp 1 65535 threshold
    | .consecFail => clamp 1 255 threshold
    | .consecVoid => clamp 1 255 threshold
    | .linkSilent => clamp 1 255 threshold
  minSample :=
    match kind with
    | .yieldFloor => clamp 1 65535 sample
    | .siteSkew => clamp 1 65535 sample
    | .binCeiling => clamp 1 65535 sample
    | .groupTimeouts => 1
    | .consecFail => 1
    | .consecVoid => 1
    | .linkSilent => 1
  level := level
  action := action

/-- A rule's fields as they are reported, in the order of Table 7.1 (R132, R133; DEDUCED,
unsafe, log 8). -/
def Rule.fields (r : Rule) : List Byte :=
  [boolCode r.enabled, r.kind.code, scopeCode r.scope, byte r.bin.val] ++ be32 r.threshold ++
  be32 r.minSample ++ [byte r.level.val, r.action.code]

/-- The rule that a RULE_SET asks for, where its fields pass steps 2 and 3 of R132. -/
def ruleFields (p : List Byte) : Option Rule :=
  match boolOfCode (u8 p 1), RuleKind.ofCode (u8 p 2), RuleAction.ofCode (u8 p 14), scopeOfCode (u8 p 3),
    inRange 8 (u8 p 13) with
  | some enabled, some kind, some action, some scope, some level =>
    if kind = .binCeiling ∧ 63 < u8 p 4 then none
    else some (Rule.clamped enabled kind scope (u8 p 4) (u32 p 5) (u32 p 9) level action)
  | _, _, _, _, _ => none

/-- RULE_SET is carried out (R132, R134). -/
def State.ruleSet (r : Frame) (s : State) : State :=
  match inRange 16 (u8 r.payload 0), ruleFields r.payload with
  | some k, some x => (({ s with rules := s.rules.set k x } : State).arm (Watch.ofRule k)).ok r x.fields
  | _, _ => s.status r .badField

/-- RULE_READ is carried out (R133). -/
def State.ruleRead (r : Frame) (s : State) : State :=
  match inRange 16 (u8 r.payload 0) with
  | some k => s.ok r s.rules[k].fields
  | none => s.status r .badField

/-! ## ALARM_LIST, ALARM_ACK and ALARM_CLEAR -/

/-- An alarm entry with its index, as sent (Table 10.12). -/
def Alarm.fields (index : Nat) (e : Alarm) : List Byte :=
  [byte index, byte e.rule.val, e.kind.code, byte e.level.val, e.action.code,
    optByte (e.slot.map Fin.val), byte e.station.val, optByte (e.site.map Fin.val)] ++
  be32 e.observed ++ be32 e.threshold ++ [byte e.repeats, e.state.code]

/-- The entries of a range of indexes, each with its index (R151). -/
def alarmRange (first count : Nat) (es : List Alarm) : List (Nat × Alarm) :=
  ((List.range es.length).zip es).filter fun x => decide (first ≤ x.1 ∧ x.1 < first + count)

/-- ALARM_LIST is carried out (R151). -/
def State.alarmList (r : Frame) (s : State) : State :=
  let first := u8 r.payload 0
  let count := u8 r.payload 1
  if 31 < first ∨ count = 0 ∨ 32 < count then s.status r .badField
  else
    let es := alarmRange first count s.alarms
    s.ok r
      ([byte s.alarms.length, byte s.cal, boolCode s.overflow, byte es.length] ++
        es.flatMap fun x => x.2.fields x.1)

/-- Every RAISED entry becomes ACKED (R149 step 1). -/
def Alarm.acknowledged (e : Alarm) : Alarm :=
  match e.state with
  | .raised => { e with state := .acked }
  | _ => e

/-- The lowest level among the PENDING entries; 8 when there is none. -/
def pendingLevel (es : List Alarm) : Nat :=
  ((es.filter fun e => decide (e.state = .pending)).map fun e => e.level.val).foldl min 8

/-- The most urgent PENDING entry: of the lowest level, and the oldest of those (R149 step 3). -/
def urgentPending (es : List Alarm) : Option Nat :=
  es.findIdx? fun e => decide (e.state = .pending ∧ e.level.val = pendingLevel es)

/-- The three steps of R149. -/
def State.acknowledge (level : Nat) (s : State) : State :=
  let s : State := { s with alarms := s.alarms.map Alarm.acknowledged, cal := clamp 0 8 level }
  match urgentPending s.alarms with
  | none => s
  | some k => s.raise k

/-- ALARM_ACK is carried out (R149). -/
def State.alarmAck (r : Frame) (s : State) : State :=
  let s := s.acknowledge (u8 r.payload 0)
  s.ok r [byte s.cal]

/-- ALARM_CLEAR is carried out (R150). -/
def State.alarmClear (r : Frame) (s : State) : State :=
  let es := s.alarms.filter fun e => decide (e.state ≠ .acked)
  ({ s with alarms := es, overflow := false } : State).ok r [byte es.length]

/-! ## The commands -/

/-- RULE_SET (R132): every field of a rule is set, with clamping, and its watches become ARMED. -/
def execRuleSet (s : State) : Host.Outcome State Fault Refusal :=
  .next (s.takeRequest (ofKind Code.ruleSet) State.ruleSet)

/-- RULE_READ (R133). -/
def execRuleRead (s : State) : Host.Outcome State Fault Refusal :=
  .next (s.takeRequest (ofKind Code.ruleRead) State.ruleRead)

/-- ALARM_LIST (R151). -/
def execAlarmList (s : State) : Host.Outcome State Fault Refusal :=
  .next (s.takeRequest (ofKind Code.alarmList) State.alarmList)

/-- ALARM_ACK (R149). -/
def execAlarmAck (s : State) : Host.Outcome State Fault Refusal :=
  .next (s.takeRequest (ofKind Code.alarmAck) State.alarmAck)

/-- ALARM_CLEAR (R150). -/
def execAlarmClear (s : State) : Host.Outcome State Fault Refusal :=
  .next (s.takeRequest (ofKind Code.alarmClear) State.alarmClear)

end Sys2Proof.Machine
end

