-- ==== Sys2Proof/Machine/HostLink.lean ====
section
/-! DEFINITION. The Host Link Controller (Section 9): HOST_FRAME_RECEIVE, IDENTIFY, STATUS, and what its
transmitter takes from the ready list. -/

namespace Sys2Proof.Machine

/-! ## The frame checker (R169, R170) -/

/-- An immediate reply is placed on the ready list; where it would be the ninth, the frame is discarded
with no reply (R173). -/
def State.immediate (f : Frame) (s : State) : State :=
  if s.immediateWaiting < 8 then s.makeReady (.reply true f) else s

/-- A bad frame is answered BAD_FRAME with tag 0 and reply kind H'80 (R169 step 1). -/
def State.hostBad (s : State) : State := s.immediate ⟨Code.noRequest, 0, [Status.badFrame.code]⟩

/-- A good frame is examined: its kind, its length, and the room in the queue (R169 steps 2 to 4,
R170). -/
def State.hostGood (f : Frame) (s : State) : State :=
  match requestLength f.kind f.payload with
  | none => s.immediate ⟨Code.noRequest, f.tag, [Status.unknownKind.code]⟩
  | some n =>
    if f.payload.length ≠ n then s.immediate (replyFrame f.kind f.tag .badLength [])
    else if s.requests.length < 4 then { s with requests := s.requests ++ [f] }
    else s.immediate (replyFrame f.kind f.tag .queueFull [])

/-- The receiver examines the frames that are complete, one after another. Each takes at least its SYNC,
so as many turns as bytes are enough (log 9). -/
def State.hostReceive : Nat → List Byte → State → State
  | 0, bytes, s => { s with hostRx := bytes }
  | k + 1, bytes, s =>
    match receive bytes with
    | .waiting kept => { s with hostRx := kept }
    | .bad rest => State.hostReceive k rest s.hostBad
    | .good f rest => State.hostReceive k rest (s.hostGood f)

/-- HOST_FRAME_RECEIVE (R169): bytes arrive on HRXD behind those already received. While RST is asserted
the part takes no frame (R181). -/
def execHostFrameReceive (bytes : List Byte) (s : State) : Host.Outcome State Fault Refusal :=
  .next
    (if s.rst then s
    else State.hostReceive ((s.hostRx ++ bytes).length + 1) (s.hostRx ++ bytes) s)

/-! ## IDENTIFY and STATUS -/

/-- The fields of R178: vendor code H'B7, part code H'6420, revision 1, and the capacities. -/
def identity : List Byte := [0xB7, 0x64, 0x20, 0x01, 8, 16, 32, 16, 4, 16, 32]

/-- IDENTIFY (R178). -/
def execIdentify (s : State) : Host.Outcome State Fault Refusal :=
  .next (s.takeRequest (ofKind Code.identify) fun r s => s.ok r identity)

/-- The alarm entries in a state (R176). -/
def State.countAlarms (s : State) (x : AlarmState) : Nat := s.alarms.countP fun e => decide (e.state = x)

/-- The snapshot of Table 9.4 after the cause and the causes remaining (Table 10.13). -/
def State.snapshot (s : State) : List Byte :=
  [s.lastReset.code, byte s.cal, boolCode s.overflow, byte (s.countAlarms .pending),
    byte (s.countAlarms .raised), byte (s.countAlarms .acked)] ++ be16 s.corrected ++
  ([none, some .opening, some .opened, some .closing, some .closed, some .exporting].map fun w =>
    byte (s.countSlots w)) ++
  ((List.finRange 8).map fun i => (s.station i).intake.code)

/-- The cause of highest priority leaves the set; an empty set is left as it is (R176). -/
def State.dropTop (s : State) : State :=
  match s.topCause with
  | none => s
  | some c => s.dropCause c

/-- STATUS is carried out: the cause of highest priority is removed and reported, with the causes
remaining and the snapshot (R176, Table 10.13). -/
def State.reportStatus (r : Frame) (s : State) : State :=
  s.dropTop.ok r ([causeCode s.topCause, causeSetByte s.dropTop.causes] ++ s.snapshot)

/-- STATUS (R176). -/
def execStatus (s : State) : Host.Outcome State Fault Refusal :=
  .next (s.takeRequest (ofKind Code.status) State.reportStatus)

/-! ## The transmitter (R173) -/

/-- Steps 3 and 4 of EXPORT_STOP and its reply, which carries the position (R163). -/
def State.stopExport (tag : Byte) (s : State) : State :=
  match s.mex with
  | none => s.answer Code.exportStop tag .state []
  | some m => s.haltExport.answer Code.exportStop tag .ok (be16 m.position)

/-- The frame that an EXPORT_STOP in progress waits for has been sent whole, and the stop is completed (R163,
R171). Without one nothing changes. -/
def State.stopSent (s : State) : State :=
  match s.inProgress with
  | some (.stopping tag) => ({ s with inProgress := none } : State).stopExport tag
  | _ => s

/-- The NOTICE as it stands when it is taken: the causes of the set at that moment, tag 0 (R175). -/
def noticeFrame (cs : List Cause) : Frame := ⟨Code.notice, 0, [causeSetByte cs]⟩

/-- NOTICE_TAKEN (R175): at a frame boundary the oldest frame of the ready list is the NOTICE; the frame
before it has been sent whole, and it is taken, listing the causes of the set. The notice flag clears with
it. -/
def execNoticeTaken (s : State) : Host.Outcome State Fault Refusal :=
  .next
    (match s.ready with
    | .notice :: rest =>
      if s.rst then s
      else
        let t := ({ s with ready := rest } : State).stopSent
        { t with hostLine := some (noticeFrame t.causes) }
    | _ => s)

/-- HOST_REPLY_TAKEN (R173): at a frame boundary the oldest frame of the ready list is a reply, and the
transmitter takes it. The frame before it has been sent whole. -/
def execHostReplyTaken (s : State) : Host.Outcome State Fault Refusal :=
  .next
    (match s.ready with
    | .reply _ f :: rest =>
      if s.rst then s else ({ s with ready := rest, hostLine := some f } : State).stopSent
    | _ => s)

end Sys2Proof.Machine
end

