-- ==== Sys2Proof/Machine/Lots.lean ====
section
/-! DEFINITION. The Bin Plan Table and the Lot Table (1.1, 1.2): PLAN_LOAD, PLAN_READ, LOT_OPEN, LOT_CLOSE,
LOT_RELEASE and LOT_QUERY. -/

namespace Sys2Proof.Machine

/-! ## Plans (R12, R13) -/

/-- The bin entry of bin b in a PLAN_LOAD payload, its rank clamped; none where its class code is none of
the four. -/
def binField (p : List Byte) (b : Bin) : Option BinEntry :=
  (BinClass.ofCode (u8 p (4 + 2 * b.val))).map fun c => ⟨c, clamp 0 63 (u8 p (5 + 2 * b.val))⟩

/-- The plan that a PLAN_LOAD asks for, clamped; none where a code is undefined (R12 step 1). -/
def planFields (p : List Byte) : Option Plan :=
  match Policy.ofCode (u8 p 1), boolOfCode (u8 p 3) with
  | some policy, some lock =>
    if (List.finRange 64).all fun b => (binField p b).isSome then
      some
        { policy := policy
          limit := clamp 1 15 (u8 p 2)
          passLock := lock
          bins := Vector.ofFn fun b => (binField p b).getD ⟨.unused, 63⟩ }
    else none
  | _, _ => none

/-- A lot, in any state, names the plan (R12 step 2). -/
def State.planInUse (s : State) (k : Fin 4) : Bool :=
  (List.finRange 16).any fun e => decide (s.lots[e].map Lot.plan = some k)

/-- PLAN_LOAD is carried out (R12). -/
def State.planLoad (r : Frame) (s : State) : State :=
  match inRange 4 (u8 r.payload 0), planFields r.payload with
  | some k, some p =>
    if s.planInUse k then s.status r .inUse
    else ({ s with plans := s.plans.set k p } : State).ok r []
  | _, _ => s.status r .badField

/-- A plan's contents as they are reported (R13): policy, retest limit, pass lock, and the 64 bin
entries, bin 0 first. -/
def Plan.fields (p : Plan) : List Byte :=
  [p.policy.code, byte p.limit, boolCode p.passLock] ++
  p.bins.toList.flatMap fun e => [e.cls.code, byte e.rank]

/-- PLAN_READ is carried out (R13). -/
def State.planRead (r : Frame) (s : State) : State :=
  match inRange 4 (u8 r.payload 0) with
  | some k => s.ok r s.plans[k].fields
  | none => s.status r .badField

/-- PLAN_LOAD (R12). -/
def execPlanLoad (s : State) : Host.Outcome State Fault Refusal :=
  .next (s.takeRequest (ofKind Code.planLoad) State.planLoad)

/-- PLAN_READ (R13). -/
def execPlanRead (s : State) : Host.Outcome State Fault Refusal :=
  .next (s.takeRequest (ofKind Code.planRead) State.planRead)

/-! ## Opening a lot (R3) -/

/-- A new lot (R3). -/
def Lot.new (id : LotId) (plan : Fin 4) (expected : Nat) : Lot :=
  ⟨id, plan, .opened, expected, [], Totals.zero, 0⟩

/-- LOT_OPEN is carried out (R3). -/
def State.lotOpen (r : Frame) (s : State) : State :=
  match lotIdField r.payload 0, inRange 4 (u8 r.payload 13) with
  | some id, some k =>
    let n := u8 r.payload 14
    if n = 0 ∨ 50 < n then s.status r .badField
    else
      match s.findLot id, s.freeLot with
      | some _, _ => s.status r .exists
      | none, none => s.status r .noSpace
      | none, some e => (s.setLot e (some (Lot.new id k n))).ok r [byte e.val]
  | _, _ => s.status r .badField

/-- LOT_OPEN (R3). -/
def execLotOpen (s : State) : Host.Outcome State Fault Refusal :=
  .next (s.takeRequest (ofKind Code.lotOpen) State.lotOpen)

/-! ## Requests that name a lot by its id -/

/-- A malformed id gives BAD_FIELD and an unknown id NOT_FOUND; else the request goes on with the entry
that holds the lot (R2). -/
def State.withLot (offset : Nat) (r : Frame) (go : Fin 16 → Lot → State → State) (s : State) : State :=
  match lotIdField r.payload offset with
  | none => s.status r .badField
  | some id =>
    match s.findLot id with
    | none => s.status r .notFound
    | some e =>
      match s.lots[e] with
      | none => s.status r .notFound
      | some l => go e l s

/-- LOT_CLOSE is carried out (R5). -/
def State.lotClose (r : Frame) (s : State) : State :=
  s.withLot 0 r fun e l s =>
    match l.state with
    | .opened =>
      if l.active = 0 then (s.setLot e (some { l with state := .closed })).ok r []
      else (s.setLot e (some { l with state := .closing })).status r .pending
    | .closing => s.status r .pending
    | .closed => s.status r .state

/-- A slot in a state other than FREE belongs to the lot (R8). -/
def State.lotHasSlot (s : State) (id : LotId) : Bool :=
  (List.finRange 32).any fun n => decide ((s.slot n).map Wafer.lot = some id)

/-- LOT_RELEASE is carried out (R8). -/
def State.lotRelease (r : Frame) (s : State) : State :=
  s.withLot 0 r fun e l s =>
    if l.state = .closed ∧ s.lotHasSlot l.id = false then (s.setLot e none).ok r []
    else s.status r .state

/-- T, P and G as they are reported. -/
def Totals.counts (t : Totals) : List Byte := be32 t.tested ++ be32 t.passed ++ be32 t.gross

/-- The 64 bin counts, bin 0 first. -/
def histFields (h : Vector Nat 64) : List Byte := h.toList.flatMap be32

/-- The fields of Table 1.1, in its order, after the entry number (R9). -/
def Lot.fields (l : Lot) : List Byte :=
  lotIdBytes l.id ++ [byte l.plan.val, l.state.code, byte l.expected, byte l.closedList.length] ++
  l.closedList.map byte ++ [byte l.closedList.length] ++ l.totals.counts ++ histFields l.totals.hist ++
  [byte l.active]

/-- LOT_QUERY is carried out (R9). -/
def State.lotQuery (r : Frame) (s : State) : State :=
  s.withLot 0 r fun e l s => s.ok r (byte e.val :: l.fields)

/-- LOT_CLOSE (R5). -/
def execLotClose (s : State) : Host.Outcome State Fault Refusal :=
  .next (s.takeRequest (ofKind Code.lotClose) State.lotClose)

/-- LOT_RELEASE (R8). -/
def execLotRelease (s : State) : Host.Outcome State Fault Refusal :=
  .next (s.takeRequest (ofKind Code.lotRelease) State.lotRelease)

/-- LOT_QUERY (R9). -/
def execLotQuery (s : State) : Host.Outcome State Fault Refusal :=
  .next (s.takeRequest (ofKind Code.lotQuery) State.lotQuery)

end Sys2Proof.Machine
end

