-- ==== Sys2Proof/Machine/Resets.lean ====
section
/-! DEFINITION. The three kinds of reset: RESET_FULL, RESET_COLLATION and COLLATION_RESTART, RST_ASSERT and
RST_RELEASE (R179 to R182). -/

namespace Sys2Proof.Machine

/-- The values of a full reset in every block (R180). The model's command queue is not the part's and
stays. -/
def State.fullReset (s : State) : State :=
  { State.reset with pending := s.pending, lastReset := .full }

/-- The values of a power-on reset (R181), with the RST pin as it stands. -/
def State.powerOn (asserted : Bool) (s : State) : State :=
  { State.reset with pending := s.pending, rst := asserted }

/-- A RESET whose kind code is neither FULL nor COLLATION gives BAD_FIELD (R179). -/
def resetKnown (r : Frame) : Bool := decide (u8 r.payload 0 < 2)

/-- RESET_FULL (R180): no reply is sent. -/
def execResetFull (s : State) : Host.Outcome State Fault Refusal :=
  .next (s.takeRequest (ofCode Code.reset 0 2 0) fun r s =>
    if resetKnown r then s.fullReset else s.status r .badField)

/-- RESET_COLLATION (R182): the request is in progress, the Intake Arbiter grants no more, and the
restart waits. -/
def execResetCollation (s : State) : Host.Outcome State Fault Refusal :=
  .next (s.takeRequest (ofCode Code.reset 0 2 1) fun r s =>
    if resetKnown r then { s with inProgress := some (.restarting r.tag) } else s.status r .badField)

/-! ## The steps of a collation restart (R182) -/

/-- Step 1: every open group is discarded, station 0 first. -/
def State.discardGroups (s : State) : State :=
  (List.finRange 8).foldl (fun s i => s.discardGroup i) s

/-- Steps 2, 3, 5 and 6 at one station: its queue emptied, its binding dropped, its state HELD and its
counters 0 (R58). -/
def Station.restart (x : Station) : Station :=
  { x with
    intake := .held
    staging := []
    badFrames := 0
    silence := 0
    silenceEnds := false
    binding := none
    consecFail := Vector.replicate 16 0
    consecVoid := Vector.replicate 16 0 }

/-- Steps 2, 3 (the bindings), 5 and 6 at every station; step 6 makes the station-kind watches ARMED. -/
def State.restartStations (s : State) : State :=
  ({ s with stations := Vector.ofFn fun i => s.stations[i].restart } : State).arm Watch.ofStationKind

/-- Step 3: each slot in CLOSING completes its close (R25). -/
def State.finishSlots (s : State) : State :=
  (List.finRange 32).foldl (fun s n => s.finishClosing n) s

/-- The restart's steps, whole (R182 steps 1 to 7). Step 4 removes EXPORT_WAITING whether or not an export
runs (R166, Table 9.1; DEDUCED, safe, log 18). -/
def State.restart (s : State) : State :=
  ({ s.discardGroups.restartStations.finishSlots.haltExport with lastReset := .collation } : State).addCause
    .restarted

/-- COLLATION_RESTART (R182): the restart that waits is carried out and its reply becomes ready. It waits
while an expiry that has fallen due is still to be taken (R183). It does not wait for a frame being sent to be
finished: the frame stays on the line, and the reply follows it (R182 step 4, R166; DESIGN CHOICE, unsafe,
log 24). -/
def execCollationRestart (s : State) : Host.Outcome State Fault Refusal :=
  .next
    (match s.inProgress with
    | some (.restarting tag) =>
      if s.rst = false ∧ s.dueExpiry = none then
        ({ s.restart with inProgress := none } : State).answer Code.reset tag .ok []
      else s
    | _ => s)

/-! ## The RST pin -/

/-- RST_ASSERT (R181): every block is held at its power-on values. -/
def execRstAssert (s : State) : Host.Outcome State Fault Refusal := .next (s.powerOn true)

/-- RST_RELEASE (R181): the part starts with its power-on values. A release of a pin that is not
asserted is no event (DESIGN CHOICE, safe, log 15). -/
def execRstRelease (s : State) : Host.Outcome State Fault Refusal :=
  .next (if s.rst then s.powerOn false else s)

end Sys2Proof.Machine
end

