-- ==== Sys2Proof/Machine/Commit.lean ====
section
/-! DEFINITION. The commit of a touchdown group (R69, Section 5) with the evaluation that ends it, and the
reads of a CELL_READ that go on while it is in flight (R70, R105). -/

namespace Sys2Proof.Machine

/-! ## A CELL_READ in flight (R103, R105) -/

/-- The CELL_READ in progress reads its next cell, if one is left. -/
def State.readOne (s : State) : State :=
  match s.inProgress with
  | some (.reading tag n row first base count cells) =>
    if cells.length < count then
      let (t, c) := s.readCell n (base + cells.length)
      { t with inProgress := some (.reading tag n row first base count (cells ++ [c])) }
    else s
  | _ => s

/-- The CELL_READ in progress reads up to so many cells. -/
def State.readAhead : Nat → State → State
  | 0, s => s
  | k + 1, s => State.readAhead k s.readOne

/-! ## The items of a commit -/

/-- An item of a commit (R109): an entry of the group, or a site of the active set without one. -/
inductive Item where
  | entry (e : Entry)
  | missing (site : SiteId)
  deriving DecidableEq, Repr

/-- The site is in the group's active set. -/
def Group.hasSite (g : Group) (i : SiteId) : Bool := g.active.getLsbD i.val

/-- An entry of the group holds the site. -/
def Group.holdsSite (g : Group) (i : SiteId) : Bool := g.entries.any fun e => decide (e.site = i)

/-- An entry of the group holds the cell. -/
def Group.holdsCell (g : Group) (index : Nat) : Bool := g.entries.any fun e => decide (e.cell = index)

/-- The items in the order of the commit: the entries in ascending site order, then the missing sites in
ascending order (R69 steps 1 and 4). -/
def Group.items (g : Group) : List Item :=
  ((List.finRange 16).flatMap fun i =>
    (g.entries.filter fun e => decide (e.site = i)).map Item.entry) ++
  (((List.finRange 16).filter fun i => g.hasSite i && !g.holdsSite i).map Item.missing)

/-! ## The merge and the void path -/

/-- The void path of an item: a site void and the station's consecutive-void counter (R92). -/
def State.voidItem (n : SlotId) (st : StationId) (i : SiteId) (s : State) : State :=
  (s.modAcc n (Acc.site i SiteTriple.void)).modStation st (Station.voided i)

/-- An applied entry: the cell's new record is written, and the slot's accumulators and the station's
counters are updated (R86 to R91). -/
def State.applyItem (n : SlotId) (st : StationId) (p : Plan) (e : Entry) (new : CellRecord)
    (counts : Acc → Acc) (s : State) : State :=
  let pass := decide (p.cls e.bin = .pass)
  (((s.writeCell n e.cell new).modAcc n counts).modAcc n
    (Acc.site e.site (SiteTriple.test pass))).modStation st (Station.applied e.site pass)

/-- An entry of class PASS or FAIL is merged into its cell (R86 to R89), or, where the cell is DAMAGED,
takes the void path and is listed. A cell of a group is never OFF-WAFER (R86); the model takes such a
cell to the void path without listing it (DESIGN CHOICE, unsafe, log 14). -/
def State.mergeItem (n : SlotId) (st : StationId) (p : Plan) (e : Entry) (s : State) :
    State × List Refused :=
  let (s, c) := s.readCell n e.cell
  match c with
  | .untested =>
    (s.applyItem n st p e (.tested e.bin e.bin 1 e.site st) (Acc.first p e.bin), [])
  | .tested final first count _ _ =>
    (s.applyItem n st p e (.tested (p.finalBin final e.bin) first (count + 1) e.site st)
      (Acc.retest p final (p.finalBin final e.bin)), [])
  | .damaged => (s.voidItem n st e.site, [⟨e.site.val, .cellDamaged⟩])
  | .offWafer => (s.voidItem n st e.site, [])

/-- One item of a commit (R69 steps 2, 3 and 4). -/
def State.commitItem (n : SlotId) (st : StationId) (p : Plan) (x : Item) (s : State) :
    State × List Refused :=
  match x with
  | .missing i => (s.voidItem n st i, [])
  | .entry e => if p.isResult e.bin then s.mergeItem n st p e else (s.voidItem n st e.site, [])

/-- The items one after another, each whole. Before each, a CELL_READ in flight may read some cells. -/
def State.commitItems (n : SlotId) (st : StationId) (p : Plan) :
    List Item → List Nat → State → State × List Refused
  | [], _, s => (s, [])
  | x :: xs, reads, s =>
    let (t, a) := State.commitItem n st p x (State.readAhead (reads.headD 0) s)
    let (u, b) := State.commitItems n st p xs reads.tail t
    (u, a ++ b)

/-- The plan of the lot of a slot (R66, R69). -/
def State.slotPlan (s : State) (n : SlotId) : Plan :=
  match s.slot n with
  | none => Plan.reset
  | some w => s.planOf w.lot

/-- A commit, its five steps: the state after it and the entry-refusal list (R69). -/
def State.commit (n : SlotId) (st : StationId) (g : Group) (reads : List Nat) (s : State) :
    State × List Refused :=
  let (t, refused) := State.commitItems n st (s.slotPlan n) g.items reads s
  (t.evalCommit n st, refused)

end Sys2Proof.Machine
end

