-- ==== Sys2Proof/Machine/Wafers.lean ====
section
/-! DEFINITION. The server's requests that name a wafer or a slot: WAFER_OPEN and INITIALISATION_COMPLETE,
WAFER_CLOSE, WAFER_REOPEN, WAFER_RELEASE, WAFER_QUERY, CELL_READ and CELL_READ_COMPLETE, and YIELD_QUERY
by slot and by lot (1.3, 5.4, 6.4). -/

namespace Sys2Proof.Machine

/-! ## WAFER_OPEN (R18, R19) -/

/-- The spans of a WAFER_OPEN payload (Table 10.7). -/
def spanFields (p : List Byte) : List Span :=
  (List.range (u16 p 20)).map fun k => ⟨u8 p (22 + 3 * k), u8 p (23 + 3 * k), u8 p (24 + 3 * k)⟩

/-- The record of a slot just taken by WAFER_OPEN (R19). -/
def Wafer.new (id : LotId) (p : List Byte) : Wafer where
  state := .opening
  lot := id
  number := u8 p 13
  cols := u16 p 14
  rows := u16 p 16
  refCol := u8 p 18
  refRow := u8 p 19
  spans := spanFields p
  gross := grossCount (spanFields p)
  acc := Acc.zero
  closing := none

/-- The wafer number and the grid are in range (Table 1.6 step 4). -/
def gridValid (l : Lot) (p : List Byte) : Bool :=
  decide (1 ≤ u8 p 13) && decide (u8 p 13 ≤ l.expected) && decide (1 ≤ u16 p 14) &&
  decide (u16 p 14 ≤ 256) && decide (1 ≤ u16 p 16) && decide (u16 p 16 ≤ 256)

/-- The lot holds the wafer already: in a slot that is not FREE, or in the closed list (Table 1.6
step 5). -/
def State.waferExists (s : State) (l : Lot) (number : Nat) : Bool :=
  (s.findWafer [.opening, .opened, .closing, .closed, .exporting] l.id number).isSome ||
    decide (number ∈ l.closedList)

/-- The span list and the reference cell are valid (R17, Table 1.6 step 6). -/
def outlineValid (p : List Byte) : Bool :=
  spansValid (u16 p 14) (u16 p 16) (spanFields p) && decide (u8 p 18 < u16 p 14) &&
  decide (u8 p 19 < u16 p 16)

/-- Initialisation: every cell of the grid is written, on-wafer cells UNTESTED and the others OFF-WAFER
(R19). The words beyond the grid are not written. -/
def State.initialise (n : SlotId) (w : Wafer) (s : State) : State :=
  { s with
    mem := s.mem.writeRun (cellAddress n 0) (w.cols * w.rows) (initialRecord w.cols w.spans) }

/-- The slot is taken, in OPENING: its record and accumulators, the lot's active slot count, the re-arming
of its slot-kind watches (R134), and the map. The request stays in progress (R171). -/
def State.takeSlot (n : SlotId) (e : Fin 16) (tag : Byte) (w : Wafer) (s : State) : State :=
  let s := (s.setSlot n (some w)).modLot e fun l => { l with active := l.active + 1 }
  let s := (s.arm (Watch.ofSlot n)).initialise n w
  { s with inProgress := some (.opening tag n) }

/-- WAFER_OPEN is carried out up to the start of initialisation; the checks stand in the order of Table
1.6. -/
def State.waferOpen (r : Frame) (s : State) : State :=
  s.withLot 0 r fun e l s =>
    if l.state ≠ .opened then s.status r .state
    else if gridValid l r.payload = false then s.status r .badField
    else if s.waferExists l (u8 r.payload 13) then s.status r .exists
    else if outlineValid r.payload = false then s.status r .badSpans
    else
      match s.freeSlot with
      | none => s.status r .noSpace
      | some n => s.takeSlot n e r.tag (Wafer.new l.id r.payload)

/-- WAFER_OPEN (R18, R19). -/
def execWaferOpen (s : State) : Host.Outcome State Fault Refusal :=
  .next (s.takeRequest (ofKind Code.waferOpen) State.waferOpen)

/-- The gross count of a slot. -/
def State.grossOf (s : State) (n : SlotId) : Nat :=
  match s.slot n with
  | none => 0
  | some w => w.gross

/-- INITIALISATION_COMPLETE (R19): the last cell has been written, the slot becomes OPEN and WAFER_OPEN
replies OK with the slot number and G. -/
def execInitialisationComplete (s : State) : Host.Outcome State Fault Refusal :=
  .next
    (match s.inProgress with
    | some (.opening tag n) =>
      if s.rst then s
      else
        (({ s with inProgress := none } : State).modWafer n fun w => { w with state := .opened }).answer
          Code.waferOpen tag .ok (byte n.val :: be32 (s.grossOf n))
    | _ => s)

/-! ## Requests that name a slot -/

/-- A slot number above 31 gives BAD_FIELD (R20, R23, R24, R25). -/
def State.withSlot (r : Frame) (go : SlotId → State → State) (s : State) : State :=
  match inRange 32 (u8 r.payload 0) with
  | none => s.status r .badField
  | some n => go n s

/-- The slot's bound station has a group open (R20). -/
def State.slotGroupOpen (s : State) (n : SlotId) : Bool :=
  match s.boundStation n with
  | none => false
  | some i => (s.station i).group.isSome

/-- WAFER_CLOSE is carried out (R20). -/
def State.waferClose (r : Frame) (s : State) : State :=
  s.withSlot r fun n s =>
    if s.slotIs n .opened then
      if s.slotGroupOpen n then
        (s.modWafer n fun w => { w with state := .closing }).status r .pending
      else (s.completeClose n false).ok r []
    else if s.slotIs n .closing then s.status r .pending
    else s.status r .state

/-- A reopened wafer leaves its lot's totals, and the slot is counted in the lot again (R23). -/
def State.reopen (n : SlotId) (w : Wafer) (e : Fin 16) (s : State) : State :=
  (s.modLot e fun l =>
    { l.leave w.number (w.closing.getD Totals.zero) with active := l.active + 1 }).setSlot n
    (some { w with state := .opened, closing := none })

/-- WAFER_REOPEN is carried out (R23). -/
def State.waferReopen (r : Frame) (s : State) : State :=
  s.withSlot r fun n s =>
    match s.slot n with
    | none => s.status r .state
    | some w =>
      match s.findLot w.lot with
      | none => s.status r .state
      | some e =>
        if w.state = .closed ∧ s.lots[e].map Lot.state ≠ some .closed then
          (s.reopen n w e).ok r []
        else s.status r .state

/-- WAFER_RELEASE is carried out (R24). -/
def State.waferRelease (r : Frame) (s : State) : State :=
  s.withSlot r fun n s =>
    if s.slotIs n .closed then (s.setSlot n none).ok r [] else s.status r .state

/-- A span as it is reported. -/
def Span.fields (x : Span) : List Byte := [byte x.row, byte x.first, byte x.last]

/-- The fields of Table 1.4 after the state, in its order, less the bin counts of the closing totals
(R25; DEDUCED, unsafe, log 8). -/
def Wafer.fields (w : Wafer) (bound : Option StationId) : List Byte :=
  lotIdBytes w.lot ++ [byte w.number] ++ be16 w.cols ++ be16 w.rows ++
  [byte w.refCol, byte w.refRow] ++ be16 w.spans.length ++ w.spans.flatMap Span.fields ++
  be32 w.gross ++ [optByte (bound.map Fin.val)] ++ be32 w.acc.tested ++ be32 w.acc.passed ++
  be16 w.acc.timeouts ++ be32 w.acc.damaged ++
  match w.closing with
  | none => [0]
  | some t => 1 :: t.counts

/-- WAFER_QUERY is carried out (R25). -/
def State.waferQuery (r : Frame) (s : State) : State :=
  s.withSlot r fun n s =>
    match s.slot n with
    | none => s.ok r [slotStateCode none]
    | some w => s.ok r (slotStateCode (some w.state) :: w.fields (s.boundStation n))

/-- WAFER_CLOSE (R20). -/
def execWaferClose (s : State) : Host.Outcome State Fault Refusal :=
  .next (s.takeRequest (ofKind Code.waferClose) State.waferClose)

/-- WAFER_REOPEN (R23). -/
def execWaferReopen (s : State) : Host.Outcome State Fault Refusal :=
  .next (s.takeRequest (ofKind Code.waferReopen) State.waferReopen)

/-- WAFER_RELEASE (R24). -/
def execWaferRelease (s : State) : Host.Outcome State Fault Refusal :=
  .next (s.takeRequest (ofKind Code.waferRelease) State.waferRelease)

/-- WAFER_QUERY (R25). -/
def execWaferQuery (s : State) : Host.Outcome State Fault Refusal :=
  .next (s.takeRequest (ofKind Code.waferQuery) State.waferQuery)

/-! ## CELL_READ (R103 to R105) -/

/-- The count of a CELL_READ as clamped: at least 1, and not past the last column (R103). -/
def cellCount (cols first count : Nat) : Nat :=
  if count = 0 then 1 else if cols < first + count then cols - first else count

/-- CELL_READ is taken: its checks are made and its reads begin (R103). -/
def State.cellRead (r : Frame) (s : State) : State :=
  s.withSlot r fun n s =>
    match s.slot n with
    | none => s.status r .state
    | some w =>
      let row := u8 r.payload 1
      let first := u8 r.payload 2
      if w.rows ≤ row ∨ w.cols ≤ first then s.status r .badField
      else
        { s with
          inProgress := some (.reading r.tag n row first (row * w.cols + first)
            (cellCount w.cols first (u16 r.payload 3)) []) }

/-- A CELL_READ is in progress. -/
def State.reading (s : State) : Bool :=
  match s.inProgress with
  | some (.reading _ _ _ _ _ _ _) => true
  | _ => false

/-- CELL_READ (R103, R105): the request is taken, unless one is in progress already, and so many of its
cells are read, each a separate access. -/
def execCellRead (cells : Nat) (upsets : List Upset) (s : State) : Host.Outcome State Fault Refusal :=
  .next
    (if s.rst then s
    else
      let s := s.upset upsets
      State.readAhead cells
        (if s.reading then s else s.takeRequest (ofKind Code.cellRead) State.cellRead))

/-- The reply of a CELL_READ after its status (Table 10.11). -/
def cellReadFields (n : SlotId) (row first : Nat) (cells : List CellRecord) : List Byte :=
  [byte n.val, byte row, byte first] ++ be16 cells.length ++ cells.flatMap fullCode ++
  packStations (cells.map lastStation)

/-- The reply of the CELL_READ in progress becomes ready (R105). -/
def State.finishRead (s : State) : State :=
  match s.inProgress with
  | some (.reading tag n row first _ _ cells) =>
    ({ s with inProgress := none } : State).answer Code.cellRead tag .ok
      (cellReadFields n row first cells)
  | _ => s

/-- How many cells the CELL_READ in progress has still to read. -/
def State.cellsLeft (s : State) : Nat :=
  match s.inProgress with
  | some (.reading _ _ _ _ _ count cells) => count - cells.length
  | _ => 0

/-- CELL_READ_COMPLETE (R105): the last cells are read and the reply becomes ready. -/
def execCellReadComplete (upsets : List Upset) (s : State) : Host.Outcome State Fault Refusal :=
  .next
    (if s.rst then s
    else
      let s := s.upset upsets
      (State.readAhead s.cellsLeft s).finishRead)

/-! ## YIELD_QUERY (R125 to R127) -/

/-- A site triple as it is reported. -/
def SiteTriple.fields (t : SiteTriple) : List Byte := be32 t.tests ++ be32 t.passes ++ be32 t.voids

/-- The fields of Table 6.6. -/
def Wafer.yieldFields (n : SlotId) (w : Wafer) : List Byte :=
  [0, byte n.val, slotStateCode (some w.state)] ++ w.totals.counts ++ opt16 w.acc.testedYield ++
  opt16 w.grossYield ++ histFields w.acc.hist ++ w.acc.sites.toList.flatMap SiteTriple.fields ++
  (w.acc.sites.toList.flatMap fun t => opt16 t.yield) ++ be16 w.acc.timeouts ++ be32 w.acc.damaged

/-- YIELD_QUERY with selector SLOT is carried out (R125, R126). -/
def State.yieldSlot (r : Frame) (s : State) : State :=
  match inRange 32 (u8 r.payload 1) with
  | none => s.status r .badField
  | some n =>
    match s.slot n with
    | none => s.status r .state
    | some w => if w.state = .exporting then s.status r .state else s.ok r (w.yieldFields n)

/-- The fields of Table 6.7. -/
def Lot.yieldFields (l : Lot) : List Byte :=
  [1] ++ lotIdBytes l.id ++ [l.state.code, byte l.closedList.length] ++ l.totals.counts ++
  opt16 (ratioYield l.totals.passed l.totals.tested) ++
  opt16 (ratioYield l.totals.passed l.totals.gross) ++ histFields l.totals.hist

/-- YIELD_QUERY with selector LOT is carried out (R125, R127). -/
def State.yieldLot (r : Frame) (s : State) : State := s.withLot 1 r fun _ l s => s.ok r l.yieldFields

/-- A selector code that is neither SLOT nor LOT gives BAD_FIELD (R125 step 1). -/
def selectorKnown (r : Frame) : Bool := decide (u8 r.payload 0 < 2)

/-- YIELD_QUERY_SLOT (R126). -/
def execYieldQuerySlot (s : State) : Host.Outcome State Fault Refusal :=
  .next (s.takeRequest (ofCode Code.yieldQuery 0 2 0) fun r s =>
    if selectorKnown r then s.yieldSlot r else s.status r .badField)

/-- YIELD_QUERY_LOT (R127). -/
def execYieldQueryLot (s : State) : Host.Outcome State Fault Refusal :=
  .next (s.takeRequest (ofCode Code.yieldQuery 0 2 1) fun r s =>
    if selectorKnown r then s.yieldLot r else s.status r .badField)

end Sys2Proof.Machine
end

