-- ==== Sys2Proof/Machine/MapOut.lean ====
section
/-! DEFINITION. The Map Export Unit (Section 8): EXPORT_START, EXPORT_MORE, EXPORT_STOP, the building of
MAP_SEGMENT and EXPORT_END, and what the transmitter takes of them. -/

namespace Sys2Proof.Machine

/-! ## The server's requests -/

/-- EXPORT_START is carried out (R155, R156). -/
def State.exportStart (r : Frame) (s : State) : State :=
  match inRange 32 (u8 r.payload 0), Detail.ofCode (u8 r.payload 1) with
  | some n, some d =>
    match s.mex with
    | some _ => s.status r .busy
    | none =>
      match s.slot n with
      | none => s.status r .state
      | some w =>
        if w.state = .closed then
          let k := clamp 1 64 (u8 r.payload 2)
          let m : Mex := ⟨false, n, d, w.spans.length, 0, k, none⟩
          (({ s with mex := some m } : State).setSlot n (some { w with state := .exporting })).ok r
            ([byte n.val, d.code, byte k] ++ be16 w.spans.length)
        else s.status r .state
  | _, _ => s.status r .badField

/-- EXPORT_MORE is carried out (R161). -/
def State.exportMore (r : Frame) (s : State) : State :=
  let k := clamp 1 64 (u8 r.payload 0)
  match s.mex with
  | none => s.status r .state
  | some m =>
    if m.waiting then
      (({ s with mex := some { m with waiting := false, window := k } } : State).dropCause
        .exportWaiting).ok r [byte k]
    else
      ({ s with mex := some { m with window := min 64 (m.window + k) } } : State).ok r
        [byte (min 64 (m.window + k))]

/-- The transmitter has taken a segment of this export last, so its sending may have to be finished. At
position 0 no segment of it has been taken, and its EXPORT_END has never been taken while it runs (R159,
R162). -/
def State.sendsSegment (s : State) (m : Mex) : Bool :=
  s.hostLine.any fun f => decide (f.kind = Code.mapSegment ∧ 0 < m.position)

/-- EXPORT_STOP is carried out (R163): an offered frame is discarded. The other steps and the reply wait while
a segment of the export is being sent (R163 step 2, R171; DESIGN CHOICE, safe, log 11). -/
def State.exportStop (r : Frame) (s : State) : State :=
  match s.mex with
  | none => s.stopExport r.tag
  | some m =>
    if s.sendsSegment m then
      { s with mex := some { m with offered := none }, inProgress := some (.stopping r.tag) }
    else s.stopExport r.tag

/-- EXPORT_START (R155, R156). -/
def execExportStart (s : State) : Host.Outcome State Fault Refusal :=
  .next (s.takeRequest (ofKind Code.exportStart) State.exportStart)

/-- EXPORT_MORE (R161). -/
def execExportMore (s : State) : Host.Outcome State Fault Refusal :=
  .next (s.takeRequest (ofKind Code.exportMore) State.exportMore)

/-- EXPORT_STOP (R163): the request is taken; while one is in progress, the segment it waits for has been
sent whole, the line is idle, and the stop is completed (R171; DESIGN CHOICE, safe, log 11). -/
def execExportStop (s : State) : Host.Outcome State Fault Refusal :=
  .next
    (match s.inProgress with
    | some (.stopping _) => if s.rst then s else ({ s with hostLine := none } : State).stopSent
    | _ => s.takeRequest (ofKind Code.exportStop) State.exportStop)

/-! ## Building frames -/

/-- A MAP_SEGMENT (Table 8.2, Table 10.9). -/
def segmentFrame (n : SlotId) (x : Span) (d : Detail) (cells : List CellRecord) : Frame :=
  ⟨Code.mapSegment, 0,
    [byte n.val, byte x.row, byte x.first, d.code] ++ be16 cells.length ++ cells.flatMap d.cellCode⟩

/-- An EXPORT_STOP in progress has ended the building of frames (R163). -/
def State.exportStops (s : State) : Bool :=
  match s.inProgress with
  | some (.stopping _) => true
  | _ => false

/-- The export whose frames the unit may build. -/
def State.buildsFor (s : State) : Option Mex := if s.exportStops then none else s.mex

/-- The unit may build a segment: ACTIVE, no frame offered, window above 0, spans left (R159). -/
def Mex.mayBuild (m : Mex) : Bool :=
  !m.waiting && decide (m.offered = none) && decide (0 < m.window) && decide (m.position < m.spanCount)

/-- The segment of a span is built: its cells are read in ascending column order, and the frame is
offered (R157). -/
def State.buildSegment (m : Mex) (w : Wafer) (x : Span) (s : State) : State :=
  let (t, cells) := s.readRun m.slot (x.row * w.cols + x.first) x.cells
  { t with mex := some { m with offered := some (.segment (segmentFrame m.slot x m.detail cells)) } }

/-- MAP_SEGMENT_BUILD (R157, R159, R164): the segment for the span at the position. -/
def execMapSegmentBuild (upsets : List Upset) (s : State) : Host.Outcome State Fault Refusal :=
  .next
    (if s.rst then s
    else
      let s := s.upset upsets
      match s.buildsFor with
      | none => s
      | some m =>
        match s.slot m.slot with
        | none => s
        | some w =>
          match w.spans[m.position]? with
          | none => s
          | some x => if m.mayBuild then s.buildSegment m w x else s)

/-- An EXPORT_END (R162, Table 10.9). -/
def endFrame (n : SlotId) (w : Wafer) : Frame :=
  ⟨Code.exportEnd, 0, byte n.val :: (w.totals.counts ++ be32 w.acc.damaged ++ histFields w.acc.hist)⟩

/-- EXPORT_END_BUILD (R162): every segment has been taken, and EXPORT_END is offered. -/
def execExportEndBuild (s : State) : Host.Outcome State Fault Refusal :=
  .next
    (if s.rst then s
    else
      match s.buildsFor with
      | none => s
      | some m =>
        match s.slot m.slot with
        | none => s
        | some w =>
          if m.waiting = false ∧ m.offered = none ∧ m.spanCount ≤ m.position then
            { s with mex := some { m with offered := some (.finish (endFrame m.slot w)) } }
          else s)

/-! ## The transmitter takes an offered frame (R173 step 2) -/

/-- The unit after a segment is taken: the window falls and the position rises, and with the window spent
and spans left the unit is WAITING (R159, R160). -/
def Mex.taken (m : Mex) : Mex :=
  { m with
    offered := none
    window := m.window - 1
    position := m.position + 1
    waiting := decide (m.window - 1 = 0 ∧ m.position + 1 < m.spanCount) }

/-- MAP_SEGMENT_TAKEN (R159, R160): the ready list is empty and a segment is offered. -/
def execMapSegmentTaken (s : State) : Host.Outcome State Fault Refusal :=
  .next
    (match s.mex with
    | none => s
    | some m =>
      match m.offered with
      | some (.segment f) =>
        if s.rst = false ∧ s.ready = [] then
          let t : State := { s with mex := some m.taken, hostLine := some f }
          if m.taken.waiting then t.addCause .exportWaiting else t
        else s
      | _ => s)

/-- EXPORT_END_TAKEN (R162): the ready list is empty and EXPORT_END is offered; the export completes. -/
def execExportEndTaken (s : State) : Host.Outcome State Fault Refusal :=
  .next
    (match s.mex with
    | none => s
    | some m =>
      match m.offered with
      | some (.finish f) =>
        if s.rst = false ∧ s.ready = [] then
          ({ s with hostLine := some f } : State).endExport.addCause .exportDone
        else s
      | _ => s)

end Sys2Proof.Machine
end

