-- ==== Sys2Proof/Machine/StationLink.lean ====
section
/-! DEFINITION. The Station Link Controllers (R36 to R41, R48): BAD_FRAME, STATION_FRAME_RECEIVE, LINK_CHECK
and STATION_TRANSMIT. -/

namespace Sys2Proof.Machine

/-! ## FAULTED (R48) -/

/-- Steps 1 and 2 of R48 at the station, which is FAULTED from here on. The frame on the line is finished
and every frame that waits is discarded; a frame that STATION_TRANSMIT has not taken waits (DEDUCED, safe,
log 10). The receiver's bytes are discarded (R40), and the silence counter is left to be set to 0 at the next
tick (R57). -/
def Station.fault (x : Station) : Station :=
  { x with
    intake := .faulted
    silenceEnds := true
    transmit := []
    staging := []
    rx := [] }

/-- Steps 3, 4 and 5 of R48, which follow the work the Collation Engine has in hand for the station (R70,
R74). The station is FAULTED by then, so the end of its group does not make it STOPPED (R73). -/
def State.finishFault (i : StationId) (s : State) : State :=
  ((s.discardGroup i).unbind i).addCause .stationFault

/-! ## The frame checker of a station link -/

/-- The intake states from which 16 bad frames in a row fault the station (R36). -/
def Intake.faultable : Intake → Bool
  | .running => true
  | .stopping => true
  | .halted => true
  | .held => false
  | .stopped => false
  | .faulted => false

/-- A bad frame: it is answered BAD_FRAME with tag 0 and raises the count, which may fault the station
(R36). The REPLY joins the transmit list, so where this bad frame faults the station it still waits and is
discarded with the list, on an idle line too (R48 step 1; DESIGN CHOICE, unsafe, log 23). Steps 3 to 5 of
R48 are left to `State.receiving`. -/
def State.badFrame (i : StationId) (s : State) : State :=
  let s := s.modStation i fun x =>
    { x.answer (.refuse 0 .badFrame) with badFrames := bump 16 x.badFrames }
  if (s.station i).badFrames = 16 ∧ (s.station i).intake.faultable = true then
    s.modStation i Station.fault
  else s

/-- The examination of a good frame by the SLC (R37, R38, R39). -/
def Station.examine (f : Frame) (x : Station) : Station :=
  match recordFits f.kind f.payload with
  | none => x.answer (.refuse f.tag .badKind)
  | some false => x.answer (.refuse f.tag .badLength)
  | some true =>
    if f.kind = Code.linkCheck then x.answer (.accept f.tag)
    else if x.intake = .held ∨ x.intake = .stopped then x.answer (.refuse f.tag .notReady)
    else if x.staging.length < 8 then { x with staging := x.staging ++ [f] }
    else x.answer (.wait f.tag)

/-- A good frame clears the bad-frame count and the silence counter, re-arms the station's LINK_SILENT
watches, and is examined (R37, R134). -/
def State.goodFrame (i : StationId) (f : Frame) (s : State) : State :=
  (s.modStation i fun x => ({ x with badFrames := 0, silence := 0 } : Station).examine f).arm
    (Watch.linkOf i)

/-- The receiver examines the frames that are complete, one after another; in FAULTED every byte is
discarded (R40, R185). As many turns as bytes are enough. -/
def State.stationReceive (i : StationId) : Nat → List Byte → State → State
  | 0, bytes, s => s.modStation i fun x => { x with rx := bytes }
  | k + 1, bytes, s =>
    if (s.station i).intake = .faulted then s.modStation i fun x => { x with rx := [] }
    else
      match receive bytes with
      | .waiting kept => s.modStation i fun x => { x with rx := kept }
      | .bad rest => State.stationReceive i k rest (s.badFrame i)
      | .good f rest => State.stationReceive i k rest (s.goodFrame i f)

/-- Bytes arrive on a station's line, behind those already received, while the Collation Engine has this
work in hand for the station. The work is finished first; then, where the bytes faulted the station, the
rest of its entry to FAULTED follows (R48, R70, R74). -/
def State.receiving (i : StationId) (bytes : List Byte) (work : State → State) (s : State) : State :=
  let t := State.stationReceive i (((s.station i).rx ++ bytes).length + 1) ((s.station i).rx ++ bytes) s
  if (s.station i).intake ≠ .faulted ∧ (t.station i).intake = .faulted then (work t).finishFault i
  else work t

/-- The Collation Engine carries out work for a station, a record of its queue or the expiry of its group,
while these bytes, if any, arrive on the station's line (DESIGN CHOICE, unsafe, log 26). -/
def State.during (i : StationId) (arriving : List Byte) (work : State → State) (s : State) : State :=
  if arriving = [] then work s else s.receiving i arriving work

/-- Bytes arrive on a station's line while the Collation Engine has nothing of the station in hand. -/
def State.stationBytes (i : StationId) (bytes : List Byte) (s : State) : State :=
  if s.rst then s else s.receiving i bytes id

/-- BAD_FRAME (R36): these bytes arrive on the station's line. The receiver finds the bad frames in them
by R184 and R185; what else it finds in them it examines as what it is. -/
def execBadFrame (station : StationId) (bytes : List Byte) (s : State) : Host.Outcome State Fault Refusal :=
  .next (s.stationBytes station bytes)

/-- STATION_FRAME_RECEIVE (R37): the good frame of this kind, tag and payload arrives. -/
def execStationFrameReceive (station : StationId) (kind tag : Byte) (payload : List Byte) (s : State) :
    Host.Outcome State Fault Refusal :=
  .next (s.stationBytes station (Frame.bytes ⟨kind, tag, payload⟩))

/-- LINK_CHECK (R38): the LINK_CHECK frame of this tag arrives. -/
def execLinkCheck (station : StationId) (tag : Byte) (s : State) : Host.Outcome State Fault Refusal :=
  .next (s.stationBytes station (Frame.bytes ⟨Code.linkCheck, tag, []⟩))

/-! ## The transmit line (R41) -/

/-- The line comes to a frame boundary: the frame it was sending is finished, and it takes the oldest
frame of the transmit list, or is idle (DESIGN CHOICE, safe, log 17). -/
def Station.boundary (x : Station) : Station := { x with line := x.transmit.head?, transmit := x.transmit.tail }

/-- STATION_TRANSMIT (R41). -/
def execStationTransmit (station : StationId) (s : State) : Host.Outcome State Fault Refusal :=
  .next (if s.rst then s else s.modStation station Station.boundary)

end Sys2Proof.Machine
end

