-- ==== Sys2Proof/Machine/Stations.lean ====
section
/-! DEFINITION. The server's requests that name a station or a timing class (R44 to R51, R62): STATION_SET,
STATION_CTRL with its four actions, STATION_QUERY and CLASS_SET. -/

namespace Sys2Proof.Machine

/-- STATION_SET is carried out (R50). -/
def State.stationSet (r : Frame) (s : State) : State :=
  match inRange 8 (u8 r.payload 0), inRange 4 (u8 r.payload 2) with
  | some i, some c =>
    if (s.station i).intake = .held ∨ (s.station i).intake = .stopped then
      (s.modStation i fun x =>
        { x with priority := clamp 0 15 (u8 r.payload 1), timingClass := c }).ok r []
    else s.status r .state
  | _, _ => s.status r .badField

/-- STATION_SET (R50). -/
def execStationSet (s : State) : Host.Outcome State Fault Refusal :=
  .next (s.takeRequest (ofKind Code.stationSet) State.stationSet)

/-! ## STATION_CTRL (R44) -/

/-- A STATION_CTRL request is carried out with an action: none is the "—" of Table 3.7. -/
def State.control (action : StationId → State → Option State) (r : Frame) (s : State) : State :=
  if 3 < u8 r.payload 1 then s.status r .badField
  else
    match inRange 8 (u8 r.payload 0) with
    | none => s.status r .badField
    | some i =>
      match action i s with
      | none => s.status r .state
      | some t => t.ok r [(t.station i).intake.code]

/-- RELEASE (R45). -/
def State.release (i : StationId) (s : State) : Option State :=
  if (s.station i).intake = .held then some (s.modStation i fun x => { x with intake := .stopped })
  else none

/-- START (R45, R134, R140): the station's consecutive counters are set to 0 and its consecutive watches
become ARMED. -/
def State.start (i : StationId) (s : State) : Option State :=
  if (s.station i).intake = .stopped then
    some ((s.modStation i fun x =>
      { x with
        intake := .running
        consecFail := Vector.replicate 16 0
        consecVoid := Vector.replicate 16 0 }).arm (Watch.probeOf i))
  else none

/-- STOP at one station (R46). -/
def Station.stop (x : Station) : Option Station :=
  match x.intake with
  | .running => some (if x.group.isSome then { x with intake := .stopping } else x.stopped)
  | .halted => some (if x.group.isSome then { x with intake := .stopping } else x.stopped)
  | .faulted => some { x.stopped with badFrames := 0 }
  | .held => none
  | .stopped => none
  | .stopping => none

/-- STOP (R46). -/
def State.stop (i : StationId) (s : State) : Option State :=
  (s.station i).stop.map fun x => s.modStation i fun _ => x

/-- RESUME (R47). -/
def State.resume (i : StationId) (s : State) : Option State :=
  if (s.station i).intake = .halted then
    some (s.modStation i fun x => ({ x with intake := .running } : Station).order .resume)
  else none

/-- STATION_CTRL_RELEASE (R45). -/
def execStationCtrlRelease (s : State) : Host.Outcome State Fault Refusal :=
  .next (s.takeRequest (ofCode Code.stationCtrl 1 4 0) (State.control State.release))

/-- STATION_CTRL_START (R45). -/
def execStationCtrlStart (s : State) : Host.Outcome State Fault Refusal :=
  .next (s.takeRequest (ofCode Code.stationCtrl 1 4 1) (State.control State.start))

/-- STATION_CTRL_STOP (R46). -/
def execStationCtrlStop (s : State) : Host.Outcome State Fault Refusal :=
  .next (s.takeRequest (ofCode Code.stationCtrl 1 4 2) (State.control State.stop))

/-- STATION_CTRL_RESUME (R47). -/
def execStationCtrlResume (s : State) : Host.Outcome State Fault Refusal :=
  .next (s.takeRequest (ofCode Code.stationCtrl 1 4 3) (State.control State.resume))

/-! ## STATION_QUERY (R51) -/

def Entry.fields (e : Entry) : List Byte := [byte e.site.val] ++ be16 e.cell ++ [byte e.bin.val]

/-- The open group of a STATION_QUERY reply: a presence byte, and the touchdown number, the active site
set and the counted entry list (Table 3.8, R187). -/
def groupFields : Option Group → List Byte
  | none => [0]
  | some g =>
    [1] ++ be16 g.touchdown ++ be16 g.active.toNat ++ [byte g.entries.length] ++
      g.entries.flatMap Entry.fields

/-- The fields of Table 3.8. -/
def Station.report (x : Station) : List Byte :=
  [x.intake.code, byte x.priority, byte x.timingClass.val,
    optByte (x.binding.map fun b => b.slot.val), optByte (x.binding.map fun b => b.q.val)] ++
  groupFields x.group ++ [byte x.staging.length, byte x.badFrames] ++ be16 x.silence ++
  x.consecFail.toList.map byte ++ x.consecVoid.toList.map byte

/-- STATION_QUERY is carried out (R51). -/
def State.stationQuery (r : Frame) (s : State) : State :=
  match inRange 8 (u8 r.payload 0) with
  | none => s.status r .badField
  | some i => s.ok r (s.station i).report

/-- STATION_QUERY (R51). -/
def execStationQuery (s : State) : Host.Outcome State Fault Refusal :=
  .next (s.takeRequest (ofKind Code.stationQuery) State.stationQuery)

/-! ## CLASS_SET (R62) -/

/-- A station of the class is RUNNING, STOPPING or HALTED. -/
def Station.usesClass (c : Fin 4) (x : Station) : Bool :=
  decide (x.timingClass = c) &&
    decide (x.intake = .running ∨ x.intake = .stopping ∨ x.intake = .halted)

def State.classBusy (s : State) (c : Fin 4) : Bool :=
  (List.finRange 8).any fun i => (s.station i).usesClass c

/-- CLASS_SET is carried out (R62). -/
def State.classSet (r : Frame) (s : State) : State :=
  match inRange 4 (u8 r.payload 0), ExpiryMode.ofCode (u8 r.payload 2) with
  | some c, some m =>
    if s.classBusy c then s.status r .busy
    else
      let t := clamp 1 255 (u8 r.payload 1)
      ({ s with classes := s.classes.set c ⟨t, m⟩ } : State).ok r [byte t, m.code]
  | _, _ => s.status r .badField

/-- CLASS_SET (R62). -/
def execClassSet (s : State) : Host.Outcome State Fault Refusal :=
  .next (s.takeRequest (ofKind Code.classSet) State.classSet)

end Sys2Proof.Machine
end

