-- ==== Sys2Proof/Machine/Ticks.lean ====
section
/-! DEFINITION. The Timer Base: TIMER_TICK (R57, R64, R142) and GROUP_EXPIRY (R72). -/

namespace Sys2Proof.Machine

/-- The silence counter counts in these intake states, while the station is bound (R57). -/
def Station.counting (x : Station) : Bool :=
  x.binding.isSome && decide (x.intake = .running ∨ x.intake = .stopping ∨ x.intake = .halted)

/-- A tick at one station: its silence counter (R57) and its group's timer (R64). A counter that was left to
be set to 0 at this tick is set to 0, also where the station is bound and RUNNING again (DEDUCED, unsafe,
log 22). -/
def Station.tick (x : Station) : Station :=
  { x with
    silence := if x.counting ∧ x.silenceEnds = false then bump 65535 x.silence else 0
    silenceEnds := false
    group := x.group.map fun g => { g with timer := g.timer - 1 } }

/-- TIMER_TICK: the counters and timers of every station, and then the LINK_SILENT rules, stations in
ascending order (R57, R64, R142). A group whose timer comes to 0 is taken by GROUP_EXPIRY
(DEDUCED, safe, log 12). -/
def execTimerTick (s : State) : Host.Outcome State Fault Refusal :=
  .next
    (if s.rst then s
    else
      (List.finRange 8).foldl State.evalSilence
        { s with stations := Vector.ofFn fun i => s.stations[i].tick })

/-- The slot's timeout count rises (R112). -/
def Acc.timeout (a : Acc) : Acc := { a with timeouts := bump 65535 a.timeouts }

/-- The four steps of an expiry (R72). -/
def State.expire (i : StationId) (b : Binding) (g : Group) (reads : List Nat) (s : State) : State :=
  let s := s.modAcc b.slot Acc.timeout
  let s := match g.mode with
    | .commit => (s.commit b.slot i g reads).1
    | .discard => s
  (s.evalTimeouts b.slot i).endGroup i

/-- GROUP_EXPIRY (R72): of the expiries that have fallen due, the one of the lowest station is taken. A
group exists only while its station is bound (R60); without a binding its place is emptied (DESIGN CHOICE,
unsafe, log 14). A fault that comes meanwhile takes effect after it (R70). -/
def execGroupExpiry (reads : List Nat) (upsets : List Upset) (s : State) (arriving : List Byte := []) :
    Host.Outcome State Fault Refusal :=
  .next
    (if s.rst then s
    else
      let s := s.upset upsets
      match s.dueExpiry with
      | none => s
      | some i =>
        s.during i arriving
          (match (s.station i).binding, (s.station i).group with
          | some b, some g => State.expire i b g reads
          | _, _ => State.endGroup i))

end Sys2Proof.Machine
end

