-- ==== Sys2Proof/Machine/Touchdowns.lean ====
section
/-! DEFINITION. The station records that the Collation Engine carries out (3.7, Section 4): WAFER_START,
WAFER_END, TD_OPEN, TD_RESULTS, TD_CLOSE and TD_ABORT. -/

namespace Sys2Proof.Machine

/-- A record that the state check lets through is carried out by the rule for its kind (R43). The check
reads the intake state at the moment the record is taken, so bytes that arrive from then on come too late
for it. -/
def State.checked (i : StationId) (r : Frame) (arriving : List Byte) (carry : State → State) (s : State) :
    State :=
  s.during i arriving
    (match stateCheck r.kind (s.station i).intake with
    | some why => State.refuse i r.tag why
    | none => carry)

/-! ## Bindings (R55, R56) -/

/-- WAFER_START is carried out, its checks in the order of R55. -/
def State.waferStart (i : StationId) (r : Frame) (s : State) : State :=
  match lotIdField r.payload 0, inRange 4 (u8 r.payload 14) with
  | some id, some q =>
    let number := u8 r.payload 13
    if number = 0 ∨ 50 < number then s.refuse i r.tag .badField
    else if (s.station i).binding.isSome then s.refuse i r.tag .stationBound
    else
      match s.findWafer [.opening, .opened, .closing] id number with
      | none => s.refuse i r.tag .unknownWafer
      | some n =>
        if s.slotIs n .opening then s.deliver i (.wait r.tag)
        else if s.slotIs n .closing then s.refuse i r.tag .waferClosing
        else if (s.boundStation n).isSome then s.refuse i r.tag .waferBusy
        else
          (s.modStation i fun x => { x with binding := some ⟨n, q⟩ }).deliver i
            { StationReply.accept r.tag with boundSlot := some n }
  | _, _ => s.refuse i r.tag .badField

/-- WAFER_START (R55). -/
def execWaferStart (s : State) (arriving : List Byte := []) : Host.Outcome State Fault Refusal :=
  .next (s.takeRecord Code.waferStart fun i r s => s.checked i r arriving (State.waferStart i r))

/-- WAFER_END is carried out (R56). -/
def State.waferEnd (i : StationId) (r : Frame) (s : State) : State :=
  if (s.station i).binding = none then s.refuse i r.tag .notBound
  else if (s.station i).group.isSome then s.refuse i r.tag .groupOpen
  else (s.unbind i).deliver i (.accept r.tag)

/-- WAFER_END (R56). -/
def execWaferEnd (s : State) (arriving : List Byte := []) : Host.Outcome State Fault Refusal :=
  .next (s.takeRecord Code.waferEnd fun i r s => s.checked i r arriving (State.waferEnd i r))

/-! ## TD_OPEN (R63) -/

/-- A new group: its timer and expiry mode are those of the station's timing class (R61, R63). -/
def Group.new (c : TimingClass) (p : List Byte) : Group :=
  ⟨u16 p 0, BitVec.ofNat 16 (u16 p 2), [], c.timeout, c.mode⟩

/-- TD_OPEN is carried out, its checks in the order of R63. -/
def State.tdOpen (i : StationId) (r : Frame) (s : State) : State :=
  match (s.station i).binding with
  | none => s.refuse i r.tag .notBound
  | some b =>
    if s.slotIs b.slot .closing then s.refuse i r.tag .waferClosing
    else if (s.station i).group.isSome then s.refuse i r.tag .groupOpen
    else if u16 r.payload 2 = 0 then s.refuse i r.tag .badField
    else
      (s.modStation i fun x =>
        { x with group := some (Group.new s.classes[x.timingClass] r.payload) }).deliver i
        (.accept r.tag)

/-- TD_OPEN (R63). -/
def execTdOpen (s : State) (arriving : List Byte := []) : Host.Outcome State Fault Refusal :=
  .next (s.takeRecord Code.tdOpen fun i r s => s.checked i r arriving (State.tdOpen i r))

/-! ## Records that need the open group (R65, R68, R71) -/

/-- The record is refused NO_GROUP without an open group, and WRONG_TOUCHDOWN where its touchdown number
is not the group's; else it goes on with the group. -/
def State.withGroup (i : StationId) (r : Frame) (go : Group → State → State) (s : State) : State :=
  match (s.station i).group with
  | none => s.refuse i r.tag .noGroup
  | some g => if g.touchdown = u16 r.payload 0 then go g s else s.refuse i r.tag .wrongTouchdown

/-! ## TD_RESULTS (R65, R66) -/

/-- One result entry as it stands in a record (Table 10.5). -/
structure Result where
  site : Nat
  sx : Int
  sy : Int
  bin : Nat
  deriving DecidableEq, Repr

/-- The entries of a TD_RESULTS payload, entry 0 first. -/
def resultFields (p : List Byte) : List Result :=
  (List.range (u8 p 2)).map fun k =>
    ⟨u8 p (3 + 6 * k), s16 p (4 + 6 * k), s16 p (6 + 6 * k), u8 p (8 + 6 * k)⟩

/-- Steps 7 and 8 of Table 4.2, on the cell that step 6 has read. -/
def limitCheck (p : Plan) (b : Bin) (c : CellRecord) : Option EntryReason :=
  match c with
  | .tested final _ count _ _ =>
    if p.isResult b = false then none
    else if p.limit ≤ count then some .retestLimit
    else if p.passLock = true ∧ p.cls final = .pass then some .passLocked
    else none
  | _ => none

/-- Steps 1 to 5 of Table 4.2, which read no cell: the entry that would join, or the reason. -/
def screenEntry (w : Wafer) (q : Fin 4) (p : Plan) (g : Group) (x : Result) : Except EntryReason Entry :=
  match inRange 16 x.site with
  | none => .error .badSite
  | some i =>
    if g.hasSite i = false then .error .badSite
    else if g.holdsSite i then .error .duplicateSite
    else
      match transform w q x.sx x.sy with
      | .offMap => .error .offMap
      | .offWafer => .error .offWafer
      | .cell index =>
        if g.holdsCell index then .error .dieConflict
        else
          match inRange 64 x.bin with
          | none => .error .badBin
          | some b => if p.cls b = .unused then .error .badBin else .ok ⟨i, index, b⟩

/-- An entry that passes every check joins the end of the group's entry list (R65). -/
def Station.join (e : Entry) (x : Station) : Station :=
  { x with group := x.group.map fun g => { g with entries := g.entries ++ [e] } }

/-- One entry of an accepted TD_RESULTS is checked against the group as it stands (R66): the state after
it, and the reason where it is refused. -/
def State.checkEntry (i : StationId) (b : Binding) (x : Result) (s : State) :
    State × Option EntryReason :=
  match s.slot b.slot, (s.station i).group with
  | some w, some g =>
    match screenEntry w b.q (s.planOf w.lot) g x with
    | .error why => (s, some why)
    | .ok e =>
      let (t, c) := s.readCell b.slot e.cell
      if c = .damaged then (t, some .cellDamaged)
      else
        match limitCheck (s.planOf w.lot) e.bin c with
        | some why => (t, some why)
        | none => (t.modStation i (Station.join e), none)
  | _, _ => (s, some .badSite)

/-- The entries one after another, with the entry-refusal list in record order (R65). -/
def State.checkEntries (i : StationId) (b : Binding) : List Result → State → State × List Refused
  | [], s => (s, [])
  | x :: xs, s =>
    let (t, why) := s.checkEntry i b x
    let (u, rest) := State.checkEntries i b xs t
    (u, (why.map fun y => (⟨x.site, y⟩ : Refused)).toList ++ rest)

/-- A REPLY of outcome ACCEPT with its entry-refusal list (R42). -/
def StationReply.acceptWith (tag : Byte) (refused : List Refused) : StationReply :=
  { StationReply.accept tag with refusals := some refused }

/-- TD_RESULTS is carried out (R65). A group exists only while its station is bound (R60). -/
def State.tdResults (i : StationId) (r : Frame) (s : State) : State :=
  s.withGroup i r fun _ s =>
    match (s.station i).binding with
    | none => s.refuse i r.tag .noGroup
    | some b =>
      let (t, refused) := s.checkEntries i b (resultFields r.payload)
      t.deliver i (.acceptWith r.tag refused)

/-- TD_RESULTS (R65). -/
def execTdResults (upsets : List Upset) (s : State) (arriving : List Byte := []) :
    Host.Outcome State Fault Refusal :=
  .next
    (if s.rst then s
    else
      (s.upset upsets).takeRecord Code.tdResults fun i r s => s.checked i r arriving (State.tdResults i r))

/-! ## TD_CLOSE and TD_ABORT -/

/-- TD_CLOSE is carried out: the commit, the group's end, and the reply (R68). -/
def State.tdClose (reads : List Nat) (i : StationId) (r : Frame) (s : State) : State :=
  s.withGroup i r fun g s =>
    match (s.station i).binding with
    | none => s.refuse i r.tag .noGroup
    | some b =>
      let (t, refused) := s.commit b.slot i g reads
      (t.endGroup i).deliver i (.acceptWith r.tag refused)

/-- TD_CLOSE (R68). -/
def execTdClose (reads : List Nat) (upsets : List Upset) (s : State) (arriving : List Byte := []) :
    Host.Outcome State Fault Refusal :=
  .next
    (if s.rst then s
    else
      (s.upset upsets).takeRecord Code.tdClose fun i r s => s.checked i r arriving (State.tdClose reads i r))

/-- TD_ABORT is carried out (R71). -/
def State.tdAbort (i : StationId) (r : Frame) (s : State) : State :=
  s.withGroup i r fun _ s => (s.endGroup i).deliver i (.accept r.tag)

/-- TD_ABORT (R71). -/
def execTdAbort (s : State) (arriving : List Byte := []) : Host.Outcome State Fault Refusal :=
  .next (s.takeRecord Code.tdAbort fun i r s => s.checked i r arriving (State.tdAbort i r))

end Sys2Proof.Machine
end

