-- ==== Sys2Proof/Machine/Dispatch.lean ====
section
/-! DEFINITION. The meaning of every command: one arm for each constructor of Instr. -/

namespace Sys2Proof.Machine

/-- A command's effect on everything but the queue of commands. -/
def exec (i : Instr) (s : State) : Host.Outcome State Fault Refusal :=
  match i with
  | .hostFrameReceive bytes => Sys2Proof.Machine.execHostFrameReceive bytes s
  | .identify => Sys2Proof.Machine.execIdentify s
  | .status => Sys2Proof.Machine.execStatus s
  | .resetFull => Sys2Proof.Machine.execResetFull s
  | .resetCollation => Sys2Proof.Machine.execResetCollation s
  | .collationRestart => Sys2Proof.Machine.execCollationRestart s
  | .stationSet => Sys2Proof.Machine.execStationSet s
  | .stationCtrlRelease => Sys2Proof.Machine.execStationCtrlRelease s
  | .stationCtrlStart => Sys2Proof.Machine.execStationCtrlStart s
  | .stationCtrlStop => Sys2Proof.Machine.execStationCtrlStop s
  | .stationCtrlResume => Sys2Proof.Machine.execStationCtrlResume s
  | .stationQuery => Sys2Proof.Machine.execStationQuery s
  | .classSet => Sys2Proof.Machine.execClassSet s
  | .planLoad => Sys2Proof.Machine.execPlanLoad s
  | .planRead => Sys2Proof.Machine.execPlanRead s
  | .lotOpen => Sys2Proof.Machine.execLotOpen s
  | .lotClose => Sys2Proof.Machine.execLotClose s
  | .lotRelease => Sys2Proof.Machine.execLotRelease s
  | .lotQuery => Sys2Proof.Machine.execLotQuery s
  | .waferOpen => Sys2Proof.Machine.execWaferOpen s
  | .initialisationComplete => Sys2Proof.Machine.execInitialisationComplete s
  | .waferClose => Sys2Proof.Machine.execWaferClose s
  | .waferReopen => Sys2Proof.Machine.execWaferReopen s
  | .waferRelease => Sys2Proof.Machine.execWaferRelease s
  | .waferQuery => Sys2Proof.Machine.execWaferQuery s
  | .cellRead cells upsets => Sys2Proof.Machine.execCellRead cells upsets s
  | .yieldQuerySlot => Sys2Proof.Machine.execYieldQuerySlot s
  | .yieldQueryLot => Sys2Proof.Machine.execYieldQueryLot s
  | .ruleSet => Sys2Proof.Machine.execRuleSet s
  | .ruleRead => Sys2Proof.Machine.execRuleRead s
  | .alarmList => Sys2Proof.Machine.execAlarmList s
  | .alarmAck => Sys2Proof.Machine.execAlarmAck s
  | .alarmClear => Sys2Proof.Machine.execAlarmClear s
  | .exportStart => Sys2Proof.Machine.execExportStart s
  | .exportMore => Sys2Proof.Machine.execExportMore s
  | .exportStop => Sys2Proof.Machine.execExportStop s
  | .mapSegmentBuild upsets => Sys2Proof.Machine.execMapSegmentBuild upsets s
  | .exportEndBuild => Sys2Proof.Machine.execExportEndBuild s
  | .mapSegmentTaken => Sys2Proof.Machine.execMapSegmentTaken s
  | .exportEndTaken => Sys2Proof.Machine.execExportEndTaken s
  | .noticeTaken => Sys2Proof.Machine.execNoticeTaken s
  | .hostReplyTaken => Sys2Proof.Machine.execHostReplyTaken s
  | .badFrame station bytes => Sys2Proof.Machine.execBadFrame station bytes s
  | .stationFrameReceive station kind tag payload => Sys2Proof.Machine.execStationFrameReceive station kind tag payload s
  | .linkCheck station tag => Sys2Proof.Machine.execLinkCheck station tag s
  | .waferStart arriving => Sys2Proof.Machine.execWaferStart s arriving
  | .waferEnd arriving => Sys2Proof.Machine.execWaferEnd s arriving
  | .tdOpen arriving => Sys2Proof.Machine.execTdOpen s arriving
  | .tdResults upsets arriving => Sys2Proof.Machine.execTdResults upsets s arriving
  | .tdClose reads upsets arriving => Sys2Proof.Machine.execTdClose reads upsets s arriving
  | .tdAbort arriving => Sys2Proof.Machine.execTdAbort s arriving
  | .timerTick => Sys2Proof.Machine.execTimerTick s
  | .groupExpiry reads upsets arriving => Sys2Proof.Machine.execGroupExpiry reads upsets s arriving
  | .stationTransmit station => Sys2Proof.Machine.execStationTransmit station s
  | .rstAssert => Sys2Proof.Machine.execRstAssert s
  | .rstRelease => Sys2Proof.Machine.execRstRelease s
  | .cellReadComplete upsets => Sys2Proof.Machine.execCellReadComplete upsets s

end Sys2Proof.Machine
end

