-- ==== Sys2Proof/Safety.lean ====
section
/-! DEFINITION. What the claims say of a state: when a request or a record can be taken, and the laws that
every step keeps. -/

namespace Sys2Proof.Machine

/-! ## Taking a request or a record -/

/-- The controller can take its oldest request, which is r (R171). -/
abbrev State.Offers (s : State) (r : Frame) (rest : List Frame) : Prop :=
  s.rst = false ∧ s.inProgress = none ∧ s.carriedWaiting < 8 ∧ s.requests = r :: rest

/-- The reply to the request r (R172). -/
def answerTo (r : Frame) (st : Status) (body : List Byte) : ReadyFrame :=
  .reply false ⟨r.kind + 0x80, r.tag, st.code :: body⟩

/-- The arbiter grants station i, and the engine can take the oldest record r of its queue (R52, R72). -/
abbrev State.Grants (s : State) (i : StationId) (r : Frame) (rest : List Frame) : Prop :=
  s.rst = false ∧ s.restarting = false ∧
  (∀ j : StationId, (s.station j).group.map Group.timer ≠ some 0) ∧
  s.grant = some i ∧ (s.station i).staging = r :: rest

/-- The record at the head of station i's queue has been taken, and the station's record becomes x. -/
def State.granted (s : State) (i : StationId) (x : Station) : State :=
  { s with lastGranted := i, stations := s.stations.set i x }

/-- The station's REPLY becomes ready after its record was taken; rest is what its queue keeps. -/
def Station.replies (x : Station) (rest : List Frame) (y : StationReply) : Station :=
  { x with staging := rest, transmit := x.transmit ++ [.reply y] }

/-- How far a port stands behind the last granted one in the search: the next port is 0, the last granted
one itself 7 (R52 step 2). -/
def portTurn (last i : StationId) : Nat := (i.val + 7 - last.val) % 8

/-- The record rows, each with its kind (Table 10.3), as functions of the bytes that arrive meanwhile. -/
def recordForms (reads : List Nat) (us : List Upset) : List ((List Byte → Instr) × Byte) :=
  [(fun bs => .waferStart bs, 0x41), (fun bs => .waferEnd bs, 0x42), (fun bs => .tdOpen bs, 0x43),
    (fun bs => .tdResults us bs, 0x44), (fun bs => .tdClose reads us bs, 0x45), (fun bs => .tdAbort bs, 0x46)]

/-- The record rows with these operands, each with its kind. -/
def recordRowsWith (reads : List Nat) (us : List Upset) (arriving : List Byte) : List (Instr × Byte) :=
  (recordForms reads us).map fun x => (x.1 arriving, x.2)

/-- The record rows while nothing else happens. -/
def recordRows : List (Instr × Byte) := recordRowsWith [] [] []

/-- The station right after steps 1 and 2 of its entry to FAULTED (R48). -/
def Station.faultedNow (x : Station) : Station :=
  { x with
    intake := .faulted, badFrames := 16, silenceEnds := true, staging := [], transmit := [], rx := [] }

/-- Steps 4 and 5 of the entry to FAULTED (R48): the binding is dropped and STATION_FAULT added. -/
def State.faultEnds (i : StationId) (s : State) : State :=
  State.addCause .stationFault
    { s with stations := s.stations.set i { s.station i with binding := none, silenceEnds := true } }

/-- Bytes that bring a receiver, with what it has kept, exactly one bad frame. -/
abbrev BringsBadFrame (before bytes rest kept : List Byte) : Prop :=
  receive (before ++ bytes) = .bad rest ∧ receive rest = .waiting kept

/-! ## The map of a slot -/

/-- The record of a cell as it stands. -/
def State.cellRecord (s : State) (n : SlotId) (k : Nat) : CellRecord := (s.cellWord n k).record

/-- The records of a slot's map in cell index order (R82). -/
def State.cells (s : State) (n : SlotId) (w : Wafer) : List CellRecord :=
  (List.range (w.cols * w.rows)).map (s.cellRecord n)

/-- The cell is TESTED. -/
def cellIsTested : CellRecord → Bool
  | .tested _ _ _ _ _ => true
  | .offWafer => false
  | .untested => false
  | .damaged => false

/-- The cell is TESTED with the final bin b. -/
def cellHasFinal (b : Bin) : CellRecord → Bool
  | .tested a _ _ _ _ => decide (a = b)
  | .offWafer => false
  | .untested => false
  | .damaged => false

/-- The cell may take a further result of class PASS or FAIL under a retest limit, or is DAMAGED. -/
def cellHasRoom (limit : Nat) : CellRecord → Bool
  | .tested _ _ count _ _ => decide (count < limit)
  | .untested => true
  | .damaged => true
  | .offWafer => false

/-- A TESTED cell has a test count of 1 to the retest limit and a final bin of class PASS or FAIL (R83,
R90, R93). -/
def cellKeepsPlan (p : Plan) : CellRecord → Bool
  | .tested final _ count _ _ => decide (1 ≤ count) && decide (count ≤ p.limit) && p.isResult final
  | .untested => true
  | .damaged => true
  | .offWafer => true

/-- The bins of class PASS counted in a histogram. -/
def Plan.passes (p : Plan) (h : Vector Nat 64) : Nat :=
  (((List.finRange 64).filter fun b => decide (p.cls b = .pass)).map fun b => h[b]).sum

/-! ## The laws -/

/-- The ranges of a station's fields (Table 3.1, R36, R39, R41, R57, R140). -/
abbrev Station.Ranges (x : Station) : Prop :=
  x.staging.length ≤ 8 ∧ x.transmit.length ≤ 16 ∧ x.badFrames ≤ 16 ∧ x.silence ≤ 65535 ∧
  x.priority ≤ 15 ∧ (∀ k : SiteId, x.consecFail[k] ≤ 255) ∧ ∀ k : SiteId, x.consecVoid[k] ≤ 255

/-- Every queue, list and count of the links and of the Excursion Monitor stays in its range, and the
pending-cause set is a set in priority order (Table 9.1, R102, R143, R170, R173, R174). While a request
is in progress its reply still has its place. -/
abbrev State.QueueLaw (s : State) : Prop :=
  s.requests.length ≤ 4 ∧ s.immediateWaiting ≤ 8 ∧
  s.carriedWaiting + (if s.inProgress.isSome then 1 else 0) ≤ 8 ∧
  s.ready.count .notice ≤ 1 ∧ s.causes = Cause.all.filter (fun c => decide (c ∈ s.causes)) ∧
  s.corrected ≤ 65535 ∧ s.cal ≤ 8 ∧ s.alarms.length ≤ 32 ∧ ∀ i : StationId, (s.station i).Ranges

/-- The entries of a group name distinct sites of its active set, which is not empty, and distinct cells
(R60, Table 4.1). -/
abbrev Group.Lawful (g : Group) : Prop :=
  g.active ≠ 0 ∧ (∀ e ∈ g.entries, g.hasSite e.site = true) ∧ (g.entries.map Entry.site).Nodup ∧
  (g.entries.map Entry.cell).Nodup

/-- Bindings and groups (R46, R54, R60): a bound slot is OPEN or CLOSING and bound to one station; a group
stands only at a bound station in RUNNING, STOPPING or HALTED; a CLOSING slot is bound to a station with
an open group; a STOPPING station has an open group; the queue is empty in HELD and FAULTED (R43). -/
abbrev State.BindingLaw (s : State) : Prop :=
  (∀ i : StationId, ∀ b ∈ (s.station i).binding.toList,
    s.slotIs b.slot .opened = true ∨ s.slotIs b.slot .closing = true) ∧
  (∀ i j : StationId, i ≠ j → ∀ b ∈ (s.station i).binding.toList, ∀ c ∈ (s.station j).binding.toList,
    b.slot ≠ c.slot) ∧
  (∀ i : StationId, ∀ g ∈ (s.station i).group.toList,
    (s.station i).binding.isSome = true ∧ g.Lawful ∧
    ((s.station i).intake = .running ∨ (s.station i).intake = .stopping ∨
      (s.station i).intake = .halted)) ∧
  (∀ n : SlotId, s.slotIs n .closing = true → ∃ i : StationId,
    (s.station i).group.isSome = true ∧ (s.station i).binding.map Binding.slot = some n) ∧
  (∀ i : StationId, (s.station i).intake = .stopping → (s.station i).group.isSome = true) ∧
  ∀ i : StationId, ((s.station i).intake = .held ∨ (s.station i).intake = .faulted) →
    (s.station i).staging = []

/-- The ranges of a slot's record and the relation of its closing totals to its accumulators (Table 1.4,
R17, R115). -/
abbrev Wafer.Lawful (w : Wafer) : Prop :=
  1 ≤ w.number ∧ w.number ≤ 50 ∧ 1 ≤ w.cols ∧ w.cols ≤ 256 ∧ 1 ≤ w.rows ∧ w.rows ≤ 256 ∧
  w.refCol < w.cols ∧ w.refRow < w.rows ∧ spansValid w.cols w.rows w.spans = true ∧
  w.gross = grossCount w.spans ∧
  w.closing = if w.state = .closed ∨ w.state = .exporting then some w.totals else none

/-- The slot that the WAFER_OPEN in progress initialises. -/
def State.opens (s : State) : Option SlotId :=
  match s.inProgress with
  | some (.opening _ n) => some n
  | some (.reading _ _ _ _ _ _ _) => none
  | some (.restarting _) => none
  | some (.stopping _) => none
  | none => none

/-- The CELL_READ in progress reads inside one row of the grid of a slot that is not FREE (R103). -/
def State.readFits (s : State) : Bool :=
  match s.inProgress with
  | some (.reading _ n row first base count cells) =>
    (s.slot n).any fun w =>
      decide (row < w.rows ∧ first + count ≤ w.cols ∧ base = row * w.cols + first ∧ 1 ≤ count ∧
        cells.length ≤ count)
  | some (.opening _ _) => true
  | some (.restarting _) => true
  | some (.stopping _) => true
  | none => true

/-- The EXPORT_STOP in progress has a running export with a segment taken, and no frame is offered (R163). -/
def State.stopFits (s : State) : Bool :=
  match s.inProgress with
  | some (.stopping _) => s.mex.any fun m => decide (m.offered = none ∧ 0 < m.position)
  | some (.opening _ _) => true
  | some (.reading _ _ _ _ _ _ _) => true
  | some (.restarting _) => true
  | none => true

/-- The frame the Map Export Unit offers is a MAP_SEGMENT (Table 8.1). -/
def Mex.offersSegment (m : Mex) : Bool :=
  match m.offered with
  | some (.segment _) => true
  | some (.finish _) => false
  | none => false

/-- The Map Export Unit's fields fit a slot (Table 8.1). A segment is offered only while spans are left
(R159). -/
abbrev Mex.Fits (m : Mex) (w : Wafer) : Prop :=
  w.state = .exporting ∧ m.spanCount = w.spans.length ∧ m.position ≤ m.spanCount ∧ m.window ≤ 64 ∧
  (m.waiting = true → m.offered = none ∧ m.window = 0 ∧ m.position < m.spanCount) ∧
  (m.offersSegment = true → m.position < m.spanCount)

/-- The slots, the request in progress and the Map Export Unit agree (R19, R103, R154). -/
abbrev State.SlotLaw (s : State) : Prop :=
  (∀ n : SlotId, ∀ w ∈ (s.slot n).toList, w.Lawful) ∧
  (∀ n : SlotId, s.slotIs n .opening = true ↔ s.opens = some n) ∧ s.readFits = true ∧ s.stopFits = true ∧
  (∀ n : SlotId, s.slotIs n .exporting = true ↔ s.mex.map Mex.slot = some n) ∧
  ∀ m ∈ s.mex.toList, ∀ w ∈ (s.slot m.slot).toList, m.Fits w

/-- The slot is counted in its lot's active slot count (R4). -/
def Wafer.isActive (id : LotId) (w : Wafer) : Bool :=
  decide (w.lot = id) && decide (w.state = .opening ∨ w.state = .opened ∨ w.state = .closing)

/-- The closing totals of a lot's slots, which are those in CLOSED and EXPORTING (R115). -/
def State.closingTotals (s : State) (id : LotId) : List Totals :=
  (List.finRange 32).filterMap fun n =>
    (s.slot n).bind fun w => if w.lot = id then w.closing else none

/-- A lot's totals hold the closing totals of its slots. The closing totals of released wafers are in them
too (R7, R116). -/
abbrev State.totalsHold (s : State) (l : Lot) : Prop :=
  ((s.closingTotals l.id).map Totals.tested).sum ≤ l.totals.tested ∧
  ((s.closingTotals l.id).map Totals.passed).sum ≤ l.totals.passed ∧
  ((s.closingTotals l.id).map Totals.gross).sum ≤ l.totals.gross ∧
  ∀ b : Bin, ((s.closingTotals l.id).map fun t => t.hist[b]).sum ≤ l.totals.hist[b]

/-- A held lot (R1, R2, R4, R7): its id is well formed; its active slot count is the number of its slots in
OPENING, OPEN or CLOSING, above 0 in CLOSING and 0 in CLOSED; its closed list ascends without duplicates
within the expected wafers, and its totals hold the closing totals of its slots. -/
def State.lotFits (s : State) (l : Lot) : Bool :=
  decide (LotId.wf l.id = true ∧ 1 ≤ l.expected ∧ l.expected ≤ 50 ∧
  l.active = ((List.finRange 32).filter fun n => (s.slot n).any (Wafer.isActive l.id)).length ∧
  (l.state = .closing → 0 < l.active) ∧ (l.state = .closed → l.active = 0) ∧
  l.closedList.Pairwise (· < ·) ∧ (∀ k ∈ l.closedList, 1 ≤ k ∧ k ≤ l.expected) ∧ s.totalsHold l)

/-- A slot that is not FREE names a lot (R8), and that lot's closed list holds its wafer exactly while the
slot is CLOSED or EXPORTING (R7). -/
def State.waferNamed (s : State) (w : Wafer) : Bool :=
  (List.finRange 16).any fun e => s.lots[e].any fun l =>
    decide (l.id = w.lot ∧ w.number ≤ l.expected ∧
      (w.number ∈ l.closedList ↔ (w.state = .closed ∨ w.state = .exporting)))

/-- The Lot Table and the slots: lot ids are distinct, every lot and every slot fits, and no two slots hold
one wafer (R3, R18). -/
abbrev State.LotLaw (s : State) : Prop :=
  (∀ e f : Fin 16, e ≠ f → ∀ l ∈ s.lots[e].toList, ∀ k ∈ s.lots[f].toList, l.id ≠ k.id) ∧
  (∀ e : Fin 16, ∀ l ∈ s.lots[e].toList, s.lotFits l = true) ∧
  (∀ n : SlotId, ∀ w ∈ (s.slot n).toList, s.waferNamed w = true) ∧
  ∀ n m : SlotId, n ≠ m → ∀ w ∈ (s.slot n).toList, ∀ v ∈ (s.slot m).toList,
    w.lot = v.lot → w.number ≠ v.number

/-- The alarm list (R143, R147): no two entries that are not ACKED share rule, slot, station and site; no
PENDING entry is more urgent than CAL; a repeat count is 1 to 255; and no watch is listed twice. -/
abbrev State.AlarmLaw (s : State) : Prop :=
  s.alarms.Pairwise (fun e f =>
    e.state = .acked ∨ f.state = .acked ∨
      ¬(e.rule = f.rule ∧ e.slot = f.slot ∧ e.station = f.station ∧ e.site = f.site)) ∧
  (∀ e ∈ s.alarms, e.state = .pending → s.cal ≤ e.level.val) ∧
  (∀ e ∈ s.alarms, 1 ≤ e.repeats ∧ e.repeats ≤ 255) ∧ s.tripped.Nodup

/-- The settings the server gives stay clamped: plans (R12), timing classes (R62) and rules (R132). -/
abbrev State.SettingsLaw (s : State) : Prop :=
  (∀ k : Fin 4, 1 ≤ s.plans[k].limit ∧ s.plans[k].limit ≤ 15 ∧ ∀ b : Bin, s.plans[k].bins[b].rank ≤ 63) ∧
  (∀ k : Fin 4, 1 ≤ s.classes[k].timeout ∧ s.classes[k].timeout ≤ 255) ∧
  (∀ k : Fin 16, s.rules[k].threshold ≤ 1000000 ∧ 1 ≤ s.rules[k].minSample ∧
    s.rules[k].minSample ≤ 65535 ∧ (s.rules[k].kind ≠ .binCeiling → s.rules[k].bin = 0)) ∧
  ∀ i : StationId, ∀ g ∈ (s.station i).group.toList, g.timer ≤ 255

/-- A slot's accumulators against its map (R93, R99, R110): every cell of the map has been written, and no
on-wafer cell is OFF-WAFER (R19, R84); the histogram sums to T, and its PASS bins to P; no bin is held by more cells than it counts; T and the cells
still UNTESTED together reach at most G; T exceeds the TESTED cells by at most the damaged count; and
every TESTED cell keeps the plan. -/
abbrev State.SlotAccounts (s : State) (n : SlotId) (w : Wafer) : Prop :=
  (∀ k < w.cols * w.rows, cellAddress n k ∈ s.mem.map Prod.fst) ∧
  (∀ k < w.cols * w.rows, onWafer w.spans (k % w.cols) (k / w.cols) = true →
    s.cellRecord n k ≠ .offWafer) ∧
  w.acc.hist.toList.sum = w.acc.tested ∧
  (s.planOf w.lot).passes w.acc.hist = w.acc.passed ∧
  (∀ b : Bin, (s.cells n w).countP (cellHasFinal b) ≤ w.acc.hist[b]) ∧
  w.acc.tested + (s.cells n w).countP (fun c => decide (c = .untested)) ≤ w.gross ∧
  w.acc.tested ≤ (s.cells n w).countP cellIsTested + w.acc.damaged ∧
  ∀ c ∈ s.cells n w, cellKeepsPlan (s.planOf w.lot) c = true

/-- The entry of an open group still fits the cell it names (R66, R67). -/
abbrev State.EntryFits (s : State) (n : SlotId) (w : Wafer) (e : Entry) : Prop :=
  e.cell < w.cols * w.rows ∧ (s.planOf w.lot).cls e.bin ≠ .unused ∧ s.cellRecord n e.cell ≠ .offWafer ∧
  ((s.planOf w.lot).isResult e.bin = true →
    cellHasRoom (s.planOf w.lot).limit (s.cellRecord n e.cell) = true)

/-- The accounts of every slot, and the entries of every open group. -/
abbrev State.AccountLaw (s : State) : Prop :=
  (∀ n : SlotId, ∀ w ∈ (s.slot n).toList, s.SlotAccounts n w) ∧
  ∀ i : StationId, ∀ b ∈ (s.station i).binding.toList, ∀ g ∈ (s.station i).group.toList,
    ∀ w ∈ (s.slot b.slot).toList, ∀ e ∈ g.entries, s.EntryFits b.slot w e

/-- All the laws together. -/
abbrev State.Lawful (s : State) : Prop :=
  Mem.wf s.mem ∧ s.QueueLaw ∧ s.BindingLaw ∧ s.SlotLaw ∧ s.LotLaw ∧ s.AlarmLaw ∧ s.SettingsLaw ∧
  s.AccountLaw

end Sys2Proof.Machine
end

