-- ==== Sys2Proof/Certificates/Slice0/Obligations.lean ====
section
/-! DEFINITION. The statements for the provers. A request row is stated under State.Offers and a record row
under State.Grants (Safety.lean): the request or the record stands ready to be taken. Every next state is
written out, so what it does not name is unchanged. -/

open Sys2Proof Sys2Proof.Machine

/-! ## The queue of commands, reset, and the RST pin -/

/-- A step runs the command at the front of the queue with the queue's rest; on an empty queue the part
idles (the model's choice, log 1). -/
def Obligations.StepRunsFrontCommand : Prop :=
  ∀ (c : Instr) (rest : List Instr) (s : State),
    step { s with pending := c :: rest } = exec c { s with pending := rest } ∧
    step { s with pending := [] } = .next { s with pending := [] }

/-- Every command ends in a next state and leaves the queue of commands alone: the part never stops (the
model's reading of "each whole and indivisible" of spec/95, log 2 and log 14). -/
def Obligations.EveryCommandCompletesAndKeepsQueue : Prop :=
  ∀ (c : Instr) (s : State), ∃ t, exec c s = .next t ∧ t.pending = s.pending

/-- The values after a power-on reset: R10, R14, R25, R53, R58, R61, R81, R102, R130, R153, R154, Table 3.1,
Table 7.1, Table 9.1. -/
def Obligations.ResetValues : Prop :=
  let s := State.reset
  s.rst = false ∧ s.hostRx = [] ∧ s.requests = [] ∧ s.inProgress = none ∧ s.ready = [.notice] ∧
  s.hostLine = none ∧ s.causes = [.restarted] ∧ s.lastReset = .powerOn ∧
  (∀ e : Fin 16, s.lots[e] = none) ∧
  (∀ k : Fin 4, s.plans[k].policy = .latest ∧ s.plans[k].limit = 1 ∧ s.plans[k].passLock = false ∧
    ∀ b : Bin, s.plans[k].bins[b] = ⟨.unused, 63⟩) ∧
  (∀ n : SlotId, s.slots[n] = none) ∧ (∀ k : Fin 4, s.classes[k] = ⟨50, .commit⟩) ∧
  (∀ i : StationId, (s.station i).intake = .held ∧ (s.station i).staging = [] ∧
    (s.station i).priority = i.val ∧ (s.station i).timingClass = 0 ∧ (s.station i).badFrames = 0 ∧
    (s.station i).silence = 0 ∧ (s.station i).silenceEnds = false ∧
    (s.station i).transmit = [] ∧ (s.station i).line = none ∧
    (s.station i).rx = [] ∧ (s.station i).binding = none ∧ (s.station i).group = none ∧
    ∀ k : SiteId, (s.station i).consecFail[k] = 0 ∧ (s.station i).consecVoid[k] = 0) ∧
  s.lastGranted = 7 ∧ s.mem = [] ∧ s.corrected = 0 ∧
  (∀ k : Fin 16, s.rules[k] = ⟨false, .yieldFloor, none, 0, 0, 1, 7, .note⟩) ∧
  s.tripped = [] ∧ s.alarms = [] ∧ s.cal = 8 ∧ s.overflow = false ∧ s.mex = none

/-- RESET FULL (R180) takes every block to its reset values with last reset kind FULL, without a reply; the
RST pin (R181) does so with POWER_ON when it is asserted, and its release starts the part with those values.
While it is asserted nothing but the pin acts: no frame is taken or sent and every block keeps its values. A
RESET with an undefined kind code gives BAD_FIELD and resets nothing (R179), whichever of the two rows takes
it (log 7). -/
def Obligations.ResetsAndPinHold : Prop :=
  ((∀ (s : State) (r : Frame) (rest : List Frame), s.Offers r rest → r.kind = 0x03 →
     u8 r.payload 0 = 0 →
     exec .resetFull s = .next { State.reset with pending := s.pending, lastReset := .full }) ∧
   (∀ s : State, exec .rstAssert s = .next { State.reset with pending := s.pending, rst := true }) ∧
   ∀ s : State, s.rst = true →
     exec .rstRelease s = .next { State.reset with pending := s.pending, rst := false }) ∧
  (∀ (s : State) (r : Frame) (rest : List Frame), s.Offers r rest → r.kind = 0x03 →
     1 < u8 r.payload 0 → ∀ c ∈ [Instr.resetFull, .resetCollation],
       exec c s = .next { s with requests := rest, ready := s.ready ++ [answerTo r .badField []] }) ∧
  (∀ (c : Instr) (s : State), s.rst = true → c ≠ .rstAssert → c ≠ .rstRelease → exec c s = .next s)

/-- RESET COLLATION (R179, R182) takes the request and waits. COLLATION_RESTART, once no expiry that has
fallen due is left (R183), discards every group, empties every staging queue, drops every binding, completes
every CLOSING slot, stops the export, puts every station in HELD with its counts at 0, and answers OK. Where
the lots keep their law, each close adds its wafer and its totals to its lot, whose active slot count falls; a
CLOSING lot whose count so comes to 0 becomes CLOSED; and every other lot is kept (R6, R7, R10, R25, R129).
WAFER_CLOSED, LOT_CLOSED and RESTARTED join the set, EXPORT_WAITING leaves it whether or not an export runs
(log 18), and every other cause is kept. A NOTICE becomes ready where a cause joins an empty set and none
waits. The settings, the map memory, the rules, the alarms and the waiting requests are kept. The steps do not
wait for a frame on the host line to be sent whole, which stays there (the model's choice, log 24). -/
def Obligations.CollationRestartStopsCollation : Prop :=
  (∀ (s : State) (r : Frame) (rest : List Frame), s.Offers r rest → r.kind = 0x03 →
    u8 r.payload 0 = 1 →
    exec .resetCollation s =
      .next { s with requests := rest, inProgress := some (.restarting r.tag) }) ∧
  ∀ (s : State) (tag : Byte), s.rst = false → s.dueExpiry = none →
    s.inProgress = some (.restarting tag) →
    let closes (id : LotId) : List Wafer :=
      (List.finRange 32).filterMap fun n =>
        (s.slot n).filter fun w => decide (w.state = .closing ∧ w.lot = id)
    let ends (l : Lot) : Bool :=
      decide (l.state = .closing ∧ closes l.id ≠ [] ∧ l.active = (closes l.id).length)
    ∃ t, exec .collationRestart s = .next t ∧
      (∀ i : StationId, t.station i =
        { s.station i with
          intake := .held, staging := [], badFrames := 0, silence := 0, silenceEnds := false
          binding := none, group := none
          consecFail := Vector.replicate 16 0, consecVoid := Vector.replicate 16 0 }) ∧
      (∀ (n : SlotId) (w : Wafer), s.slot n = some w → w.state = .closing →
        t.slot n = some { w with state := .closed, closing := some w.totals }) ∧
      (∀ (m : Mex) (w : Wafer), s.mex = some m → s.slot m.slot = some w → w.state = .exporting →
        t.slot m.slot = some { w with state := .closed }) ∧
      (∀ n : SlotId, (s.slotIs n .opened = true ∨ s.slotIs n .closed = true ∨ s.slot n = none) →
        t.slot n = s.slot n) ∧
      (s.LotLaw →
        (∀ e : Fin 16, s.lots[e] = none → t.lots[e] = none) ∧
        (∀ (e : Fin 16) (l : Lot), s.lots[e] = some l → ∃ numbers : List Nat,
          t.lots[e] = some
            { l with
              state := if ends l then .closed else l.state
              closedList := numbers
              totals :=
                ⟨l.totals.tested + ((closes l.id).map fun w => w.acc.tested).sum,
                  l.totals.passed + ((closes l.id).map fun w => w.acc.passed).sum,
                  l.totals.gross + ((closes l.id).map fun w => w.gross).sum,
                  Vector.ofFn fun b =>
                    l.totals.hist[b] + ((closes l.id).map fun w => w.acc.hist[b]).sum⟩
              active := l.active - (closes l.id).length } ∧
          numbers.Pairwise (· < ·) ∧
          ∀ k : Nat, k ∈ numbers ↔ k ∈ l.closedList ∨ k ∈ (closes l.id).map Wafer.number) ∧
        ∀ c : Cause, c ∈ t.causes ↔
          c = .restarted ∨ (c ∈ s.causes ∧ c ≠ .exportWaiting) ∨
          (c = .waferClosed ∧ ∃ n : SlotId, s.slotIs n .closing = true) ∨
          (c = .lotClosed ∧ ∃ (e : Fin 16) (l : Lot), s.lots[e] = some l ∧ ends l = true)) ∧
      t.tripped = s.tripped.filter (fun w => !Watch.ofStationKind w) ∧ t.mex = none ∧
      t.lastReset = .collation ∧ t.inProgress = none ∧ Cause.restarted ∈ t.causes ∧
      Cause.exportWaiting ∉ t.causes ∧
      t.ready = s.ready ++
        (if ReadyFrame.notice ∉ s.ready ∧
            (s.causes = [] ∨
              ((∀ n : SlotId, s.slotIs n .closing = false) ∧ ∀ c ∈ s.causes, c = .exportWaiting)) then
          [.notice]
        else []) ++
        [.reply false ⟨0x83, tag, [0]⟩] ∧
      t.rst = s.rst ∧ t.hostRx = s.hostRx ∧ t.requests = s.requests ∧ t.hostLine = s.hostLine ∧
      t.plans = s.plans ∧ t.classes = s.classes ∧ t.lastGranted = s.lastGranted ∧ t.mem = s.mem ∧
      t.corrected = s.corrected ∧ t.rules = s.rules ∧ t.alarms = s.alarms ∧ t.cal = s.cal ∧
      t.overflow = s.overflow ∧ t.pending = s.pending

/-! ## Frames as bytes -/

/-- A receiver reads every frame the part could send or be sent, with any bytes that are no SYNC before it,
and finds a good frame only where the bytes hold one whole, its LEN at most 1020 and its CRC matching
(R184, R185). -/
def Obligations.ReceiverReadsExactlyWholeFrames : Prop :=
  (∀ (f : Frame) (junk rest : List Byte), f.payload.length ≤ 1020 → (∀ b ∈ junk, b ≠ sync) →
     receive (junk ++ (f.bytes ++ rest)) = .good f rest) ∧
  (∀ (bytes : List Byte) (f : Frame) (rest : List Byte), receive bytes = .good f rest →
     f.payload.length ≤ 1020 ∧ ∃ junk, (∀ b ∈ junk, b ≠ sync) ∧ bytes = junk ++ (f.bytes ++ rest))

/-- A lot id of the form of R2 is read back from its 13-byte field (R187), wherever it stands in a
payload. -/
def Obligations.LotIdFieldReadsBack : Prop :=
  ∀ (id : LotId) (before after : List Byte), LotId.wf id = true →
    lotIdField (before ++ (lotIdBytes id ++ after)) before.length = some id

/-! ## The host link -/

/-- HOST_FRAME_RECEIVE at an idle receiver (R169, R170, R173). One good frame: an unknown kind, a length that
does not fit, a request that joins the queue, and a full queue. Bytes that complete one bad frame:
BAD_FRAME with tag 0 and reply kind H'80, and the receiver examines again the bytes after the frame's SYNC
(R185). An immediate reply is dropped where it would be the ninth. -/
def Obligations.HostFramesAreExamined : Prop :=
  (∀ (s : State) (f : Frame), s.rst = false → s.hostRx = [] → f.payload.length ≤ 1020 →
     (f.kind.toNat = 0 ∨ 0x1C < f.kind.toNat →
       exec (.hostFrameReceive f.bytes) s = .next
         { s with
           ready :=
             if s.immediateWaiting < 8 then s.ready ++ [.reply true ⟨0x80, f.tag, [2]⟩] else s.ready }) ∧
     ∀ n, requestLength f.kind f.payload = some n →
       (f.payload.length ≠ n →
         exec (.hostFrameReceive f.bytes) s = .next
           { s with
             ready :=
               if s.immediateWaiting < 8 then s.ready ++ [.reply true ⟨f.kind + 0x80, f.tag, [3]⟩]
               else s.ready }) ∧
       (f.payload.length = n → s.requests.length < 4 →
         exec (.hostFrameReceive f.bytes) s = .next { s with requests := s.requests ++ [f] }) ∧
       (f.payload.length = n → 4 ≤ s.requests.length →
         exec (.hostFrameReceive f.bytes) s = .next
           { s with
             ready :=
               if s.immediateWaiting < 8 then s.ready ++ [.reply true ⟨f.kind + 0x80, f.tag, [6]⟩]
               else s.ready })) ∧
  (∀ (s : State) (bytes rest kept : List Byte), s.rst = false →
     BringsBadFrame s.hostRx bytes rest kept →
     exec (.hostFrameReceive bytes) s = .next
       { s with
         hostRx := kept
         ready := if s.immediateWaiting < 8 then s.ready ++ [.reply true ⟨0x80, 0, [5]⟩] else s.ready })

/-- IDENTIFY (R178). -/
def Obligations.IdentifyReportsPart : Prop :=
  ∀ (s : State) (r : Frame) (rest : List Frame), s.Offers r rest → r.kind = 0x01 →
    exec .identify s = .next
      { s with
        requests := rest
        ready := s.ready ++
          [answerTo r .ok [0xB7, 0x64, 0x20, 0x01, 8, 16, 32, 16, 4, 16, 32]] }

/-- STATUS removes and reports the cause of highest priority, or NONE, with the snapshot of Table 9.4
(R176). The set is listed in priority order. -/
def Obligations.StatusReportsTopCause : Prop :=
  ∀ (s : State) (r : Frame) (rest : List Frame), s.Offers r rest → r.kind = 0x02 →
    s.causes = Cause.all.filter (fun c => decide (c ∈ s.causes)) →
    exec .status s = .next
      { s with
        requests := rest
        causes := s.causes.tail
        ready := s.ready ++
          [answerTo r .ok
            ([causeCode s.causes.head?, causeSetByte s.causes.tail, s.lastReset.code, byte s.cal,
              boolCode s.overflow, byte (s.alarms.countP fun e => decide (e.state = .pending)),
              byte (s.alarms.countP fun e => decide (e.state = .raised)),
              byte (s.alarms.countP fun e => decide (e.state = .acked))] ++ be16 s.corrected ++
            [byte (s.countSlots none), byte (s.countSlots (some .opening)),
              byte (s.countSlots (some .opened)), byte (s.countSlots (some .closing)),
              byte (s.countSlots (some .closed)), byte (s.countSlots (some .exporting))] ++
            (List.finRange 8).map fun i => (s.station i).intake.code)] }

/-- The host transmitter takes the oldest frame of the ready list: a NOTICE lists the causes of that moment
(R175), and a reply goes out as it stands (R173). With it the frame before has been sent whole, and an
EXPORT_STOP that waited for it ends its export first and is answered (R163, R171; log 11). STATION_TRANSMIT
takes the oldest frame of the station's transmit list, and with none waiting the line is idle (R41). The idle
line is the model's form of an empty list at a frame boundary (log 17). -/
def Obligations.TransmittersTakeOldestFrame : Prop :=
  (∀ s : State, s.rst = false →
     (∀ rest, s.ready = .notice :: rest →
       ((∀ tag, s.inProgress ≠ some (.stopping tag)) →
         exec .noticeTaken s =
           .next { s with ready := rest, hostLine := some ⟨0xA0, 0, [causeSetByte s.causes]⟩ }) ∧
       ∀ (tag : Byte) (m : Mex) (w : Wafer), s.inProgress = some (.stopping tag) → s.mex = some m →
         s.slot m.slot = some w → w.state = .exporting →
         let causes := s.causes.filter fun c => decide (c ≠ .exportWaiting)
         exec .noticeTaken s = .next
           { s with
             ready := rest ++ [.reply false ⟨0x9C, tag, 0 :: be16 m.position⟩]
             inProgress := none
             mex := none
             slots := s.slots.set m.slot (some { w with state := .closed })
             causes := causes
             hostLine := some ⟨0xA0, 0, [causeSetByte causes]⟩ }) ∧
     ∀ (b : Bool) (f : Frame) (rest : List ReadyFrame), s.ready = .reply b f :: rest →
       ((∀ tag, s.inProgress ≠ some (.stopping tag)) →
         exec .hostReplyTaken s = .next { s with ready := rest, hostLine := some f }) ∧
       ∀ (tag : Byte) (m : Mex) (w : Wafer), s.inProgress = some (.stopping tag) → s.mex = some m →
         s.slot m.slot = some w → w.state = .exporting →
         exec .hostReplyTaken s = .next
           { s with
             ready := rest ++ [.reply false ⟨0x9C, tag, 0 :: be16 m.position⟩]
             inProgress := none
             mex := none
             slots := s.slots.set m.slot (some { w with state := .closed })
             causes := s.causes.filter fun c => decide (c ≠ .exportWaiting)
             hostLine := some f }) ∧
  (∀ (s : State) (i : StationId), s.rst = false →
     (∀ (f : StationFrame) (rest : List StationFrame), (s.station i).transmit = f :: rest →
       exec (.stationTransmit i) s = .next
         { s with stations := s.stations.set i { s.station i with line := some f, transmit := rest } }) ∧
     ((s.station i).transmit = [] →
       exec (.stationTransmit i) s = .next
         { s with stations := s.stations.set i { s.station i with line := none } }))

/-- Adding a cause (R174, R175): a member leaves the set as it was; a new one joins at its priority, and
makes a NOTICE ready only where the set was empty and no NOTICE waits. -/
def Obligations.AddedCauseMakesOneNotice : Prop :=
  ∀ (s : State) (c : Cause),
    (c ∈ s.causes → s.addCause c = s) ∧
    (s.causes = [] → ReadyFrame.notice ∉ s.ready →
      s.addCause c = { s with causes := [c], ready := s.ready ++ [.notice] }) ∧
    (c ∉ s.causes → s.causes ≠ [] ∨ ReadyFrame.notice ∈ s.ready →
      s.addCause c =
        { s with causes := Cause.all.filter fun x => decide (x = c ∨ x ∈ s.causes) })

/-- A request row waits (nothing changes) while another request is in progress, while 8 replies to requests
wait, or with no request in the queue (R171). A record row waits while no queue is granted, a restart waits,
or an expiry that has fallen due is still to be taken (R52, R72, R182). That the step then does not come about
is the model's reading (log 2), and that the bytes such a row carries do not arrive then is its form (log 26).
EXPORT_STOP waits too, unless it is the request in progress itself (log 11). -/
def Obligations.RowsWaitTheirTurn : Prop :=
  (∀ s : State,
     (s.inProgress ≠ none ∨ 8 ≤ s.carriedWaiting ∨ s.requests = []) →
     ((∀ tag, s.inProgress ≠ some (.stopping tag)) →
       exec .exportStop s = .next s) ∧
     (∀ c ∈ [Instr.identify, .status, .resetFull, .resetCollation, .stationSet, .stationCtrlRelease,
         .stationCtrlStart, .stationCtrlStop, .stationCtrlResume, .stationQuery, .classSet, .planLoad,
         .planRead, .lotOpen, .lotClose, .lotRelease, .lotQuery, .waferOpen, .waferClose, .waferReopen,
         .waferRelease, .waferQuery, .yieldQuerySlot, .yieldQueryLot, .ruleSet, .ruleRead, .alarmList,
         .alarmAck, .alarmClear, .exportStart, .exportMore],
       exec c s = .next s)) ∧
  (∀ s : State, (s.grant = none ∨ s.restarting = true ∨ s.dueExpiry ≠ none) →
     ∀ (reads : List Nat) (bytes : List Byte), ∀ x ∈ recordRowsWith reads [] bytes, exec x.1 s = .next s)

/-! ## The stations' settings and intake states -/

/-- STATION_SET (R50), carried out in HELD and STOPPED alone, and CLASS_SET (R62), BUSY while a station of the
class is RUNNING, STOPPING or HALTED. The bytes of CLASS_SET's reply (timeout, then mode) are the model's
reading of R187 (log 8). -/
def Obligations.StationAndClassSettings : Prop :=
  (∀ (s : State) (r : Frame) (rest : List Frame), s.Offers r rest → r.kind = 0x04 →
     (∀ (i : StationId) (c : Fin 4), u8 r.payload 0 = i.val → u8 r.payload 2 = c.val →
       ((s.station i).intake = .held ∨ (s.station i).intake = .stopped →
         exec .stationSet s = .next
           { s with
             requests := rest
             stations := s.stations.set i
               { s.station i with priority := min 15 (u8 r.payload 1), timingClass := c }
             ready := s.ready ++ [answerTo r .ok []] }) ∧
       ((s.station i).intake ≠ .held → (s.station i).intake ≠ .stopped →
         exec .stationSet s = .next
           { s with requests := rest, ready := s.ready ++ [answerTo r .state []] })) ∧
     (7 < u8 r.payload 0 ∨ 3 < u8 r.payload 2 →
       exec .stationSet s = .next
         { s with requests := rest, ready := s.ready ++ [answerTo r .badField []] })) ∧
  (∀ (s : State) (r : Frame) (rest : List Frame), s.Offers r rest → r.kind = 0x07 →
     (∀ c : Fin 4, u8 r.payload 0 = c.val →
       ((∀ i : StationId, (s.station i).timingClass = c →
           (s.station i).intake = .held ∨ (s.station i).intake = .stopped ∨
             (s.station i).intake = .faulted) →
         (u8 r.payload 2 = 0 →
           exec .classSet s = .next
             { s with
               requests := rest
               classes := s.classes.set c ⟨max 1 (u8 r.payload 1), .commit⟩
               ready := s.ready ++ [answerTo r .ok [byte (max 1 (u8 r.payload 1)), 0]] }) ∧
         (u8 r.payload 2 = 1 →
           exec .classSet s = .next
             { s with
               requests := rest
               classes := s.classes.set c ⟨max 1 (u8 r.payload 1), .discard⟩
               ready := s.ready ++ [answerTo r .ok [byte (max 1 (u8 r.payload 1)), 1]] })) ∧
       ∀ i : StationId, (s.station i).timingClass = c → u8 r.payload 2 < 2 →
         (s.station i).intake = .running ∨ (s.station i).intake = .stopping ∨
           (s.station i).intake = .halted →
         exec .classSet s =
           .next { s with requests := rest, ready := s.ready ++ [answerTo r .busy []] }) ∧
     (3 < u8 r.payload 0 ∨ 1 < u8 r.payload 2 →
       exec .classSet s =
         .next { s with requests := rest, ready := s.ready ++ [answerTo r .badField []] }))

/-- STATION_CTRL by Table 3.7: RELEASE, START, STOP and RESUME from each state that allows it (R44 to R47,
R134, R140), the reply carrying the intake state after the action; the entries marked "—" refused STATE, and a
station number above 7 or an action code above 3 BAD_FIELD. That any of the four rows answers an undefined
action code is the model's choice (log 7). A STOP that reaches STOPPED leaves the silence counter to be set to
0 at the next tick (R57). -/
def Obligations.StationCtrlFollowsTable : Prop :=
  (∀ (s : State) (r : Frame) (rest : List Frame) (i : StationId), s.Offers r rest → r.kind = 0x05 →
     u8 r.payload 0 = i.val →
     (u8 r.payload 1 = 0 → (s.station i).intake = .held →
       exec .stationCtrlRelease s = .next
         { s with
           requests := rest
           stations := s.stations.set i { s.station i with intake := .stopped }
           ready := s.ready ++ [answerTo r .ok [1]] }) ∧
     (u8 r.payload 1 = 1 → (s.station i).intake = .stopped →
       exec .stationCtrlStart s = .next
         { s with
           requests := rest
           stations := s.stations.set i
             { s.station i with
               intake := .running
               consecFail := Vector.replicate 16 0
               consecVoid := Vector.replicate 16 0 }
           tripped := s.tripped.filter fun w => !Watch.probeOf i w
           ready := s.ready ++ [answerTo r .ok [2]] }) ∧
     (u8 r.payload 1 = 2 → (s.station i).intake = .running ∨ (s.station i).intake = .halted →
       ((s.station i).group = none →
         exec .stationCtrlStop s = .next
           { s with
             requests := rest
             stations := s.stations.set i { s.station i with intake := .stopped, silenceEnds := true }
             ready := s.ready ++ [answerTo r .ok [1]] }) ∧
       ((s.station i).group ≠ none →
         exec .stationCtrlStop s = .next
           { s with
             requests := rest
             stations := s.stations.set i { s.station i with intake := .stopping }
             ready := s.ready ++ [answerTo r .ok [3]] })) ∧
     (u8 r.payload 1 = 2 → (s.station i).intake = .faulted →
       exec .stationCtrlStop s = .next
         { s with
           requests := rest
           stations := s.stations.set i
             { s.station i with intake := .stopped, silenceEnds := true, badFrames := 0 }
           ready := s.ready ++ [answerTo r .ok [1]] }) ∧
     (u8 r.payload 1 = 3 → (s.station i).intake = .halted →
       exec .stationCtrlResume s = .next
         { s with
           requests := rest
           stations := s.stations.set i
             { s.station i with
               intake := .running
               transmit :=
                 if (s.station i).transmit.length < 15 then (s.station i).transmit ++ [.resume]
                 else (s.station i).transmit }
           ready := s.ready ++ [answerTo r .ok [2]] })) ∧
  (∀ (s : State) (r : Frame) (rest : List Frame), s.Offers r rest → r.kind = 0x05 →
     (∀ i : StationId, u8 r.payload 0 = i.val →
       (u8 r.payload 1 = 0 → (s.station i).intake ≠ .held →
         exec .stationCtrlRelease s =
           .next { s with requests := rest, ready := s.ready ++ [answerTo r .state []] }) ∧
       (u8 r.payload 1 = 1 → (s.station i).intake ≠ .stopped →
         exec .stationCtrlStart s =
           .next { s with requests := rest, ready := s.ready ++ [answerTo r .state []] }) ∧
       (u8 r.payload 1 = 2 → (s.station i).intake = .held ∨ (s.station i).intake = .stopped ∨
           (s.station i).intake = .stopping →
         exec .stationCtrlStop s =
           .next { s with requests := rest, ready := s.ready ++ [answerTo r .state []] }) ∧
       (u8 r.payload 1 = 3 → (s.station i).intake ≠ .halted →
         exec .stationCtrlResume s =
           .next { s with requests := rest, ready := s.ready ++ [answerTo r .state []] })) ∧
     ∀ x ∈ [(Instr.stationCtrlRelease, 0), (.stationCtrlStart, 1), (.stationCtrlStop, 2),
         (.stationCtrlResume, 3)],
       (u8 r.payload 1 = x.2 ∧ 7 < u8 r.payload 0) ∨ 3 < u8 r.payload 1 →
       exec x.1 s = .next { s with requests := rest, ready := s.ready ++ [answerTo r .badField []] })

/-- STATION_QUERY reports the fields of Table 3.8 (R51). The order of the bytes, the absent binding, the
group's presence byte, the 2-byte site set and the 1-byte entry count are the model's reading of R187 (log 8). -/
def Obligations.StationQueryReportsFields : Prop :=
  ∀ (s : State) (r : Frame) (rest : List Frame), s.Offers r rest → r.kind = 0x06 →
    (∀ i : StationId, u8 r.payload 0 = i.val →
      exec .stationQuery s = .next
        { s with
          requests := rest
          ready := s.ready ++
            [answerTo r .ok
              ([(s.station i).intake.code, byte (s.station i).priority,
                byte (s.station i).timingClass.val] ++
              (match (s.station i).binding with
                | none => [0xFF, 0xFF]
                | some b => [byte b.slot.val, byte b.q.val]) ++
              (match (s.station i).group with
                | none => [0]
                | some g =>
                  [1] ++ be16 g.touchdown ++ be16 g.active.toNat ++ [byte g.entries.length] ++
                  g.entries.flatMap fun e => [byte e.site.val] ++ be16 e.cell ++ [byte e.bin.val]) ++
              [byte (s.station i).staging.length, byte (s.station i).badFrames] ++
              be16 (s.station i).silence ++ (s.station i).consecFail.toList.map byte ++
              (s.station i).consecVoid.toList.map byte)] }) ∧
    (7 < u8 r.payload 0 →
      exec .stationQuery s =
        .next { s with requests := rest, ready := s.ready ++ [answerTo r .badField []] })

/-! ## The station links -/

/-- BAD_FRAME (R36, R41, R185): one bad frame raises the count to at most 16 and is answered BAD_FRAME with
tag 0 while fewer than 14 frames wait. It moves no station that the count does not fault. -/
def Obligations.BadStationFrameRaisesCount : Prop :=
  ∀ (s : State) (i : StationId) (bytes rest kept : List Byte), s.rst = false →
    (s.station i).intake ≠ .faulted → BringsBadFrame (s.station i).rx bytes rest kept →
    ((s.station i).badFrames < 15 ∨ (s.station i).intake = .held ∨ (s.station i).intake = .stopped) →
    exec (.badFrame i bytes) s = .next
      { s with
        stations := s.stations.set i
          { s.station i with
            rx := kept
            badFrames := if (s.station i).badFrames < 16 then (s.station i).badFrames + 1
              else (s.station i).badFrames
            transmit :=
              if (s.station i).transmit.length < 14 then
                (s.station i).transmit ++ [.reply ⟨0, .refuse, some .badFrame, none, none⟩]
              else (s.station i).transmit } }

/-- The bad frame that brings the count to 16 (or finds it there) in RUNNING, STOPPING or HALTED faults the
station (R36, R48, R74): its queue and every frame that waits on its transmit list are discarded, its group
discarded, its binding dropped and STATION_FAULT added. The frame on the line is finished. No other station,
no cell and no setting changes. That every frame STATION_TRANSMIT has not taken waits and is discarded, the
REPLY to this bad frame on an idle line among them, is the model's reading (log 10) and its choice (log 23);
3.10.3 says that the faulting bad frame is answered. The silence counter is left to be set to 0 at the next
tick (R57). The steps of R48 as one state: without a CLOSING slot the station's record alone changes and
STATION_FAULT is added; with one, its close is completed as at any end of a group (R22, R73), lot and ready
list included. A fault that arrives while the Collation Engine carries out a record of the station, or the
expiry of its group (R48, R70, R74): the record, its commit or its entries, or the expiry is carried out
whole, its REPLY is discarded, and the rest of the entry to FAULTED follows; a station that was STOPPING stays
FAULTED at its group's end (R48, R73). WAFER_START, WAFER_END, TD_OPEN and TD_ABORT so leave nothing behind
but the grant. These clauses rest on the model's form and reading (log 26): that the bytes of such a fault are
an operand of the row and act at the start of the work is its choice; so is that STATION_FAULT is added after
the work, where R48 does not say; and that an expiry, in DISCARD mode too, is finished first as a record and a
commit are is deduced. -/
def Obligations.SixteenthBadFrameFaultsStation : Prop :=
  (∀ (s : State) (i : StationId) (bytes rest kept : List Byte), s.rst = false → s.BindingLaw →
     BringsBadFrame (s.station i).rx bytes rest kept →
     15 ≤ (s.station i).badFrames → (s.station i).badFrames ≤ 16 →
     ((s.station i).intake = .running ∨ (s.station i).intake = .stopping ∨
       (s.station i).intake = .halted) →
     ∃ t, exec (.badFrame i bytes) s = .next t ∧
       (t.station i).intake = .faulted ∧ (t.station i).badFrames = 16 ∧ (t.station i).staging = [] ∧
       (t.station i).transmit = [] ∧ (t.station i).rx = [] ∧ (t.station i).binding = none ∧
       (t.station i).group = none ∧
       (t.station i).line = (s.station i).line ∧
       (t.station i).silence = (s.station i).silence ∧ (t.station i).silenceEnds = true ∧
       (t.station i).consecFail = (s.station i).consecFail ∧
       (t.station i).consecVoid = (s.station i).consecVoid ∧
       (t.station i).priority = (s.station i).priority ∧
       (t.station i).timingClass = (s.station i).timingClass ∧
       (∀ j : StationId, j ≠ i → t.station j = s.station j) ∧
       (∀ n : SlotId, s.slotIs n .closing = false → t.slot n = s.slot n) ∧
       (∀ (b : Binding) (w : Wafer), (s.station i).binding = some b → s.slot b.slot = some w →
         w.state = .closing →
         t.slot b.slot = some { w with state := .closed, closing := some w.totals } ∧
         Cause.waferClosed ∈ t.causes) ∧
       Cause.stationFault ∈ t.causes ∧ t.mem = s.mem ∧ t.plans = s.plans ∧ t.classes = s.classes ∧
       t.rules = s.rules ∧ t.tripped = s.tripped ∧ t.alarms = s.alarms ∧ t.cal = s.cal ∧
       t.overflow = s.overflow ∧ t.corrected = s.corrected ∧ t.mex = s.mex ∧
       t.requests = s.requests ∧ t.inProgress = s.inProgress ∧ t.hostLine = s.hostLine ∧
       t.hostRx = s.hostRx ∧ t.lastGranted = s.lastGranted ∧ t.lastReset = s.lastReset ∧ t.rst = s.rst) ∧
  (∀ (s : State) (i : StationId) (bytes rest kept : List Byte), s.rst = false → s.BindingLaw →
     BringsBadFrame (s.station i).rx bytes rest kept →
     15 ≤ (s.station i).badFrames → (s.station i).badFrames ≤ 16 →
     ((s.station i).intake = .running ∨ (s.station i).intake = .stopping ∨
       (s.station i).intake = .halted) →
     let faulted : Station := { (s.station i).faultedNow with group := none }
     ((∀ b : Binding, (s.station i).binding = some b → s.slotIs b.slot .closing = false) →
       exec (.badFrame i bytes) s = .next
         (State.addCause .stationFault
           { s with stations := s.stations.set i { faulted with binding := none } })) ∧
     ∀ b : Binding, (s.station i).binding = some b → s.slotIs b.slot .closing = true →
       exec (.badFrame i bytes) s = .next
         (State.addCause .stationFault
           (State.completeClose b.slot true { s with stations := s.stations.set i faulted }))) ∧
  (∀ (s : State) (i : StationId) (r : Frame) (rest : List Frame) (bytes left kept : List Byte)
     (reads : List Nat), s.Grants i r rest → s.BindingLaw → bytes ≠ [] →
     BringsBadFrame (s.station i).rx bytes left kept →
     15 ≤ (s.station i).badFrames → (s.station i).badFrames ≤ 16 →
     ((s.station i).intake = .running ∨ (s.station i).intake = .stopping ∨
       (s.station i).intake = .halted) →
     (∀ us : List Upset, ∀ x ∈ recordRowsWith reads us bytes, r.kind = x.2 →
       ∃ t, exec x.1 s = .next t ∧ (t.station i).intake = .faulted ∧ (t.station i).badFrames = 16 ∧
         (t.station i).staging = [] ∧ (t.station i).transmit = [] ∧ (t.station i).rx = [] ∧
         (t.station i).group = none ∧ (t.station i).binding = none ∧ (t.station i).silenceEnds = true ∧
         (t.station i).silence = (s.station i).silence ∧ (t.station i).line = (s.station i).line ∧
         (∀ j : StationId, j ≠ i → t.station j = s.station j) ∧
         Cause.stationFault ∈ t.causes ∧ t.lastGranted = i) ∧
     (∀ (g : Group) (b : Binding), r.kind = 0x45 → (s.station i).group = some g →
       g.touchdown = u16 r.payload 0 → (s.station i).binding = some b →
       exec (.tdClose reads [] bytes) s =
         .next (State.faultEnds i
           (((s.granted i (s.station i).faultedNow).commit b.slot i g reads).1.endGroup i))) ∧
     (∀ (g : Group) (b : Binding), r.kind = 0x44 → (s.station i).group = some g →
       g.touchdown = u16 r.payload 0 → (s.station i).binding = some b →
       exec (.tdResults [] bytes) s =
         .next (State.faultEnds i
           (((s.granted i (s.station i).faultedNow).checkEntries i b (resultFields r.payload)).1.endGroup
             i))) ∧
     ∀ x ∈ [(Instr.waferStart bytes, (0x41 : Byte)), (.waferEnd bytes, 0x42), (.tdOpen bytes, 0x43),
         (.tdAbort bytes, 0x46)], r.kind = x.2 →
       let ended : State := s.granted i { (s.station i).faultedNow with group := none }
       ((∀ b : Binding, (s.station i).binding = some b → s.slotIs b.slot .closing = false) →
         exec x.1 s = .next (State.faultEnds i ended)) ∧
       ∀ b : Binding, (s.station i).binding = some b → s.slotIs b.slot .closing = true →
         exec x.1 s = .next (State.addCause .stationFault (State.completeClose b.slot true ended))) ∧
  (∀ (s : State) (i : StationId) (b : Binding) (g : Group) (w : Wafer) (reads : List Nat)
     (bytes left kept : List Byte), s.rst = false → s.dueExpiry = some i →
     (s.station i).group = some g → (s.station i).binding = some b → s.slot b.slot = some w →
     bytes ≠ [] → BringsBadFrame (s.station i).rx bytes left kept →
     15 ≤ (s.station i).badFrames → (s.station i).badFrames ≤ 16 →
     ((s.station i).intake = .running ∨ (s.station i).intake = .stopping ∨
       (s.station i).intake = .halted) →
     let counted : State :=
       { s with
         stations := s.stations.set i (s.station i).faultedNow
         slots := s.slots.set b.slot (some
           { w with
             acc := { w.acc with
               timeouts := if w.acc.timeouts < 65535 then w.acc.timeouts + 1 else w.acc.timeouts } }) }
     (g.mode = .discard →
       exec (.groupExpiry reads [] bytes) s =
         .next (State.faultEnds i ((counted.evalTimeouts b.slot i).endGroup i))) ∧
     (g.mode = .commit →
       exec (.groupExpiry reads [] bytes) s =
         .next (State.faultEnds i
           (((counted.commit b.slot i g reads).1.evalTimeouts b.slot i).endGroup i))))

/-- STATION_FRAME_RECEIVE of a good frame at an idle receiver (R37, R38, R39, R134): the bad-frame count and
the silence counter are cleared, the station's LINK_SILENT watches are armed, and the frame is refused,
answered or queued. LINK_CHECK is the good frame of its kind. In FAULTED every byte that arrives is discarded,
unanswered and uncounted (R40). Bytes that do not fault the station and do not fill its queue, arriving while
the Collation Engine carries out a record of the station or the expiry of its group, act as where they came
just before; that they do is the model's form (log 26). -/
def Obligations.StationFramesAreExamined : Prop :=
  (∀ (s : State) (i : StationId) (kind tag : Byte) (payload : List Byte), s.rst = false →
     (s.station i).intake ≠ .faulted → (s.station i).rx = [] → payload.length ≤ 1020 →
     let cleared (x : Station) : State :=
       { s with
         stations := s.stations.set i { x with badFrames := 0, silence := 0 }
         tripped := s.tripped.filter fun w => !Watch.linkOf i w }
     let answered (y : StationReply) : State :=
       cleared
         { s.station i with
           transmit :=
             if (s.station i).transmit.length < 14 then (s.station i).transmit ++ [.reply y]
             else (s.station i).transmit }
     (kind.toNat < 0x40 ∨ 0x46 < kind.toNat →
       exec (.stationFrameReceive i kind tag payload) s =
         .next (answered ⟨tag, .refuse, some .badKind, none, none⟩)) ∧
     (recordFits kind payload = some false →
       exec (.stationFrameReceive i kind tag payload) s =
         .next (answered ⟨tag, .refuse, some .badLength, none, none⟩)) ∧
     (kind = 0x40 → payload = [] →
       exec (.stationFrameReceive i kind tag payload) s =
         .next (answered ⟨tag, .accept, none, none, none⟩)) ∧
     exec (.linkCheck i tag) s = .next (answered ⟨tag, .accept, none, none, none⟩) ∧
     (recordFits kind payload = some true → kind ≠ 0x40 →
       ((s.station i).intake = .held ∨ (s.station i).intake = .stopped →
         exec (.stationFrameReceive i kind tag payload) s =
           .next (answered ⟨tag, .refuse, some .notReady, none, none⟩)) ∧
       ((s.station i).intake ≠ .held → (s.station i).intake ≠ .stopped →
         ((s.station i).staging.length < 8 →
           exec (.stationFrameReceive i kind tag payload) s =
             .next (cleared
               { s.station i with staging := (s.station i).staging ++ [⟨kind, tag, payload⟩] })) ∧
         (8 ≤ (s.station i).staging.length →
           exec (.stationFrameReceive i kind tag payload) s =
             .next (answered ⟨tag, .wait, none, none, none⟩))))) ∧
  (∀ (s : State) (i : StationId), s.rst = false → (s.station i).intake = .faulted →
     (∀ bytes, exec (.badFrame i bytes) s =
       .next { s with stations := s.stations.set i { s.station i with rx := [] } }) ∧
     (∀ (kind tag : Byte) (payload : List Byte), exec (.stationFrameReceive i kind tag payload) s =
       .next { s with stations := s.stations.set i { s.station i with rx := [] } }) ∧
     ∀ tag : Byte, exec (.linkCheck i tag) s =
       .next { s with stations := s.stations.set i { s.station i with rx := [] } }) ∧
  (∀ (s u : State) (i : StationId) (bytes : List Byte) (reads : List Nat) (us : List Upset), bytes ≠ [] →
     exec (.badFrame i bytes) s = .next u → (u.station i).intake = (s.station i).intake →
     (∀ (r : Frame) (rest : List Frame), s.Grants i r rest → (u.station i).staging.length < 8 →
       (u.station i).transmit.length < 14 →
       ∀ x ∈ recordForms reads us, r.kind = x.2 → exec (x.1 bytes) s = exec (x.1 []) u) ∧
     (s.rst = false → s.dueExpiry = some i →
       exec (.groupExpiry reads us bytes) s = exec (.groupExpiry reads us) u))

/-! ## The Intake Arbiter and the records of the stations -/

/-- The grant (R52): a waiting queue of the lowest priority code, and of those the first port after the
last granted one. Without a waiting queue there is no grant. -/
def Obligations.GrantIsLowestPriorityThenNextPort : Prop :=
  ∀ s : State,
    (∀ i : StationId, s.grant = some i ↔
      (s.station i).waits = true ∧
      ∀ j : StationId, (s.station j).waits = true →
        (s.station i).priority < (s.station j).priority ∨
        ((s.station i).priority = (s.station j).priority ∧
          portTurn s.lastGranted i ≤ portTurn s.lastGranted j)) ∧
    (s.grant = none ↔ ∀ i : StationId, (s.station i).waits = false) ∧
    ∀ i : StationId, (s.station i).waits = true ↔
      (s.station i).staging ≠ [] ∧ (s.station i).transmit.length < 14

/-- A record that the state check of Table 3.6 refuses is answered with its reason and has no other effect
(R43). TD_RESULTS, TD_CLOSE and TD_ABORT that pass it are refused NO_GROUP without an open group, and
WRONG_TOUCHDOWN with another touchdown number (R65, R68, R71). -/
def Obligations.RecordsAreRefusedInOrder : Prop :=
  (∀ (s : State) (i : StationId) (r : Frame) (rest : List Frame), s.Grants i r rest →
     ∀ x ∈ recordRows, r.kind = x.2 →
       ((s.station i).intake = .stopped ∨ (s.station i).intake = .held ∨
           ((s.station i).intake = .stopping ∧ (r.kind = 0x41 ∨ r.kind = 0x43)) →
         exec x.1 s = .next (s.granted i
           ((s.station i).replies rest ⟨r.tag, .refuse, some .notReady, none, none⟩))) ∧
       ((s.station i).intake = .halted → r.kind = 0x43 →
         exec x.1 s = .next (s.granted i
           ((s.station i).replies rest ⟨r.tag, .refuse, some .halted, none, none⟩)))) ∧
  (∀ (s : State) (i : StationId) (r : Frame) (rest : List Frame), s.Grants i r rest →
     ((s.station i).intake = .running ∨ (s.station i).intake = .stopping ∨
       (s.station i).intake = .halted) →
     ∀ x ∈ [(Instr.tdResults [], (0x44 : Byte)), (.tdClose [] [], 0x45), (.tdAbort, 0x46)], r.kind = x.2 →
       ((s.station i).group = none →
         exec x.1 s = .next (s.granted i
           ((s.station i).replies rest ⟨r.tag, .refuse, some .noGroup, none, none⟩))) ∧
       ∀ g : Group, (s.station i).group = some g → g.touchdown ≠ u16 r.payload 0 →
         exec x.1 s = .next (s.granted i
           ((s.station i).replies rest ⟨r.tag, .refuse, some .wrongTouchdown, none, none⟩)))

/-- WAFER_START (R55) in RUNNING or HALTED: the six checks in their order, and the binding. WAFER_END (R56) in
RUNNING, STOPPING or HALTED: NOT_BOUND, GROUP_OPEN, or the binding is dropped, the silence counter is left to
be set to 0 at the next tick (R57), and nothing else of the slot changes. -/
def Obligations.WaferStartAndEndBind : Prop :=
  (∀ (s : State) (i : StationId) (r : Frame) (rest : List Frame), s.Grants i r rest → r.kind = 0x41 →
     ((s.station i).intake = .running ∨ (s.station i).intake = .halted) →
     let refused (why : Reason) : Host.Outcome State Fault Refusal :=
       .next (s.granted i ((s.station i).replies rest ⟨r.tag, .refuse, some why, none, none⟩))
     (lotIdField r.payload 0 = none ∨ u8 r.payload 13 = 0 ∨ 50 < u8 r.payload 13 ∨ 3 < u8 r.payload 14 →
       exec .waferStart s = refused .badField) ∧
     ∀ (id : LotId) (q : Fin 4), lotIdField r.payload 0 = some id → 1 ≤ u8 r.payload 13 →
       u8 r.payload 13 ≤ 50 → u8 r.payload 14 = q.val →
       ((s.station i).binding ≠ none → exec .waferStart s = refused .stationBound) ∧
       ((s.station i).binding = none →
         ((∀ (n : SlotId) (w : Wafer), s.slot n = some w → w.lot = id → w.number = u8 r.payload 13 →
             w.state = .closed ∨ w.state = .exporting) →
           exec .waferStart s = refused .unknownWafer) ∧
         ∀ (n : SlotId) (w : Wafer), s.slot n = some w → w.lot = id → w.number = u8 r.payload 13 →
           (∀ (m : SlotId) (v : Wafer), s.slot m = some v → v.lot = id → v.number = u8 r.payload 13 →
             m = n) →
           (w.state = .opening →
             exec .waferStart s = .next (s.granted i
               ((s.station i).replies rest ⟨r.tag, .wait, none, none, none⟩))) ∧
           (w.state = .closing → exec .waferStart s = refused .waferClosing) ∧
           (w.state = .opened → s.boundStation n ≠ none → exec .waferStart s = refused .waferBusy) ∧
           (w.state = .opened → s.boundStation n = none →
             exec .waferStart s = .next (s.granted i
               { (s.station i).replies rest ⟨r.tag, .accept, none, none, some n⟩ with
                 binding := some ⟨n, q⟩ })))) ∧
  (∀ (s : State) (i : StationId) (r : Frame) (rest : List Frame), s.Grants i r rest → r.kind = 0x42 →
     ((s.station i).intake = .running ∨ (s.station i).intake = .stopping ∨
       (s.station i).intake = .halted) →
     ((s.station i).binding = none →
       exec .waferEnd s = .next (s.granted i
         ((s.station i).replies rest ⟨r.tag, .refuse, some .notBound, none, none⟩))) ∧
     ((s.station i).binding ≠ none → (s.station i).group ≠ none →
       exec .waferEnd s = .next (s.granted i
         ((s.station i).replies rest ⟨r.tag, .refuse, some .groupOpen, none, none⟩))) ∧
     ((s.station i).binding ≠ none → (s.station i).group = none →
       exec .waferEnd s = .next (s.granted i
         { (s.station i).replies rest ⟨r.tag, .accept, none, none, none⟩ with
           binding := none, silenceEnds := true })))

/-- TD_OPEN (R63, R61) in RUNNING: the four checks in their order, and the group with the timeout and mode
of the station's timing class. -/
def Obligations.TdOpenOpensGroup : Prop :=
  ∀ (s : State) (i : StationId) (r : Frame) (rest : List Frame), s.Grants i r rest → r.kind = 0x43 →
    (s.station i).intake = .running →
    let refused (why : Reason) : Host.Outcome State Fault Refusal :=
      .next (s.granted i ((s.station i).replies rest ⟨r.tag, .refuse, some why, none, none⟩))
    ((s.station i).binding = none → exec .tdOpen s = refused .notBound) ∧
    ∀ b : Binding, (s.station i).binding = some b →
      (s.slotIs b.slot .closing = true → exec .tdOpen s = refused .waferClosing) ∧
      (s.slotIs b.slot .closing = false →
        ((s.station i).group ≠ none → exec .tdOpen s = refused .groupOpen) ∧
        ((s.station i).group = none → u16 r.payload 2 = 0 → exec .tdOpen s = refused .badField) ∧
        ((s.station i).group = none → u16 r.payload 2 ≠ 0 →
          exec .tdOpen s = .next (s.granted i
            { (s.station i).replies rest ⟨r.tag, .accept, none, none, none⟩ with
              group := some
                ⟨u16 r.payload 0, BitVec.ofNat 16 (u16 r.payload 2), [],
                  s.classes[(s.station i).timingClass].timeout,
                  s.classes[(s.station i).timingClass].mode⟩ })))

/-- An accepted TD_RESULTS (R65): its entries are checked one after another in record order, each against the
group as the entries before it have left it, and the ACCEPT lists those refused. One entry meets the eight
checks of Table 4.2 in their order (R66, R31, R32): steps 1 to 5 leave the state alone, step 6 reads the
cell once, and an entry that passes them all joins the end of the group's list. -/
def Obligations.TdResultsChecksEntries : Prop :=
  ((∀ (s : State) (i : StationId) (r : Frame) (rest : List Frame) (g : Group) (b : Binding),
     s.Grants i r rest → r.kind = 0x44 →
     ((s.station i).intake = .running ∨ (s.station i).intake = .stopping ∨
       (s.station i).intake = .halted) →
     (s.station i).group = some g → g.touchdown = u16 r.payload 0 → (s.station i).binding = some b →
     let s' := s.granted i { s.station i with staging := rest }
     let checked := s'.checkEntries i b (resultFields r.payload)
     exec (.tdResults []) s = .next
       { checked.1 with
         stations := checked.1.stations.set i
           { checked.1.station i with
             transmit := (checked.1.station i).transmit ++
               [.reply ⟨r.tag, .accept, none, some checked.2, none⟩] } }) ∧
   (∀ (s : State) (i : StationId) (b : Binding), s.checkEntries i b [] = (s, [])) ∧
   ∀ (s : State) (i : StationId) (b : Binding) (x : Result) (xs : List Result),
     (∀ t, s.checkEntry i b x = (t, none) →
       s.checkEntries i b (x :: xs) = t.checkEntries i b xs) ∧
     ∀ t why, s.checkEntry i b x = (t, some why) →
       s.checkEntries i b (x :: xs) =
         ((t.checkEntries i b xs).1, ⟨x.site, why⟩ :: (t.checkEntries i b xs).2)) ∧
  (∀ (s : State) (i : StationId) (b : Binding) (w : Wafer) (g : Group) (x : Result),
     s.slot b.slot = some w → (s.station i).group = some g →
     (¬(∃ k : SiteId, x.site = k.val ∧ g.active.getLsbD k.val = true) →
       s.checkEntry i b x = (s, some .badSite)) ∧
     ∀ k : SiteId, x.site = k.val → g.active.getLsbD k.val = true →
       ((∃ e ∈ g.entries, e.site = k) → s.checkEntry i b x = (s, some .duplicateSite)) ∧
       ((∀ e ∈ g.entries, e.site ≠ k) →
         (transform w b.q x.sx x.sy = .offMap → s.checkEntry i b x = (s, some .offMap)) ∧
         (transform w b.q x.sx x.sy = .offWafer → s.checkEntry i b x = (s, some .offWafer)) ∧
         ∀ c : Nat, transform w b.q x.sx x.sy = .cell c →
           ((∃ e ∈ g.entries, e.cell = c) → s.checkEntry i b x = (s, some .dieConflict)) ∧
           ((∀ e ∈ g.entries, e.cell ≠ c) →
             (¬(∃ a : Bin, x.bin = a.val ∧ (s.planOf w.lot).cls a ≠ .unused) →
               s.checkEntry i b x = (s, some .badBin)) ∧
             ∀ a : Bin, x.bin = a.val → (s.planOf w.lot).cls a ≠ .unused →
               let t := (s.readCell b.slot c).1
               let found := (s.readCell b.slot c).2
               (found = .damaged → s.checkEntry i b x = (t, some .cellDamaged)) ∧
               (∀ final first count site st, found = .tested final first count site st →
                 (s.planOf w.lot).isResult a = true →
                 ((s.planOf w.lot).limit ≤ count → s.checkEntry i b x = (t, some .retestLimit)) ∧
                 (count < (s.planOf w.lot).limit → (s.planOf w.lot).passLock = true →
                   (s.planOf w.lot).cls final = .pass →
                   s.checkEntry i b x = (t, some .passLocked)) ∧
                 (count < (s.planOf w.lot).limit →
                   (s.planOf w.lot).passLock = false ∨ (s.planOf w.lot).cls final ≠ .pass →
                   s.checkEntry i b x =
                     ({ t with
                         stations := t.stations.set i
                           { t.station i with
                             group := some { g with entries := g.entries ++ [⟨k, c, a⟩] } } },
                       none))) ∧
               (found = .untested ∨ (found ≠ .damaged ∧ (s.planOf w.lot).isResult a = false) →
                 s.checkEntry i b x =
                   ({ t with
                       stations := t.stations.set i
                         { t.station i with
                           group := some { g with entries := g.entries ++ [⟨k, c, a⟩] } } },
                     none)))))

/-- An accepted TD_CLOSE (R68): the commit, then the group's end, then the ACCEPT with the commit's refusals.
An accepted TD_ABORT (R71) on a slot that is not CLOSING discards the group: nothing changes but the station's
place, a STOPPING station's state, and the ACCEPT; on a CLOSING one the end of the group completes the close
(R22, R73), and the ACCEPT follows. -/
def Obligations.TdCloseAndAbortEndGroup : Prop :=
  (∀ (s : State) (i : StationId) (r : Frame) (rest : List Frame) (g : Group) (b : Binding),
     s.Grants i r rest → r.kind = 0x45 →
     ((s.station i).intake = .running ∨ (s.station i).intake = .stopping ∨
       (s.station i).intake = .halted) →
     (s.station i).group = some g → g.touchdown = u16 r.payload 0 → (s.station i).binding = some b →
     ∀ reads : List Nat,
     let s' := s.granted i { s.station i with staging := rest }
     let committed := s'.commit b.slot i g reads
     let t := committed.1.endGroup i
     exec (.tdClose reads []) s = .next
       { t with
         stations := t.stations.set i
           { t.station i with
             transmit := (t.station i).transmit ++
               [.reply ⟨r.tag, .accept, none, some committed.2, none⟩] } }) ∧
  (∀ (s : State) (i : StationId) (r : Frame) (rest : List Frame) (g : Group) (b : Binding),
     s.Grants i r rest → r.kind = 0x46 → (s.station i).group = some g →
     g.touchdown = u16 r.payload 0 → (s.station i).binding = some b →
     s.slotIs b.slot .closing = false →
     ((s.station i).intake = .running ∨ (s.station i).intake = .halted →
       exec .tdAbort s = .next (s.granted i
         { (s.station i).replies rest ⟨r.tag, .accept, none, none, none⟩ with group := none })) ∧
     ((s.station i).intake = .stopping →
       exec .tdAbort s = .next (s.granted i
         { (s.station i).replies rest ⟨r.tag, .accept, none, none, none⟩ with
           group := none, intake := .stopped, silenceEnds := true }))) ∧
  (∀ (s : State) (i : StationId) (r : Frame) (rest : List Frame) (g : Group) (b : Binding),
     s.Grants i r rest → r.kind = 0x46 →
     ((s.station i).intake = .running ∨ (s.station i).intake = .stopping ∨
       (s.station i).intake = .halted) →
     (s.station i).group = some g → g.touchdown = u16 r.payload 0 → (s.station i).binding = some b →
     s.slotIs b.slot .closing = true → s.boundStation b.slot = some i →
     let t := State.completeClose b.slot true
       (s.granted i
         { s.station i with
           staging := rest
           group := none
           intake := if (s.station i).intake = .stopping then .stopped else (s.station i).intake
           silenceEnds := true })
     exec .tdAbort s = .next
       { t with
         stations := t.stations.set i
           { t.station i with
             transmit := (t.station i).transmit ++ [.reply ⟨r.tag, .accept, none, none, none⟩] } })

/-! ## The commit, the end of a group, and the close of a wafer -/

/-- One item of a commit (Table 6.3, R86 to R92): a first result, a retest, an entry whose cell is DAMAGED, an
entry of class VOID, and a missing site, over a clean word. With an error in the word (R97, R98, R100) the
item is that of the state after the read, in which the word is clean and holds the corrected record, or a
DAMAGED one, with which the entry is refused. The final bin of a retest (R89, Table 5.3) is the new bin under
LATEST, and under BEST where its rank is at least as good. -/
def Obligations.CommitItemEffects : Prop :=
  (∀ (s : State) (n : SlotId) (st : StationId) (p : Plan) (w : Wafer) (e : Entry), s.slot n = some w →
     let voided (i : SiteId) : State :=
       { s with
         slots := s.slots.set n (some
           { w with
             acc := { w.acc with
               sites := w.acc.sites.set i
                 { w.acc.sites[i] with voids := min topCount (w.acc.sites[i].voids + 1) } } })
         stations := s.stations.set st
           { s.station st with
             consecVoid := (s.station st).consecVoid.set i (min 255 ((s.station st).consecVoid[i] + 1)) } }
     let pass : Bool := decide (p.cls e.bin = .pass)
     let applied (c : CellRecord) (tested passed : Nat) (hist : Vector Nat 64) : State :=
       { s with
         mem := s.mem.write (cellAddress n e.cell) ⟨c, .clean⟩
         slots := s.slots.set n (some
           { w with
             acc := { w.acc with
               tested := tested
               passed := passed
               hist := hist
               sites := w.acc.sites.set e.site
                 { w.acc.sites[e.site] with
                   tests := min topCount (w.acc.sites[e.site].tests + 1)
                   passes := if pass then min topCount (w.acc.sites[e.site].passes + 1)
                     else w.acc.sites[e.site].passes } } })
         stations := s.stations.set st
           { s.station st with
             consecFail := (s.station st).consecFail.set e.site
               (if pass then 0 else min 255 ((s.station st).consecFail[e.site] + 1))
             consecVoid := (s.station st).consecVoid.set e.site 0 } }
     (∀ k : SiteId, w.acc.sites[k].tests ≤ topCount ∧ w.acc.sites[k].passes ≤ topCount ∧
       w.acc.sites[k].voids ≤ topCount) →
     (∀ k : SiteId, (s.station st).consecFail[k] ≤ 255 ∧ (s.station st).consecVoid[k] ≤ 255) →
     (∀ i : SiteId, State.commitItem n st p (.missing i) s = (voided i, [])) ∧
     (p.cls e.bin = .void → State.commitItem n st p (.entry e) s = (voided e.site, [])) ∧
     ((p.cls e.bin = .pass ∨ p.cls e.bin = .fail) → (s.cellWord n e.cell).health = .clean →
       (s.cellRecord n e.cell = .damaged →
         State.commitItem n st p (.entry e) s = (voided e.site, [⟨e.site.val, .cellDamaged⟩])) ∧
       (s.cellRecord n e.cell = .untested →
         State.commitItem n st p (.entry e) s =
           (applied (.tested e.bin e.bin 1 e.site st) (w.acc.tested + 1)
             (w.acc.passed + if pass then 1 else 0)
             (w.acc.hist.set e.bin (w.acc.hist[e.bin] + 1)), [])) ∧
       ∀ (a first : Bin) (count : Nat) (i : SiteId) (x : StationId),
         s.cellRecord n e.cell = .tested a first count i x →
         (p.finalBin a e.bin = a →
           State.commitItem n st p (.entry e) s =
             (applied (.tested a first (count + 1) e.site st) w.acc.tested w.acc.passed w.acc.hist, [])) ∧
         (p.finalBin a e.bin ≠ a → (p.cls a = .pass ∨ p.cls a = .fail) →
           State.commitItem n st p (.entry e) s =
             (applied (.tested e.bin first (count + 1) e.site st) w.acc.tested
               (if p.cls a = p.cls e.bin then w.acc.passed
                 else if p.cls a = .pass then w.acc.passed - 1 else w.acc.passed + 1)
               ((w.acc.hist.set a (w.acc.hist[a] - 1)).set e.bin (w.acc.hist[e.bin] + 1)), [])))) ∧
  (∀ (s : State) (n : SlotId) (st : StationId) (p : Plan) (e : Entry),
     (p.cls e.bin = .pass ∨ p.cls e.bin = .fail) →
     let got := s.readCell n e.cell
     State.commitItem n st p (.entry e) s = State.commitItem n st p (.entry e) got.1 ∧
     got.1.cellWord n e.cell = ⟨got.2, .clean⟩ ∧
     ((s.cellWord n e.cell).health = .correctable → got.2 = s.cellRecord n e.cell) ∧
     ((s.cellWord n e.cell).health = .uncorrectable →
       got.2 = .damaged ∧
       (State.commitItem n st p (.entry e) s).2 = [⟨e.site.val, .cellDamaged⟩])) ∧
  (∀ (p : Plan) (a b : Bin),
     (p.policy = .latest → p.finalBin a b = b) ∧
     (p.policy = .best → p.bins[b].rank ≤ p.bins[a].rank → p.finalBin a b = b) ∧
     (p.policy = .best → p.bins[a].rank < p.bins[b].rank → p.finalBin a b = a) ∧
     p.finalBin a a = a)

/-- The items of a commit (R69, R109, R111): the entries in ascending site order, then the missing sites in
ascending order, and exactly one item for each site of the active set. A commit without a CELL_READ in
flight adds them one after another under the plan of the slot's lot, with the refusals in their order, and
then evaluates the rules. With one in flight (R70, R105), the CELL_READ may read some of its cells before each
item, one at a time, each as the commit has left it (the numbers are operands, log 6). -/
def Obligations.CommitRunsItemsThenRules : Prop :=
  (∀ g : Group, g.Lawful →
     ∃ (entries : List Entry) (missing : List SiteId),
       g.items = entries.map Item.entry ++ missing.map Item.missing ∧
       entries.Perm g.entries ∧ (entries.map Entry.site).Pairwise (· < ·) ∧ missing.Pairwise (· < ·) ∧
       ∀ i : SiteId, g.active.getLsbD i.val = true ↔
         (i ∈ entries.map Entry.site ∧ i ∉ missing) ∨ (i ∉ entries.map Entry.site ∧ i ∈ missing)) ∧
  (∀ (s : State) (n : SlotId) (st : StationId) (g : Group) (w : Wafer) (reads : List Nat),
     s.slot n = some w → s.reading = false →
     s.commit n st g reads =
       let done := g.items.foldl
         (fun (a : State × List Refused) x =>
           ((State.commitItem n st (s.planOf w.lot) x a.1).1,
             a.2 ++ (State.commitItem n st (s.planOf w.lot) x a.1).2))
         (s, [])
       (done.1.evalCommit n st, done.2)) ∧
  ((∀ (s : State) (n : SlotId) (st : StationId) (g : Group) (w : Wafer) (reads : List Nat),
     s.slot n = some w →
     let done := State.commitItems n st (s.planOf w.lot) g.items reads s
     s.commit n st g reads = (done.1.evalCommit n st, done.2)) ∧
   (∀ (s : State) (n : SlotId) (st : StationId) (p : Plan) (x : Item) (xs : List Item)
     (reads : List Nat),
     let done := State.commitItem n st p x (State.readAhead (reads.headD 0) s)
     let later := State.commitItems n st p xs reads.tail done.1
     State.commitItems n st p [] reads s = (s, []) ∧
     State.commitItems n st p (x :: xs) reads s = (later.1, done.2 ++ later.2)) ∧
   ∀ (s : State) (k : Nat),
     State.readAhead 0 s = s ∧ (s.reading = false → State.readAhead k s = s) ∧
     ∀ (tag : Byte) (n : SlotId) (row first base count : Nat) (cells : List CellRecord),
       s.inProgress = some (.reading tag n row first base count cells) →
       (count ≤ cells.length → State.readAhead k s = s) ∧
       (cells.length < count →
         let got := s.readCell n (base + cells.length)
         State.readAhead (k + 1) s = State.readAhead k
           { got.1 with
             inProgress := some (.reading tag n row first base count (cells ++ [got.2])) }))

/-- The end of a group (R73): the place becomes empty, a CLOSING slot completes its close, and a STOPPING
station becomes STOPPED. Close completion (R21, R6, R7): the binding is dropped, the closing totals are
recorded and added to the lot with the wafer's number, the slot becomes CLOSED, WAFER_CLOSED is added where
the close was deferred, and the lot's active slot count falls by 1, closing a CLOSING lot whose count comes to
0. A station that becomes STOPPED or unbound so has its silence counter left to be set to 0 at the next tick
(R57). -/
def Obligations.GroupEndAndCloseCompletion : Prop :=
  (∀ (s : State) (i : StationId) (b : Binding), (s.station i).binding = some b →
     (s.slotIs b.slot .closing = false →
       s.endGroup i = { s with
         stations := s.stations.set i
           { s.station i with
             group := none
             intake := if (s.station i).intake = .stopping then .stopped else (s.station i).intake
             silenceEnds := (s.station i).silenceEnds || decide ((s.station i).intake = .stopping) } }) ∧
     (s.slotIs b.slot .closing = true → s.boundStation b.slot = some i →
       s.endGroup i =
         State.completeClose b.slot true
           { s with
             stations := s.stations.set i
               { s.station i with
                 group := none
                 intake :=
                   if (s.station i).intake = .stopping then .stopped else (s.station i).intake
                 silenceEnds := true } })) ∧
  (∀ (s : State) (n : SlotId) (deferred : Bool) (w : Wafer) (e : Fin 16) (l : Lot),
     s.slot n = some w → s.findLot w.lot = some e → s.lots[e] = some l → 1 ≤ l.active →
     (∀ i j : StationId, (s.station i).binding.map Binding.slot = some n →
       (s.station j).binding.map Binding.slot = some n → i = j) →
     let last : Bool := decide (l.state = .closing ∧ l.active = 1)
     let changed : State :=
       { s with
         stations := Vector.ofFn fun i =>
           if (s.station i).binding.map Binding.slot = some n then
             { s.station i with binding := none, silenceEnds := true }
           else s.station i
         slots := s.slots.set n (some
           { w with
             state := .closed
             closing := some ⟨w.acc.tested, w.acc.passed, w.gross, w.acc.hist⟩ })
         lots := s.lots.set e (some
           { l with
             state := if last then .closed else l.state
             active := l.active - 1
             closedList := insertNumber w.number l.closedList
             totals :=
               ⟨l.totals.tested + w.acc.tested, l.totals.passed + w.acc.passed, l.totals.gross + w.gross,
                 Vector.ofFn fun b => l.totals.hist[b] + w.acc.hist[b]⟩ }) }
     let reported : State := if deferred then changed.addCause .waferClosed else changed
     s.completeClose n deferred = if last then reported.addCause .lotClosed else reported)

/-- TIMER_TICK (R57, R64, R142): every silence counter and every group's timer, then the LINK_SILENT rules for
each station in ascending order; with no enabled LINK_SILENT rule nothing else. A counter that a WAFER_END, a
close, a STOP or a fault left to be set to 0 at this tick is set to 0, also where the station is bound and
RUNNING again (the model's reading of R57, log 22). -/
def Obligations.TickCountsSilenceAndTimers : Prop :=
  ∀ s : State, s.rst = false →
    let ticked : State :=
      { s with
        stations := Vector.ofFn fun i =>
          { s.station i with
            silence :=
              if (s.station i).binding ≠ none ∧ ((s.station i).intake = .running ∨
                  (s.station i).intake = .stopping ∨ (s.station i).intake = .halted) ∧
                  (s.station i).silenceEnds = false then
                if (s.station i).silence < 65535 then (s.station i).silence + 1 else (s.station i).silence
              else 0
            silenceEnds := false
            group := (s.station i).group.map fun g => { g with timer := g.timer - 1 } } }
    exec .timerTick s = .next ((List.finRange 8).foldl State.evalSilence ticked) ∧
    ((∀ k : Fin 16, s.rules[k].enabled = false ∨ s.rules[k].kind ≠ .linkSilent) →
      exec .timerTick s = .next ticked)

/-- GROUP_EXPIRY (R72, R112): of the groups whose timer has come to 0, that of the lowest station is taken;
the timeout count rises, in COMMIT mode the group is committed, the GROUP_TIMEOUTS rules are evaluated, and
the group ends. No REPLY is made. R72 orders the expiries of one tick so; that the lowest station goes first
where the expiries fell due at different ticks too is the model's choice (log 25). -/
def Obligations.ExpiryTakesLowestStation : Prop :=
  ∀ (s : State) (i : StationId) (b : Binding) (g : Group) (w : Wafer) (reads : List Nat),
    s.rst = false → (s.station i).group = some g → g.timer = 0 → (s.station i).binding = some b →
    (∀ j : StationId, j < i → (s.station j).group.map Group.timer ≠ some 0) → s.slot b.slot = some w →
    let counted : State :=
      { s with
        slots := s.slots.set b.slot (some
          { w with
            acc := { w.acc with
              timeouts := if w.acc.timeouts < 65535 then w.acc.timeouts + 1 else w.acc.timeouts } }) }
    (g.mode = .discard →
      exec (.groupExpiry reads []) s = .next ((counted.evalTimeouts b.slot i).endGroup i)) ∧
    (g.mode = .commit →
      exec (.groupExpiry reads []) s =
        .next (((counted.commit b.slot i g reads).1.evalTimeouts b.slot i).endGroup i))

/-! ## The Excursion Monitor -/

/-- The conditions of Table 7.2 (R123, R124, R131, R137, R138, R139, R141, R142), over the counts. -/
def Obligations.RuleConditionsFollowTable : Prop :=
  ∀ (r : Rule) (a : Acc),
    ((r.yieldFloor a).holds = true ↔
      0 < a.tested ∧ r.minSample ≤ a.tested ∧
        (20000 * a.passed + a.tested) / (2 * a.tested) < r.threshold) ∧
    (0 < a.tested → (r.yieldFloor a).observed = (20000 * a.passed + a.tested) / (2 * a.tested)) ∧
    ((r.binCeiling a).holds = true ↔
      0 < a.tested ∧ r.minSample ≤ a.tested ∧ r.threshold < a.hist[r.bin] * 1000000 / a.tested) ∧
    (0 < a.tested → (r.binCeiling a).observed = a.hist[r.bin] * 1000000 / a.tested) ∧
    (∀ i : SiteId,
      ((r.siteSkew a i).holds = true ↔
        0 < a.tested ∧ 0 < a.sites[i].tests ∧ r.minSample ≤ a.tested ∧ r.minSample ≤ a.sites[i].tests ∧
          (20000 * a.sites[i].passes + a.sites[i].tests) / (2 * a.sites[i].tests) + r.threshold <
            (20000 * a.passed + a.tested) / (2 * a.tested)) ∧
      (0 < a.tested → 0 < a.sites[i].tests →
        (r.siteSkew a i).observed =
          (20000 * a.sites[i].passes + a.sites[i].tests) / (2 * a.sites[i].tests))) ∧
    ((r.groupTimeouts a).holds = true ↔ r.threshold ≤ a.timeouts) ∧
    (r.groupTimeouts a).observed = a.timeouts ∧
    ∀ n : Nat, ((r.consec n).holds = true ↔ r.threshold ≤ n) ∧ (r.consec n).observed = n ∧
      ((r.linkSilent n).holds = true ↔ r.threshold * 10 ≤ n) ∧ (r.linkSilent n).observed = n

/-- Table 7.4 (R135): an ARMED watch whose condition holds becomes TRIPPED and records one alarm; a TRIPPED
one whose condition holds records nothing, and one whose condition does not hold becomes ARMED. Which watches
a commit evaluates (R136): a rule that is disabled, of another station's scope, or of kind GROUP_TIMEOUTS or
LINK_SILENT is passed over; YIELD_FLOOR and BIN_CEILING take one watch of the slot, SITE_SKEW 16, CONSEC_FAIL
and CONSEC_VOID 16 of the station, site 0 first; the rules go in ascending number. So do an expiry's
GROUP_TIMEOUTS rules for its slot (R139) and a tick's LINK_SILENT rules for a station (R142); each takes one
watch and gives its alarm. -/
def Obligations.EvaluationTripsInRuleOrder : Prop :=
  (∀ (s : State) (w : Watch) (f : Finding) (a : Alarm),
     (w ∉ s.tripped → f.holds = true →
       s.judge w f a = State.record a { s with tripped := w :: s.tripped }) ∧
     (w ∉ s.tripped → f.holds = false → s.judge w f a = s) ∧
     (w ∈ s.tripped → f.holds = true → s.judge w f a = s) ∧
     (w ∈ s.tripped → f.holds = false →
       s.judge w f a = { s with tripped := s.tripped.filter fun x => decide (x ≠ w) })) ∧
  (∀ (s : State) (n : SlotId) (st : StationId) (k : Fin 16),
     s.evalCommit n st = (List.finRange 16).foldl (State.commitRule n st) s ∧
     (s.rules[k].enabled = false ∨ (s.rules[k].scope ≠ none ∧ s.rules[k].scope ≠ some st) ∨
         s.rules[k].kind = .groupTimeouts ∨ s.rules[k].kind = .linkSilent →
       State.commitRule n st s k = s) ∧
     (s.rules[k].enabled = true → s.rules[k].scope = none ∨ s.rules[k].scope = some st →
       ∀ w : Wafer, s.slot n = some w →
       (s.rules[k].kind = .yieldFloor →
         State.commitRule n st s k =
           s.judge (.slot k n) (s.rules[k].yieldFloor w.acc)
             ⟨k, .yieldFloor, s.rules[k].level, s.rules[k].action, some n, st, none,
               (s.rules[k].yieldFloor w.acc).observed, s.rules[k].threshold, 1, .pending⟩) ∧
       (s.rules[k].kind = .binCeiling →
         State.commitRule n st s k =
           s.judge (.slot k n) (s.rules[k].binCeiling w.acc)
             ⟨k, .binCeiling, s.rules[k].level, s.rules[k].action, some n, st, none,
               (s.rules[k].binCeiling w.acc).observed, s.rules[k].threshold, 1, .pending⟩) ∧
       (s.rules[k].kind = .siteSkew →
         State.commitRule n st s k =
           (List.finRange 16).foldl
             (fun t i => t.judge (.slotSite k n i) (s.rules[k].siteSkew w.acc i)
               ⟨k, .siteSkew, s.rules[k].level, s.rules[k].action, some n, st, some i,
                 (s.rules[k].siteSkew w.acc i).observed, s.rules[k].threshold, 1, .pending⟩) s) ∧
       (s.rules[k].kind = .consecFail →
         State.commitRule n st s k =
           (List.finRange 16).foldl
             (fun t i => t.judge (.probe k st i) (s.rules[k].consec (s.station st).consecFail[i])
               ⟨k, .consecFail, s.rules[k].level, s.rules[k].action, none, st, some i,
                 (s.station st).consecFail[i], s.rules[k].threshold, 1, .pending⟩) s) ∧
       (s.rules[k].kind = .consecVoid →
         State.commitRule n st s k =
           (List.finRange 16).foldl
             (fun t i => t.judge (.probe k st i) (s.rules[k].consec (s.station st).consecVoid[i])
               ⟨k, .consecVoid, s.rules[k].level, s.rules[k].action, none, st, some i,
                 (s.station st).consecVoid[i], s.rules[k].threshold, 1, .pending⟩) s))) ∧
  (∀ (s : State) (n : SlotId) (st : StationId) (k : Fin 16),
     s.evalTimeouts n st = (List.finRange 16).foldl (State.timeoutRule n st) s ∧
     s.evalSilence st = (List.finRange 16).foldl (State.silenceRule st) s ∧
     (s.rules[k].enabled = false ∨ (s.rules[k].scope ≠ none ∧ s.rules[k].scope ≠ some st) →
       State.timeoutRule n st s k = s ∧ State.silenceRule st s k = s) ∧
     (s.rules[k].kind ≠ .groupTimeouts → State.timeoutRule n st s k = s) ∧
     (s.rules[k].kind ≠ .linkSilent → State.silenceRule st s k = s) ∧
     (s.rules[k].enabled = true → s.rules[k].scope = none ∨ s.rules[k].scope = some st →
       (∀ w : Wafer, s.slot n = some w → s.rules[k].kind = .groupTimeouts →
         State.timeoutRule n st s k =
           s.judge (.slot k n) (s.rules[k].groupTimeouts w.acc)
             ⟨k, .groupTimeouts, s.rules[k].level, s.rules[k].action, some n, st, none, w.acc.timeouts,
               s.rules[k].threshold, 1, .pending⟩) ∧
       (s.rules[k].kind = .linkSilent →
         State.silenceRule st s k =
           s.judge (.link k st) (s.rules[k].linkSilent (s.station st).silence)
             ⟨k, .linkSilent, s.rules[k].level, s.rules[k].action, none, st, none,
               (s.station st).silence, s.rules[k].threshold, 1, .pending⟩)))

/-- The recording of an alarm (R144 to R148): it is stored, its entry is taken to the raise, and then its
action is carried out. Where it is stored (R144, R145, R146): repeated into its entry; appended while there is
room; in place of the oldest ACKED entry; in place of the least urgent entry, with OVERFLOW; or not at all,
with OVERFLOW. Its raise and hold (R147, R148, R47): a PENDING entry more urgent than CAL becomes RAISED, CAL
takes its level and ALARM is added; any other entry is left; a HOLD halts the station it names where that is
RUNNING. -/
def Obligations.AlarmIsStoredRaisedAndActedOn : Prop :=
  (∀ (s : State) (a : Alarm) (es : List Alarm) (o : Bool),
     (∀ k : Nat, storeAlarm a s.alarms s.overflow = (es, o, some k) →
       s.record a = State.act a (State.raise k { s with alarms := es, overflow := o })) ∧
     (storeAlarm a s.alarms s.overflow = (es, o, none) →
       s.record a = State.act a { s with alarms := es, overflow := o })) ∧
  (∀ (a : Alarm) (es : List Alarm) (o : Bool),
     (∀ (before after : List Alarm) (e : Alarm), es = before ++ e :: after →
       (∀ x ∈ before, a.repeatsInto x = false) → a.repeatsInto e = true →
       storeAlarm a es o =
         (before ++ { e with repeats := if e.repeats < 255 then e.repeats + 1 else e.repeats
                             observed := a.observed } :: after, o, some before.length)) ∧
     ((∀ x ∈ es, a.repeatsInto x = false) →
       (es.length < 32 → storeAlarm a es o = (es ++ [a], o, some es.length)) ∧
       (32 ≤ es.length →
         (∀ (before after : List Alarm) (e : Alarm), es = before ++ e :: after →
           (∀ x ∈ before, x.state ≠ .acked) → e.state = .acked →
           storeAlarm a es o = (before ++ after ++ [a], o, some (before.length + after.length))) ∧
         ((∀ x ∈ es, x.state ≠ .acked) →
           ∀ (before after : List Alarm) (e : Alarm), es = before ++ e :: after →
             (∀ x ∈ before, x.level < e.level) → (∀ x ∈ after, x.level ≤ e.level) →
             (a.level < e.level →
               storeAlarm a es o = (before ++ after ++ [a], true, some (before.length + after.length))) ∧
             (e.level ≤ a.level → storeAlarm a es o = (es, true, none)))))) ∧
  ((∀ (s : State) (before after : List Alarm) (e : Alarm), s.alarms = before ++ e :: after →
     (e.state = .pending → e.level.val < s.cal →
       s.raise before.length =
         State.addCause .alarm
           { s with alarms := before ++ { e with state := .raised } :: after, cal := e.level.val }) ∧
     (e.state ≠ .pending ∨ s.cal ≤ e.level.val → s.raise before.length = s)) ∧
   ∀ (s : State) (a : Alarm),
     (a.action = .note → s.act a = s) ∧
     (a.action = .hold → ∀ i : StationId,
       (a.slot = none ∧ a.station = i) ∨ (∃ n, a.slot = some n ∧ s.boundStation n = some i) →
       ((s.station i).intake = .running →
         s.act a = { s with
           stations := s.stations.set i
             { s.station i with
               intake := .halted
               transmit :=
                 if (s.station i).transmit.length < 15 then
                   (s.station i).transmit ++ [.halt a.rule a.level]
                 else (s.station i).transmit } }) ∧
       ((s.station i).intake ≠ .running → s.act a = s)) ∧
     (∀ n : SlotId, a.slot = some n → s.boundStation n = none → s.act a = s))

/-- RULE_SET (R132, R134): the fields are clamped by the kind, the rule takes them together, and every watch
of the rule becomes ARMED. A threshold and a min sample are sent in 4 bytes each (log 8). -/
def Obligations.RuleSetClampsAndArms : Prop :=
  ∀ (s : State) (r : Frame) (rest : List Frame), s.Offers r rest → r.kind = 0x15 →
    (∀ (k : Fin 16) (enabled : Bool) (kind : RuleKind) (scope : Option StationId) (level : Fin 8)
      (action : RuleAction),
      u8 r.payload 0 = k.val → boolOfCode (u8 r.payload 1) = some enabled →
      RuleKind.ofCode (u8 r.payload 2) = some kind → scopeOfCode (u8 r.payload 3) = some scope →
      u8 r.payload 13 = level.val → RuleAction.ofCode (u8 r.payload 14) = some action →
      (kind = .binCeiling → u8 r.payload 4 ≤ 63) →
      ∃ x : Rule,
        exec .ruleSet s = .next
          { s with
            requests := rest
            rules := s.rules.set k x
            tripped := s.tripped.filter fun w => !Watch.ofRule k w
            ready := s.ready ++
              [answerTo r .ok
                ([if enabled then 1 else 0, kind.code, scopeCode scope, byte x.bin.val] ++
                  be32 x.threshold ++ be32 x.minSample ++ [byte level.val, action.code])] } ∧
        x.enabled = enabled ∧ x.kind = kind ∧ x.scope = scope ∧ x.level = level ∧ x.action = action ∧
        x.bin.val = (if kind = .binCeiling then u8 r.payload 4 else 0) ∧
        x.threshold =
          (match kind with
            | .yieldFloor | .siteSkew => min 10000 (u32 r.payload 5)
            | .binCeiling => min 1000000 (u32 r.payload 5)
            | .groupTimeouts => max 1 (min 65535 (u32 r.payload 5))
            | .consecFail | .consecVoid | .linkSilent => max 1 (min 255 (u32 r.payload 5))) ∧
        x.minSample =
          (match kind with
            | .yieldFloor | .siteSkew | .binCeiling => max 1 (min 65535 (u32 r.payload 9))
            | .groupTimeouts | .consecFail | .consecVoid | .linkSilent => 1)) ∧
    (15 < u8 r.payload 0 ∨ 1 < u8 r.payload 1 ∨ 6 < u8 r.payload 2 ∨
        (7 < u8 r.payload 3 ∧ u8 r.payload 3 ≠ 255) ∨ 7 < u8 r.payload 13 ∨ 1 < u8 r.payload 14 ∨
        (u8 r.payload 2 = 1 ∧ 63 < u8 r.payload 4) →
      exec .ruleSet s =
        .next { s with requests := rest, ready := s.ready ++ [answerTo r .badField []] })

/-- ALARM_LIST (R151): the list's length, CAL, OVERFLOW, and the entries of the range, each with its index and
its fields. ALARM_CLEAR (R150): every ACKED entry is removed and OVERFLOW is CLEAR; its reply's byte (the
number left) is the model's reading of R187 (log 8). -/
def Obligations.AlarmListAndClear : Prop :=
  (∀ (s : State) (r : Frame) (rest : List Frame), s.Offers r rest → r.kind = 0x17 →
     (u8 r.payload 0 ≤ 31 → 1 ≤ u8 r.payload 1 → u8 r.payload 1 ≤ 32 →
       exec .alarmList s = .next
         { s with
           requests := rest
           ready := s.ready ++
             [answerTo r .ok
               ([byte s.alarms.length, byte s.cal, if s.overflow then 1 else 0,
                 byte ((s.alarms.drop (u8 r.payload 0)).take (u8 r.payload 1)).length] ++
                 (((s.alarms.drop (u8 r.payload 0)).take (u8 r.payload 1)).zipIdx
                   (u8 r.payload 0)).flatMap fun x =>
                   [byte x.2, byte x.1.rule.val, x.1.kind.code, byte x.1.level.val, x.1.action.code,
                     optByte (x.1.slot.map Fin.val), byte x.1.station.val,
                     optByte (x.1.site.map Fin.val)] ++
                   be32 x.1.observed ++ be32 x.1.threshold ++ [byte x.1.repeats, x.1.state.code])] }) ∧
     (31 < u8 r.payload 0 ∨ u8 r.payload 1 = 0 ∨ 32 < u8 r.payload 1 →
       exec .alarmList s =
         .next { s with requests := rest, ready := s.ready ++ [answerTo r .badField []] })) ∧
  (∀ (s : State) (r : Frame) (rest : List Frame), s.Offers r rest → r.kind = 0x19 →
     exec .alarmClear s = .next
       { s with
         requests := rest
         alarms := s.alarms.filter fun e => decide (e.state ≠ .acked)
         overflow := false
         ready := s.ready ++
           [answerTo r .ok [byte (s.alarms.filter fun e => decide (e.state ≠ .acked)).length]] })

/-- ALARM_ACK (R149): every RAISED entry becomes ACKED, CAL takes the level, and of the PENDING entries below
it the most urgent, the oldest of those, is raised with CAL at its level and ALARM added. The reply's bytes
(CAL alone) are the model's reading of R187 (log 8). -/
def Obligations.AlarmAckRaisesMostUrgent : Prop :=
  ∀ (s : State) (r : Frame) (rest : List Frame), s.Offers r rest → r.kind = 0x18 →
    let acked : List Alarm := s.alarms.map fun e =>
      if e.state = .raised then { e with state := .acked } else e
    let level : Nat := min 8 (u8 r.payload 0)
    ((∀ e ∈ acked, e.state = .pending → level ≤ e.level.val) →
      exec .alarmAck s = .next
        { s with
          requests := rest
          alarms := acked
          cal := level
          ready := s.ready ++ [answerTo r .ok [byte level]] }) ∧
    ∀ (before after : List Alarm) (e : Alarm), acked = before ++ e :: after → e.state = .pending →
      e.level.val < level → (∀ x ∈ before, x.state = .pending → e.level < x.level) →
      (∀ x ∈ after, x.state = .pending → e.level ≤ x.level) →
      exec .alarmAck s = .next
        ((State.addCause .alarm
          { s with
            requests := rest
            alarms := before ++ { e with state := .raised } :: after
            cal := e.level.val }).makeReady (answerTo r .ok [byte e.level.val]))

/-! ## Plans and lots -/

/-- PLAN_LOAD (R12): the four fields are replaced together, clamped, unless a lot names the plan. -/
def Obligations.PlanLoadReplacesUnusedPlan : Prop :=
  ∀ (s : State) (r : Frame) (rest : List Frame), s.Offers r rest → r.kind = 0x08 →
    (∀ (k : Fin 4) (policy : Policy) (lock : Bool) (classes : Bin → BinClass), u8 r.payload 0 = k.val →
      Policy.ofCode (u8 r.payload 1) = some policy → boolOfCode (u8 r.payload 3) = some lock →
      (∀ b : Bin, BinClass.ofCode (u8 r.payload (4 + 2 * b.val)) = some (classes b)) →
      ((∀ (e : Fin 16) (l : Lot), s.lots[e] = some l → l.plan ≠ k) →
        exec .planLoad s = .next
          { s with
            requests := rest
            plans := s.plans.set k
              { policy := policy
                limit := max 1 (min 15 (u8 r.payload 2))
                passLock := lock
                bins := Vector.ofFn fun b =>
                  ⟨classes b, min 63 (u8 r.payload (5 + 2 * b.val))⟩ }
            ready := s.ready ++ [answerTo r .ok []] }) ∧
      ∀ (e : Fin 16) (l : Lot), s.lots[e] = some l → l.plan = k →
        exec .planLoad s =
          .next { s with requests := rest, ready := s.ready ++ [answerTo r .inUse []] }) ∧
    (3 < u8 r.payload 0 ∨ 1 < u8 r.payload 1 ∨ 1 < u8 r.payload 3 ∨
        (∃ b : Bin, 3 < u8 r.payload (4 + 2 * b.val)) →
      exec .planLoad s =
        .next { s with requests := rest, ready := s.ready ++ [answerTo r .badField []] })

/-- PLAN_READ (R13) and RULE_READ (R133) report every field as held and change nothing else. The bytes of
RULE_READ (the order of Table 7.1, the threshold and the min sample in 4 bytes each) are the model's reading
of R187 (log 8). -/
def Obligations.PlanAndRuleAreReadBack : Prop :=
  (∀ (s : State) (r : Frame) (rest : List Frame), s.Offers r rest → r.kind = 0x09 →
     (∀ k : Fin 4, u8 r.payload 0 = k.val →
       exec .planRead s = .next
         { s with
           requests := rest
           ready := s.ready ++
             [answerTo r .ok
               ([s.plans[k].policy.code, byte s.plans[k].limit,
                 if s.plans[k].passLock then 1 else 0] ++
                 (List.finRange 64).flatMap fun b =>
                   [s.plans[k].bins[b].cls.code, byte s.plans[k].bins[b].rank])] }) ∧
     (3 < u8 r.payload 0 →
       exec .planRead s =
         .next { s with requests := rest, ready := s.ready ++ [answerTo r .badField []] })) ∧
  (∀ (s : State) (r : Frame) (rest : List Frame), s.Offers r rest → r.kind = 0x16 →
     (∀ k : Fin 16, u8 r.payload 0 = k.val →
       exec .ruleRead s = .next
         { s with
           requests := rest
           ready := s.ready ++
             [answerTo r .ok
               ([if s.rules[k].enabled then 1 else 0, s.rules[k].kind.code, scopeCode s.rules[k].scope,
                 byte s.rules[k].bin.val] ++ be32 s.rules[k].threshold ++ be32 s.rules[k].minSample ++
                 [byte s.rules[k].level.val, s.rules[k].action.code])] }) ∧
     (15 < u8 r.payload 0 →
       exec .ruleRead s =
         .next { s with requests := rest, ready := s.ready ++ [answerTo r .badField []] }))

/-- LOT_OPEN (R3): its checks in their order, and the lowest-numbered free entry. The reply's bytes
(the entry number) are the model's reading of R187 (log 8). -/
def Obligations.LotOpenTakesLowestFreeEntry : Prop :=
  ∀ (s : State) (r : Frame) (rest : List Frame), s.Offers r rest → r.kind = 0x0A →
    (lotIdField r.payload 0 = none ∨ 3 < u8 r.payload 13 ∨ u8 r.payload 14 = 0 ∨
        50 < u8 r.payload 14 →
      exec .lotOpen s =
        .next { s with requests := rest, ready := s.ready ++ [answerTo r .badField []] }) ∧
    ∀ (id : LotId) (k : Fin 4), lotIdField r.payload 0 = some id → u8 r.payload 13 = k.val →
      1 ≤ u8 r.payload 14 → u8 r.payload 14 ≤ 50 →
      (∀ (e : Fin 16) (l : Lot), s.lots[e] = some l → l.id = id →
        exec .lotOpen s =
          .next { s with requests := rest, ready := s.ready ++ [answerTo r .exists []] }) ∧
      ((∀ (e : Fin 16) (l : Lot), s.lots[e] = some l → l.id ≠ id) →
        ((∀ e : Fin 16, s.lots[e] ≠ none) →
          exec .lotOpen s =
            .next { s with requests := rest, ready := s.ready ++ [answerTo r .noSpace []] }) ∧
        ∀ e : Fin 16, s.lots[e] = none → (∀ f : Fin 16, f < e → s.lots[f] ≠ none) →
          exec .lotOpen s = .next
            { s with
              requests := rest
              lots := s.lots.set e (some
                { id := id
                  plan := k
                  state := .opened
                  expected := u8 r.payload 14
                  closedList := []
                  totals := ⟨0, 0, 0, Vector.replicate 64 0⟩
                  active := 0 })
              ready := s.ready ++ [answerTo r .ok [byte e.val]] })

/-- The requests that name a lot by its id alone: a malformed id gives BAD_FIELD and an unknown one NOT_FOUND
(R2, R5, R8, R9, R125); LOT_CLOSE by the lot's state (the table of R5); LOT_RELEASE (R8) of a CLOSED lot that
no slot belongs to; and LOT_QUERY (R9), which reports the entry number and every field of Table 1.1, in its
order, the closed list counted in one byte (log 8). -/
def Obligations.LotRequestsFollowLotState : Prop :=
  (∀ (s : State) (r : Frame) (rest : List Frame), s.Offers r rest →
     ∀ x ∈ [(Instr.lotClose, (0x0B : Byte), 0), (.lotRelease, 0x0C, 0), (.lotQuery, 0x0D, 0),
         (.waferOpen, 0x0E, 0), (.yieldQueryLot, 0x14, 1)],
       r.kind = x.2.1 → (r.kind = 0x14 → u8 r.payload 0 = 1) →
       (lotIdField r.payload x.2.2 = none →
         exec x.1 s =
           .next { s with requests := rest, ready := s.ready ++ [answerTo r .badField []] }) ∧
       ∀ id : LotId, lotIdField r.payload x.2.2 = some id →
         (∀ (e : Fin 16) (l : Lot), s.lots[e] = some l → l.id ≠ id) →
         exec x.1 s = .next { s with requests := rest, ready := s.ready ++ [answerTo r .notFound []] }) ∧
  (∀ (s : State) (r : Frame) (rest : List Frame) (id : LotId) (e : Fin 16) (l : Lot),
     s.Offers r rest → r.kind = 0x0B → lotIdField r.payload 0 = some id → s.findLot id = some e →
     s.lots[e] = some l →
     (l.state = .opened → l.active = 0 →
       exec .lotClose s = .next
         { s with
           requests := rest
           lots := s.lots.set e (some { l with state := .closed })
           ready := s.ready ++ [answerTo r .ok []] }) ∧
     (l.state = .opened → 0 < l.active →
       exec .lotClose s = .next
         { s with
           requests := rest
           lots := s.lots.set e (some { l with state := .closing })
           ready := s.ready ++ [answerTo r .pending []] }) ∧
     (l.state = .closing →
       exec .lotClose s =
         .next { s with requests := rest, ready := s.ready ++ [answerTo r .pending []] }) ∧
     (l.state = .closed →
       exec .lotClose s =
         .next { s with requests := rest, ready := s.ready ++ [answerTo r .state []] })) ∧
  (∀ (s : State) (r : Frame) (rest : List Frame) (id : LotId) (e : Fin 16) (l : Lot),
     s.Offers r rest → r.kind = 0x0C → lotIdField r.payload 0 = some id → s.findLot id = some e →
     s.lots[e] = some l →
     (l.state = .closed → (∀ (n : SlotId) (w : Wafer), s.slot n = some w → w.lot ≠ l.id) →
       exec .lotRelease s = .next
         { s with
           requests := rest
           lots := s.lots.set e none
           ready := s.ready ++ [answerTo r .ok []] }) ∧
     (l.state ≠ .closed ∨ (∃ (n : SlotId) (w : Wafer), s.slot n = some w ∧ w.lot = l.id) →
       exec .lotRelease s =
         .next { s with requests := rest, ready := s.ready ++ [answerTo r .state []] })) ∧
  (∀ (s : State) (r : Frame) (rest : List Frame) (id : LotId) (e : Fin 16) (l : Lot),
     s.Offers r rest → r.kind = 0x0D → lotIdField r.payload 0 = some id → s.findLot id = some e →
     s.lots[e] = some l →
     exec .lotQuery s = .next
       { s with
         requests := rest
         ready := s.ready ++
           [answerTo r .ok
             ([byte e.val, byte l.id.length] ++ l.id ++ List.replicate (12 - l.id.length) 0 ++
               [byte l.plan.val, l.state.code, byte l.expected, byte l.closedList.length] ++
               l.closedList.map byte ++ [byte l.closedList.length] ++ be32 l.totals.tested ++
               be32 l.totals.passed ++ be32 l.totals.gross ++ l.totals.hist.toList.flatMap be32 ++
               [byte l.active])] })

/-! ## Wafers -/

/-- An accepted WAFER_OPEN (R18, R19, R134): the lowest-numbered FREE slot becomes OPENING with the request's
fields, G and accumulators at 0; the lot's active slot count rises; the slot's watches become ARMED; the
words of the grid are written, and no other word; and the request stays in progress. That the whole map is
written at this step is the model's choice (log 5). The checks of Table 1.6 after the lot has been found, in
their order. INITIALISATION_COMPLETE makes the slot OPEN and answers OK with the slot number and G. -/
def Obligations.WaferOpenFollowsItsChecks : Prop :=
  (∀ (s : State) (r : Frame) (rest : List Frame) (id : LotId) (e : Fin 16) (l : Lot) (n : SlotId),
     s.Offers r rest → r.kind = 0x0E → lotIdField r.payload 0 = some id → s.findLot id = some e →
     s.lots[e] = some l → l.state = .opened → 1 ≤ u8 r.payload 13 → u8 r.payload 13 ≤ l.expected →
     1 ≤ u16 r.payload 14 → u16 r.payload 14 ≤ 256 → 1 ≤ u16 r.payload 16 → u16 r.payload 16 ≤ 256 →
     (∀ (m : SlotId) (v : Wafer), s.slot m = some v → v.lot = l.id → v.number ≠ u8 r.payload 13) →
     u8 r.payload 13 ∉ l.closedList →
     spansValid (u16 r.payload 14) (u16 r.payload 16) (spanFields r.payload) = true →
     u8 r.payload 18 < u16 r.payload 14 → u8 r.payload 19 < u16 r.payload 16 →
     s.slot n = none → (∀ m : SlotId, m < n → s.slot m ≠ none) →
     ∃ t, exec .waferOpen s = .next t ∧
       t = { s with
         requests := rest
         inProgress := some (.opening r.tag n)
         lots := s.lots.set e (some { l with active := l.active + 1 })
         slots := s.slots.set n (some
           { state := .opening
             lot := l.id
             number := u8 r.payload 13
             cols := u16 r.payload 14
             rows := u16 r.payload 16
             refCol := u8 r.payload 18
             refRow := u8 r.payload 19
             spans := spanFields r.payload
             gross := grossCount (spanFields r.payload)
             acc := ⟨0, 0, Vector.replicate 64 0, Vector.replicate 16 ⟨0, 0, 0⟩, 0, 0⟩
             closing := none })
         tripped := s.tripped.filter fun w => !Watch.ofSlot n w
         mem := t.mem } ∧
       (∀ row < u16 r.payload 16, ∀ col < u16 r.payload 14,
         t.cellWord n (row * u16 r.payload 14 + col) =
           ⟨if (spanFields r.payload).any fun x =>
               decide (x.row = row ∧ x.first ≤ col ∧ col ≤ x.last) then .untested else .offWafer,
             .clean⟩) ∧
       ∀ a : Nat, a < cellAddress n 0 ∨ cellAddress n (u16 r.payload 14 * u16 r.payload 16) ≤ a →
         t.mem.word a = s.mem.word a) ∧
  (∀ (s : State) (r : Frame) (rest : List Frame) (id : LotId) (e : Fin 16) (l : Lot),
     s.Offers r rest → r.kind = 0x0E → lotIdField r.payload 0 = some id → s.findLot id = some e →
     s.lots[e] = some l →
     let refused (st : Status) : Host.Outcome State Fault Refusal :=
       .next { s with requests := rest, ready := s.ready ++ [answerTo r st []] }
     let numbersFit : Prop :=
       1 ≤ u8 r.payload 13 ∧ u8 r.payload 13 ≤ l.expected ∧ 1 ≤ u16 r.payload 14 ∧
       u16 r.payload 14 ≤ 256 ∧ 1 ≤ u16 r.payload 16 ∧ u16 r.payload 16 ≤ 256
     let waferHeld : Prop :=
       u8 r.payload 13 ∈ l.closedList ∨
       ∃ (m : SlotId) (v : Wafer), s.slot m = some v ∧ v.lot = l.id ∧ v.number = u8 r.payload 13
     let outlineFits : Prop :=
       spansValid (u16 r.payload 14) (u16 r.payload 16) (spanFields r.payload) = true ∧
       u8 r.payload 18 < u16 r.payload 14 ∧ u8 r.payload 19 < u16 r.payload 16
     (l.state ≠ .opened → exec .waferOpen s = refused .state) ∧
     (l.state = .opened →
       (¬numbersFit → exec .waferOpen s = refused .badField) ∧
       (numbersFit → waferHeld → exec .waferOpen s = refused .exists) ∧
       (numbersFit → ¬waferHeld → ¬outlineFits → exec .waferOpen s = refused .badSpans) ∧
       (numbersFit → ¬waferHeld → outlineFits → (∀ n : SlotId, s.slot n ≠ none) →
         exec .waferOpen s = refused .noSpace))) ∧
  (∀ (s : State) (tag : Byte) (n : SlotId) (w : Wafer), s.rst = false →
     s.inProgress = some (.opening tag n) → s.slot n = some w →
     exec .initialisationComplete s = .next
       { s with
         inProgress := none
         slots := s.slots.set n (some { w with state := .opened })
         ready := s.ready ++ [.reply false ⟨0x8E, tag, [0, byte n.val] ++ be32 w.gross⟩] })

/-- WAFER_CLOSE by the slot's state and its bound station's group (the table of R20), WAFER_RELEASE (R24), and
the requests that name a slot above 31 (R20, R23, R24, R25). WAFER_REOPEN (R23): the closing totals leave the
lot with the wafer's number, the slot is OPEN again with its cells and accumulators, and the lot counts it as
active; a slot that is not CLOSED, or whose lot is CLOSED, is refused STATE. -/
def Obligations.WaferCloseReopenRelease : Prop :=
  (∀ (s : State) (r : Frame) (rest : List Frame), s.Offers r rest →
     (∀ (n : SlotId), u8 r.payload 0 = n.val →
       (r.kind = 0x0F → s.slotIs n .opened = true → s.slotGroupOpen n = false →
         exec .waferClose s = .next
           ((State.completeClose n false { s with requests := rest }).makeReady (answerTo r .ok []))) ∧
       (∀ w : Wafer, s.slot n = some w → r.kind = 0x0F → w.state = .opened →
         s.slotGroupOpen n = true →
         exec .waferClose s = .next
           { s with
             requests := rest
             slots := s.slots.set n (some { w with state := .closing })
             ready := s.ready ++ [answerTo r .pending []] }) ∧
       (r.kind = 0x0F → s.slotIs n .closing = true →
         exec .waferClose s =
           .next { s with requests := rest, ready := s.ready ++ [answerTo r .pending []] }) ∧
       (r.kind = 0x0F → s.slotIs n .opened = false → s.slotIs n .closing = false →
         exec .waferClose s =
           .next { s with requests := rest, ready := s.ready ++ [answerTo r .state []] }) ∧
       (r.kind = 0x11 → s.slotIs n .closed = true →
         exec .waferRelease s = .next
           { s with
             requests := rest
             slots := s.slots.set n none
             ready := s.ready ++ [answerTo r .ok []] }) ∧
       (r.kind = 0x11 → s.slotIs n .closed = false →
         exec .waferRelease s =
           .next { s with requests := rest, ready := s.ready ++ [answerTo r .state []] })) ∧
     (31 < u8 r.payload 0 →
       ∀ x ∈ [(Instr.waferClose, (0x0F : Byte)), (.waferReopen, 0x10), (.waferRelease, 0x11),
           (.waferQuery, 0x12)],
         r.kind = x.2 →
         exec x.1 s =
           .next { s with requests := rest, ready := s.ready ++ [answerTo r .badField []] })) ∧
  (∀ (s : State) (r : Frame) (rest : List Frame) (n : SlotId), s.Offers r rest → r.kind = 0x10 →
     u8 r.payload 0 = n.val →
     (∀ (w : Wafer) (t : Totals) (e : Fin 16) (l : Lot), s.slot n = some w → w.state = .closed →
       w.closing = some t → s.findLot w.lot = some e → s.lots[e] = some l →
       (l.state ≠ .closed →
         exec .waferReopen s = .next
           { s with
             requests := rest
             slots := s.slots.set n (some { w with state := .opened, closing := none })
             lots := s.lots.set e (some
               { l with
                 closedList := l.closedList.filter (· ≠ w.number)
                 totals :=
                   ⟨l.totals.tested - t.tested, l.totals.passed - t.passed, l.totals.gross - t.gross,
                     Vector.ofFn fun b => l.totals.hist[b] - t.hist[b]⟩
                 active := l.active + 1 })
             ready := s.ready ++ [answerTo r .ok []] }) ∧
       (l.state = .closed →
         exec .waferReopen s =
           .next { s with requests := rest, ready := s.ready ++ [answerTo r .state []] })) ∧
     (s.slotIs n .closed = false →
       exec .waferReopen s =
         .next { s with requests := rest, ready := s.ready ++ [answerTo r .state []] }))

/-- A close that completes at once and the reopen that follows leave the lot's totals, its closed list and
its active slot count, and the slot, as they were (R7, R21, R23). -/
def Obligations.ReopenAfterCloseRestoresLot : Prop :=
  ∀ (s : State) (n : SlotId) (w : Wafer) (e : Fin 16) (l : Lot),
    s.slot n = some w → w.state = .opened → w.closing = none → s.findLot w.lot = some e →
    s.lots[e] = some l → l.state = .opened → 1 ≤ l.active → w.number ∉ l.closedList →
    l.closedList.Pairwise (· < ·) →
    ∀ v : Wafer, (s.completeClose n false).slot n = some v →
      (State.reopen n v e (s.completeClose n false)).lots = s.lots ∧
      (State.reopen n v e (s.completeClose n false)).slots = s.slots

/-- WAFER_QUERY (R25): a FREE slot reports its state alone; any other slot the fields of Table 1.4 with T,
P, the timeout count and the damaged count, and the closing totals, less their bin counts, behind a
presence byte (the order is the model's reading of R187, log 8). -/
def Obligations.WaferQueryReportsSlot : Prop :=
  ∀ (s : State) (r : Frame) (rest : List Frame) (n : SlotId), s.Offers r rest → r.kind = 0x12 →
    u8 r.payload 0 = n.val →
    (s.slot n = none →
      exec .waferQuery s =
        .next { s with requests := rest, ready := s.ready ++ [answerTo r .ok [0]] }) ∧
    ∀ w : Wafer, s.slot n = some w →
      exec .waferQuery s = .next
        { s with
          requests := rest
          ready := s.ready ++
            [answerTo r .ok
              ([slotStateCode (some w.state), byte w.lot.length] ++ w.lot ++
                List.replicate (12 - w.lot.length) 0 ++ [byte w.number] ++ be16 w.cols ++
                be16 w.rows ++ [byte w.refCol, byte w.refRow] ++ be16 w.spans.length ++
                (w.spans.flatMap fun x => [byte x.row, byte x.first, byte x.last]) ++
                be32 w.gross ++
                [match s.boundStation n with
                  | none => 0xFF
                  | some i => byte i.val] ++
                be32 w.acc.tested ++ be32 w.acc.passed ++ be16 w.acc.timeouts ++ be32 w.acc.damaged ++
                (match w.closing with
                  | none => [0]
                  | some t => [1] ++ be32 t.tested ++ be32 t.passed ++ be32 t.gross))] }

/-! ## The map memory, CELL_READ and YIELD_QUERY -/

/-- A read of a cell (R96, R97, R98): clean, it changes nothing; with a correctable error the word is written
back and the corrected-error count rises; with an uncorrectable one the cell becomes DAMAGED, the slot's
damaged count rises and MAP_FAULT is added. No other word changes. The errors that have struck the memory
before a step that reads it (that they come with the step's row is the model's form, log 4) change no record,
and the step goes on from the state they leave. -/
def Obligations.ReadCorrectsOrDamages : Prop :=
  (∀ (s : State) (n : SlotId) (k : Nat),
     ((s.cellWord n k).health = .clean → s.readCell n k = (s, s.cellRecord n k)) ∧
     ((s.cellWord n k).health = .correctable →
       s.readCell n k =
         ({ s with
             mem := s.mem.write (cellAddress n k) ⟨s.cellRecord n k, .clean⟩
             corrected := if s.corrected < 65535 then s.corrected + 1 else s.corrected },
           s.cellRecord n k)) ∧
     (∀ w : Wafer, s.slot n = some w → (s.cellWord n k).health = .uncorrectable →
       s.readCell n k =
         (State.addCause .mapFault
           { s with
             mem := s.mem.write (cellAddress n k) ⟨.damaged, .clean⟩
             slots := s.slots.set n (some
               { w with
                 acc := { w.acc with
                   damaged :=
                     if w.acc.damaged < topCount then w.acc.damaged + 1 else w.acc.damaged } }) },
           .damaged)) ∧
     ((s.readCell n k).1.cellWord n k = ⟨(s.readCell n k).2, .clean⟩ ∧
       ∀ a : Nat, a ≠ cellAddress n k → (s.readCell n k).1.mem.word a = s.mem.word a)) ∧
  (∀ (s : State) (us : List Upset),
     (s.upset us = { s with mem := (s.upset us).mem } ∧
       ∀ (n : SlotId) (k : Nat), (s.upset us).cellRecord n k = s.cellRecord n k) ∧
     (s.rst = false → ∀ (cells : Nat) (reads : List Nat) (bytes : List Byte),
       exec (.cellRead cells us) s = exec (.cellRead cells []) (s.upset us) ∧
       exec (.cellReadComplete us) s = exec (.cellReadComplete []) (s.upset us) ∧
       exec (.tdResults us bytes) s = exec (.tdResults [] bytes) (s.upset us) ∧
       exec (.tdClose reads us bytes) s = exec (.tdClose reads [] bytes) (s.upset us) ∧
       exec (.groupExpiry reads us bytes) s = exec (.groupExpiry reads [] bytes) (s.upset us) ∧
       exec (.mapSegmentBuild us) s = exec (.mapSegmentBuild []) (s.upset us)))

/-- CELL_READ (R103 to R105): its checks and the clamping of its count. An accepted one stays in progress;
over a run of clean words CELL_READ_COMPLETE reads them, changing no word, and answers with the FULL code of
each cell and then the last stations, two to a byte (Table 10.11). In flight it reads one cell at a time, in
ascending order, each a separate access. That CELL_READ's row reads so many cells of the run as its operand
says, when it takes the request and when it is repeated, and CELL_READ_COMPLETE those left, is the model's
choice (log 6). -/
def Obligations.CellReadReadsItsRun : Prop :=
  ((∀ (s : State) (r : Frame) (rest : List Frame), s.Offers r rest → r.kind = 0x13 →
     (31 < u8 r.payload 0 → exec (.cellRead 0 []) s =
       .next { s with requests := rest, ready := s.ready ++ [answerTo r .badField []] }) ∧
     ∀ n : SlotId, u8 r.payload 0 = n.val →
       (s.slot n = none → exec (.cellRead 0 []) s =
         .next { s with requests := rest, ready := s.ready ++ [answerTo r .state []] }) ∧
       ∀ w : Wafer, s.slot n = some w →
         (w.rows ≤ u8 r.payload 1 ∨ w.cols ≤ u8 r.payload 2 → exec (.cellRead 0 []) s =
           .next { s with requests := rest, ready := s.ready ++ [answerTo r .badField []] }) ∧
         (u8 r.payload 1 < w.rows → u8 r.payload 2 < w.cols → exec (.cellRead 0 []) s =
           .next { s with
             requests := rest
             inProgress := some (.reading r.tag n (u8 r.payload 1) (u8 r.payload 2)
               (u8 r.payload 1 * w.cols + u8 r.payload 2)
               (min (max 1 (u16 r.payload 3)) (w.cols - u8 r.payload 2)) []) })) ∧
   ∀ (s : State) (tag : Byte) (n : SlotId) (row first base count : Nat), s.rst = false →
     s.inProgress = some (.reading tag n row first base count []) →
     (∀ k < count, (s.cellWord n (base + k)).health = .clean) →
     exec (.cellReadComplete []) s = .next
       { s with
         inProgress := none
         ready := s.ready ++
           [.reply false
             ⟨0x93, tag,
               [0, byte n.val, byte row, byte first] ++ be16 count ++
               ((List.range count).flatMap fun k =>
                 match s.cellRecord n (base + k) with
                 | .tested final firstBin tests site _ =>
                   [byte final.val, byte firstBin.val, byte (tests * 16 + site.val)]
                 | .untested => [64, 0, 0]
                 | .damaged => [65, 0, 0]
                 | .offWafer => [66, 0, 0]) ++
               packStations ((List.range count).map fun k => lastStation (s.cellRecord n (base + k)))⟩] }) ∧
  ((∀ (s : State) (tag : Byte) (n : SlotId) (row first base count : Nat) (cells : List CellRecord),
     s.rst = false → s.inProgress = some (.reading tag n row first base count cells) →
     (cells.length < count →
       let got := s.readCell n (base + cells.length)
       let t : State :=
         { got.1 with inProgress := some (.reading tag n row first base count (cells ++ [got.2])) }
       exec (.cellRead 1 []) s = .next t ∧
       (∀ k : Nat, exec (.cellRead (k + 1) []) s = exec (.cellRead k []) t) ∧
       exec (.cellReadComplete []) s = exec (.cellReadComplete []) t) ∧
     exec (.cellRead 0 []) s = .next s ∧
     (count ≤ cells.length → ∀ k : Nat, exec (.cellRead k []) s = .next s) ∧
     (count ≤ cells.length →
       exec (.cellReadComplete []) s = .next
         { s with
           inProgress := none
           ready := s.ready ++
             [.reply false
               ⟨0x93, tag,
                 [0, byte n.val, byte row, byte first] ++ be16 cells.length ++
                 cells.flatMap (fun c =>
                   match c with
                   | .tested final firstBin tests site _ =>
                     [byte final.val, byte firstBin.val, byte (tests * 16 + site.val)]
                   | .untested => [64, 0, 0]
                   | .damaged => [65, 0, 0]
                   | .offWafer => [66, 0, 0]) ++
                 packStations (cells.map lastStation)⟩] })) ∧
   ∀ (s t : State) (r : Frame) (rest : List Frame), s.Offers r rest → r.kind = 0x13 →
     exec (.cellRead 0 []) s = .next t → ∀ k : Nat,
     exec (.cellRead k []) s = .next (State.readAhead k t) ∧
     (t.inProgress = none → State.readAhead k t = t) ∧
     (t.inProgress ≠ none → exec (.cellRead k []) t = .next (State.readAhead k t)))

/-- YIELD_QUERY by slot (R125, R126) reports the fields of Table 6.6 with the yields of R118, R120 and R121,
and by lot (R127, R122) those of Table 6.7; an absent yield is all ones (R187). The order of the bytes is the
model's reading of R187 (log 8). An undefined selector code gives BAD_FIELD (R125 step 1), whichever of the
two rows takes it (log 7). -/
def Obligations.YieldQueriesReportCounts : Prop :=
  (∀ (s : State) (r : Frame) (rest : List Frame), s.Offers r rest → r.kind = 0x14 →
     u8 r.payload 0 = 0 →
     let yieldBytes (n d : Nat) : List Byte :=
       if d = 0 then [0xFF, 0xFF] else be16 ((20000 * n + d) / (2 * d))
     (∀ (n : SlotId) (w : Wafer), u8 r.payload 1 = n.val → s.slot n = some w → w.state ≠ .exporting →
       exec .yieldQuerySlot s = .next
         { s with
           requests := rest
           ready := s.ready ++
             [answerTo r .ok
               ([0, byte n.val, slotStateCode (some w.state)] ++ be32 w.acc.tested ++
                 be32 w.acc.passed ++ be32 w.gross ++ yieldBytes w.acc.passed w.acc.tested ++
                 yieldBytes w.acc.passed w.gross ++ w.acc.hist.toList.flatMap be32 ++
                 (w.acc.sites.toList.flatMap fun t =>
                   be32 t.tests ++ be32 t.passes ++ be32 t.voids) ++
                 (w.acc.sites.toList.flatMap fun t => yieldBytes t.passes t.tests) ++
                 be16 w.acc.timeouts ++ be32 w.acc.damaged)] }) ∧
     (∀ n : SlotId, u8 r.payload 1 = n.val → (s.slot n = none ∨ s.slotIs n .exporting = true) →
       exec .yieldQuerySlot s =
         .next { s with requests := rest, ready := s.ready ++ [answerTo r .state []] }) ∧
     (31 < u8 r.payload 1 →
       exec .yieldQuerySlot s =
         .next { s with requests := rest, ready := s.ready ++ [answerTo r .badField []] })) ∧
  (∀ (s : State) (r : Frame) (rest : List Frame) (id : LotId) (e : Fin 16) (l : Lot),
     s.Offers r rest → r.kind = 0x14 → u8 r.payload 0 = 1 → lotIdField r.payload 1 = some id →
     s.findLot id = some e → s.lots[e] = some l →
     let yieldBytes (n d : Nat) : List Byte :=
       if d = 0 then [0xFF, 0xFF] else be16 ((20000 * n + d) / (2 * d))
     exec .yieldQueryLot s = .next
       { s with
         requests := rest
         ready := s.ready ++
           [answerTo r .ok
             ([1, byte l.id.length] ++ l.id ++ List.replicate (12 - l.id.length) 0 ++
               [l.state.code, byte l.closedList.length] ++ be32 l.totals.tested ++
               be32 l.totals.passed ++ be32 l.totals.gross ++
               yieldBytes l.totals.passed l.totals.tested ++
               yieldBytes l.totals.passed l.totals.gross ++ l.totals.hist.toList.flatMap be32)] }) ∧
  (∀ (s : State) (r : Frame) (rest : List Frame), s.Offers r rest → r.kind = 0x14 →
     1 < u8 r.payload 0 → ∀ c ∈ [Instr.yieldQuerySlot, .yieldQueryLot],
       exec c s = .next { s with requests := rest, ready := s.ready ++ [answerTo r .badField []] })

/-- The ratio yield (R118): the integer part of (20000 × n + d) / (2 × d), which is the nearest integer to
10000 × n / d with halves up; absent when d is 0, rising with n, and from 0 to 10000 for 0 ≤ n ≤ d. -/
def Obligations.RatioYieldRoundsToNearest : Prop :=
  ∀ n m d : Nat,
    (ratioYield n d = none ↔ d = 0) ∧
    (0 < d → ratioYield n d = some ((20000 * n + d) / (2 * d))) ∧
    (n ≤ m → m ≤ d → 0 < d → ∃ y z,
      ratioYield n d = some y ∧ ratioYield m d = some z ∧ y ≤ z ∧ z ≤ 10000 ∧
      (2 * y * d ≤ 20000 * n + d ∧ 20000 * n + d < 2 * (y + 1) * d)) ∧
    (0 < d → ratioYield 0 d = some 0 ∧ ratioYield d d = some 10000)

/-- The transform (R28 to R32, R34): the outcome by the exact column and row, a cell index inside the grid,
and equal indexes only for equal coordinates. -/
def Obligations.TransformIsOneToOne : Prop :=
  ∀ (w : Wafer) (q : Fin 4) (sx sy tx ty : Int),
    let u : Int := if q = 0 then sx else if q = 1 then -sy else if q = 2 then -sx else sy
    let v : Int := if q = 0 then sy else if q = 1 then sx else if q = 2 then -sy else -sx
    let col : Int := w.refCol + u
    let row : Int := w.refRow - v
    (transform w q sx sy = .offMap ↔
      col < 0 ∨ (w.cols : Int) ≤ col ∨ row < 0 ∨ (w.rows : Int) ≤ row) ∧
    (∀ k : Nat, transform w q sx sy = .cell k ↔
      (0 ≤ col ∧ col < w.cols ∧ 0 ≤ row ∧ row < w.rows) ∧ (k : Int) = row * w.cols + col ∧
      ∃ x ∈ w.spans, (x.row : Int) = row ∧ (x.first : Int) ≤ col ∧ col ≤ (x.last : Int)) ∧
    (∀ k : Nat, transform w q sx sy = .cell k → k < w.cols * w.rows) ∧
    ∀ k : Nat, transform w q sx sy = .cell k → transform w q tx ty = .cell k → sx = tx ∧ sy = ty

/-! ## The Map Export Unit -/

/-- EXPORT_START (R155, R156), its checks in their order; EXPORT_MORE by the unit's state (the table of R161);
and EXPORT_STOP (R163, R171): in IDLE refused STATE; otherwise an offered frame is discarded, the unit becomes
IDLE, its slot CLOSED and EXPORT_WAITING leaves the set, and the reply carries the position. While a segment
of the export is being sent, all but the first of these waits until it has been sent whole, and no frame is
built (how the rows tell that it has been sent is the model's choice, log 11). The bytes of the three replies
are the model's reading of R187 (log 8). -/
def Obligations.ExportRequestsByState : Prop :=
  (∀ (s : State) (r : Frame) (rest : List Frame), s.Offers r rest → r.kind = 0x1A →
     (31 < u8 r.payload 0 ∨ 1 < u8 r.payload 1 →
       exec .exportStart s =
         .next { s with requests := rest, ready := s.ready ++ [answerTo r .badField []] }) ∧
     ∀ (n : SlotId) (d : Detail), u8 r.payload 0 = n.val → Detail.ofCode (u8 r.payload 1) = some d →
       (s.mex ≠ none →
         exec .exportStart s =
           .next { s with requests := rest, ready := s.ready ++ [answerTo r .busy []] }) ∧
       (s.mex = none → s.slotIs n .closed = false →
         exec .exportStart s =
           .next { s with requests := rest, ready := s.ready ++ [answerTo r .state []] }) ∧
       ∀ w : Wafer, s.mex = none → s.slot n = some w → w.state = .closed →
         exec .exportStart s = .next
           { s with
             requests := rest
             slots := s.slots.set n (some { w with state := .exporting })
             mex := some
               { waiting := false
                 slot := n
                 detail := d
                 spanCount := w.spans.length
                 position := 0
                 window := max 1 (min 64 (u8 r.payload 2))
                 offered := none }
             ready := s.ready ++
               [answerTo r .ok
                 ([byte n.val, d.code, byte (max 1 (min 64 (u8 r.payload 2)))] ++
                   be16 w.spans.length)] }) ∧
  (∀ (s : State) (r : Frame) (rest : List Frame), s.Offers r rest → r.kind = 0x1B →
     let n := max 1 (min 64 (u8 r.payload 0))
     (s.mex = none →
       exec .exportMore s =
         .next { s with requests := rest, ready := s.ready ++ [answerTo r .state []] }) ∧
     ∀ m : Mex, s.mex = some m →
       (m.waiting = true →
         exec .exportMore s = .next
           { s with
             requests := rest
             mex := some { m with waiting := false, window := n }
             causes := s.causes.filter fun c => decide (c ≠ .exportWaiting)
             ready := s.ready ++ [answerTo r .ok [byte n]] }) ∧
       (m.waiting = false →
         exec .exportMore s = .next
           { s with
             requests := rest
             mex := some { m with window := min 64 (m.window + n) }
             ready := s.ready ++ [answerTo r .ok [byte (min 64 (m.window + n))]] })) ∧
  ((∀ (s : State) (r : Frame) (rest : List Frame), s.Offers r rest → r.kind = 0x1C →
     (s.mex = none →
       exec .exportStop s =
         .next { s with requests := rest, ready := s.ready ++ [answerTo r .state []] }) ∧
     ∀ (m : Mex) (w : Wafer), s.mex = some m → s.slot m.slot = some w → w.state = .exporting →
       ((∀ f : Frame, s.hostLine = some f → f.kind ≠ 0xA1 ∨ m.position = 0) →
         exec .exportStop s = .next
           { s with
             requests := rest
             mex := none
             slots := s.slots.set m.slot (some { w with state := .closed })
             causes := s.causes.filter fun c => decide (c ≠ .exportWaiting)
             ready := s.ready ++ [answerTo r .ok (be16 m.position)] }) ∧
       ∀ f : Frame, s.hostLine = some f → f.kind = 0xA1 → 0 < m.position →
         exec .exportStop s = .next
           { s with
             requests := rest
             mex := some { m with offered := none }
             inProgress := some (.stopping r.tag) }) ∧
   ∀ (s : State) (tag : Byte), s.rst = false → s.inProgress = some (.stopping tag) →
     (exec (.mapSegmentBuild []) s = .next s ∧ exec .exportEndBuild s = .next s) ∧
     ∀ (m : Mex) (w : Wafer), s.mex = some m → s.slot m.slot = some w → w.state = .exporting →
       exec .exportStop s = .next
         { s with
           inProgress := none
           hostLine := none
           mex := none
           slots := s.slots.set m.slot (some { w with state := .closed })
           causes := s.causes.filter fun c => decide (c ≠ .exportWaiting)
           ready := s.ready ++ [.reply false ⟨0x9C, tag, 0 :: be16 m.position⟩] })

/-- MAP_SEGMENT_BUILD (R157, R158, R159) over a span of clean words offers the segment of the span at the
position, one code per cell in the export's detail; neither window nor position moves. Over words with errors
(R164) each read corrects or damages its word, and the segment carries the code of each cell as its read found
it. EXPORT_END_BUILD (R162), with every segment taken, offers EXPORT_END with the slot's T, P, G, damaged
count and histogram of this moment. The transmitter takes an offered frame only with the ready list empty
(R173): a segment lowers the window and raises the position by 1, and a window so spent with spans left makes
the unit WAITING with EXPORT_WAITING added (R159, R160); EXPORT_END ends the export with EXPORT_DONE (R162). -/
def Obligations.ExportFramesCarryTheMap : Prop :=
  (∀ (s : State) (m : Mex) (w : Wafer) (x : Span), s.rst = false → s.mex = some m →
     (∀ tag, s.inProgress ≠ some (.stopping tag)) → m.waiting = false → m.offered = none →
     0 < m.window → m.position < m.spanCount →
     s.slot m.slot = some w → w.spans[m.position]? = some x → x.first ≤ x.last →
     (∀ col, x.first ≤ col → col ≤ x.last →
       (s.cellWord m.slot (x.row * w.cols + col)).health = .clean) →
     exec (.mapSegmentBuild []) s = .next
       { s with
         mex := some
           { m with
             offered := some (.segment
               ⟨0xA1, 0,
                 [byte m.slot.val, byte x.row, byte x.first, m.detail.code] ++
                 be16 (x.last + 1 - x.first) ++
                 (List.range' x.first (x.last + 1 - x.first)).flatMap fun col =>
                   m.detail.cellCode (s.cellRecord m.slot (x.row * w.cols + col))⟩) } }) ∧
  ((∀ (s : State) (m : Mex) (w : Wafer) (x : Span), s.rst = false → s.mex = some m →
     (∀ tag, s.inProgress ≠ some (.stopping tag)) → m.waiting = false → m.offered = none →
     0 < m.window → m.position < m.spanCount →
     s.slot m.slot = some w → w.spans[m.position]? = some x →
     let got := s.readRun m.slot (x.row * w.cols + x.first) (x.last + 1 - x.first)
     exec (.mapSegmentBuild []) s = .next
       { got.1 with
         mex := some
           { m with
             offered := some (.segment
               ⟨0xA1, 0,
                 [byte m.slot.val, byte x.row, byte x.first, m.detail.code] ++
                 be16 (x.last + 1 - x.first) ++ got.2.flatMap m.detail.cellCode⟩) } }) ∧
   (∀ (s : State) (n : SlotId) (base k : Nat),
     let before := s.readRun n base k
     let got := before.1.readCell n (base + k)
     s.readRun n base 0 = (s, []) ∧ s.readRun n base (k + 1) = (got.1, before.2 ++ [got.2])) ∧
   (∀ (final first : Bin) (count : Nat) (site : SiteId) (station : StationId),
     Detail.brief.cellCode (.tested final first count site station) = [byte final.val] ∧
     Detail.full.cellCode (.tested final first count site station) =
       [byte final.val, byte first.val, byte (count * 16 + site.val)]) ∧
   Detail.brief.cellCode .untested = [64] ∧ Detail.full.cellCode .untested = [64, 0, 0] ∧
   Detail.brief.cellCode .damaged = [65] ∧ Detail.full.cellCode .damaged = [65, 0, 0]) ∧
  (∀ (s : State) (m : Mex) (w : Wafer), s.rst = false → s.mex = some m →
     (∀ tag, s.inProgress ≠ some (.stopping tag)) → m.waiting = false → m.offered = none →
     m.spanCount ≤ m.position → s.slot m.slot = some w →
     exec .exportEndBuild s = .next
       { s with
         mex := some
           { m with
             offered := some (.finish
               ⟨0xA2, 0,
                 [byte m.slot.val] ++ be32 w.acc.tested ++ be32 w.acc.passed ++ be32 w.gross ++
                 be32 w.acc.damaged ++ w.acc.hist.toList.flatMap be32⟩) } }) ∧
  (∀ (s : State) (m : Mex) (f : Frame), s.mex = some m →
     (s.ready ≠ [] → exec .mapSegmentTaken s = .next s ∧ exec .exportEndTaken s = .next s) ∧
     (s.rst = false → s.ready = [] → m.offered = some (.segment f) →
       (1 < m.window ∨ m.spanCount ≤ m.position + 1 →
         exec .mapSegmentTaken s = .next
           { s with
             hostLine := some f
             mex := some
               { m with
                 waiting := false, offered := none, window := m.window - 1
                 position := m.position + 1 } }) ∧
       (m.window ≤ 1 → m.position + 1 < m.spanCount →
         exec .mapSegmentTaken s = .next
           (State.addCause .exportWaiting
             { s with
               hostLine := some f
               mex := some
                 { m with
                   waiting := true, offered := none, window := 0, position := m.position + 1 } }))) ∧
     ∀ w : Wafer, s.rst = false → s.ready = [] → m.offered = some (.finish f) →
       s.slot m.slot = some w → w.state = .exporting →
       exec .exportEndTaken s = .next
         (State.addCause .exportDone
           { s with
             hostLine := some f
             mex := none
             slots := s.slots.set m.slot (some { w with state := .closed }) }))

/-! ## What every step keeps -/

/-- The part after a power-on reset keeps every law. -/
def Obligations.ResetIsLawful : Prop :=
  State.reset.Lawful

/-- The words of the map memory stay listed with rising addresses, each once; the queues, lists and counts
stay in their ranges (R39, R41, R143, R168, R170, R173, R174); and the settings stay clamped (R12, R62, R64,
R132). -/
def Obligations.EveryStepKeepsOrderAndRanges : Prop :=
  (∀ s t : State, Mem.wf s.mem → step s = .next t → Mem.wf t.mem) ∧
  (∀ s t : State, s.QueueLaw → step s = .next t → t.QueueLaw) ∧
  (∀ s t : State, s.SettingsLaw → step s = .next t → t.SettingsLaw)

/-- A slot is bound to at most one station and is then OPEN or CLOSING, and a group stands only at a bound
station and names distinct sites of its set and distinct cells (the laws of R54 and R60). -/
def Obligations.EveryStepKeepsBindingLaw : Prop :=
  ∀ s t : State, s.BindingLaw → step s = .next t → t.BindingLaw

/-- Where bindings and lots keep their laws too: the slots, the request in progress and the export agree, an
EXPORT_STOP that waits has left no frame offered (R163), and a slot's closing totals equal its accumulators
while it is CLOSED or EXPORTING (R16, R17, R115, R154). -/
def Obligations.EveryStepKeepsSlotLaw : Prop :=
  ∀ s t : State, s.BindingLaw → s.LotLaw → s.SlotLaw → step s = .next t → t.SlotLaw

/-- Where bindings and slots keep their laws too: lot ids stay distinct, a lot's active
slot count is the number of its slots in OPENING, OPEN or CLOSING, and its closed list names no wafer
twice, and its totals hold the closing totals of its slots (R1, R4, R7, R116). -/
def Obligations.EveryStepKeepsLotLaw : Prop :=
  ∀ s t : State, s.BindingLaw → s.SlotLaw → s.LotLaw → step s = .next t → t.LotLaw

/-- No two alarm entries that are not ACKED share rule, slot, station and site, and no PENDING entry is more
urgent than CAL (the laws of R143 and R147). -/
def Obligations.EveryStepKeepsAlarmLaw : Prop :=
  ∀ s t : State, s.AlarmLaw → step s = .next t → t.AlarmLaw

/-- From a state that keeps every law, a slot's counts stay true to its map: the histogram sums
to T and its PASS bins to P (R110), T less the TESTED cells is at most the damaged count (R99), and no
cell's test count exceeds the retest limit (R93). -/
def Obligations.EveryStepKeepsAccountLaw : Prop :=
  ∀ s t : State, s.Lawful → step s = .next t → t.AccountLaw

/-- From a state that keeps every law, the cells of a slot in CLOSED or EXPORTING change only by becoming
DAMAGED (the law of R85), in every step that does not free the slot. -/
def Obligations.ClosedMapOnlyTurnsDamaged : Prop :=
  ∀ (s t : State) (n : SlotId) (w : Wafer), s.Lawful → step s = .next t →
    s.slot n = some w → (w.state = .closed ∨ w.state = .exporting) → t.slot n ≠ none →
    ∀ k < w.cols * w.rows,
      t.cellRecord n k = s.cellRecord n k ∨ t.cellRecord n k = .damaged

/-- A station's records leave every other station as it is: its queue, group, binding, counters and transmit
list (R43, R52). Only initialisation, the reads of cells and the resets that lose the map touch the map
memory; the settings (priority codes and timing classes among them) are changed by no step but their own
request and those resets (R11, R50, R61, R84, R106, R130). -/
def Obligations.RowsChangeOnlyWhatIsTheirs : Prop :=
  (∀ (s t : State) (i j : StationId) (c : Instr), s.BindingLaw → s.grant = some i → j ≠ i →
     (∃ reads us bytes, c ∈ (recordRowsWith reads us bytes).map Prod.fst) →
     exec c s = .next t → t.station j = s.station j) ∧
  (∀ (c : Instr) (s t : State), exec c s = .next t →
     c ≠ .resetFull → c ≠ .rstAssert → c ≠ .rstRelease →
     (c ≠ .waferOpen → (∀ k us, c ≠ .cellRead k us) → (∀ us, c ≠ .cellReadComplete us) →
       (∀ us bs, c ≠ .tdResults us bs) → (∀ ks us bs, c ≠ .tdClose ks us bs) →
       (∀ ks us bs, c ≠ .groupExpiry ks us bs) →
       (∀ us, c ≠ .mapSegmentBuild us) → t.mem = s.mem) ∧
     (c ≠ .planLoad → t.plans = s.plans) ∧ (c ≠ .classSet → t.classes = s.classes) ∧
     (c ≠ .ruleSet → t.rules = s.rules) ∧
     (c ≠ .stationSet → ∀ i : StationId,
       (t.station i).priority = (s.station i).priority ∧
       (t.station i).timingClass = (s.station i).timingClass))
end

