-- ==== Sys2Proof/Laws/State.lean ====
section
/-! SUPPORT. The fields of a state after each named update: one lemma for each field that an update leaves
alone, and what it makes of the one it changes. -/

namespace Sys2Proof.Machine

variable (s : State)

/-! ### State.modStation -/

@[simp] theorem State.modStation_pending (i : StationId) (f : Station → Station) : (s.modStation i f).pending = s.pending := rfl
@[simp] theorem State.modStation_rst (i : StationId) (f : Station → Station) : (s.modStation i f).rst = s.rst := rfl
@[simp] theorem State.modStation_hostRx (i : StationId) (f : Station → Station) : (s.modStation i f).hostRx = s.hostRx := rfl
@[simp] theorem State.modStation_requests (i : StationId) (f : Station → Station) : (s.modStation i f).requests = s.requests := rfl
@[simp] theorem State.modStation_inProgress (i : StationId) (f : Station → Station) : (s.modStation i f).inProgress = s.inProgress := rfl
@[simp] theorem State.modStation_ready (i : StationId) (f : Station → Station) : (s.modStation i f).ready = s.ready := rfl
@[simp] theorem State.modStation_hostLine (i : StationId) (f : Station → Station) : (s.modStation i f).hostLine = s.hostLine := rfl
@[simp] theorem State.modStation_causes (i : StationId) (f : Station → Station) : (s.modStation i f).causes = s.causes := rfl
@[simp] theorem State.modStation_lastReset (i : StationId) (f : Station → Station) : (s.modStation i f).lastReset = s.lastReset := rfl
@[simp] theorem State.modStation_lots (i : StationId) (f : Station → Station) : (s.modStation i f).lots = s.lots := rfl
@[simp] theorem State.modStation_plans (i : StationId) (f : Station → Station) : (s.modStation i f).plans = s.plans := rfl
@[simp] theorem State.modStation_slots (i : StationId) (f : Station → Station) : (s.modStation i f).slots = s.slots := rfl
@[simp] theorem State.modStation_classes (i : StationId) (f : Station → Station) : (s.modStation i f).classes = s.classes := rfl
@[simp] theorem State.modStation_lastGranted (i : StationId) (f : Station → Station) : (s.modStation i f).lastGranted = s.lastGranted := rfl
@[simp] theorem State.modStation_mem (i : StationId) (f : Station → Station) : (s.modStation i f).mem = s.mem := rfl
@[simp] theorem State.modStation_corrected (i : StationId) (f : Station → Station) : (s.modStation i f).corrected = s.corrected := rfl
@[simp] theorem State.modStation_rules (i : StationId) (f : Station → Station) : (s.modStation i f).rules = s.rules := rfl
@[simp] theorem State.modStation_tripped (i : StationId) (f : Station → Station) : (s.modStation i f).tripped = s.tripped := rfl
@[simp] theorem State.modStation_alarms (i : StationId) (f : Station → Station) : (s.modStation i f).alarms = s.alarms := rfl
@[simp] theorem State.modStation_cal (i : StationId) (f : Station → Station) : (s.modStation i f).cal = s.cal := rfl
@[simp] theorem State.modStation_overflow (i : StationId) (f : Station → Station) : (s.modStation i f).overflow = s.overflow := rfl
@[simp] theorem State.modStation_mex (i : StationId) (f : Station → Station) : (s.modStation i f).mex = s.mex := rfl

/-! ### State.unbind -/

@[simp] theorem State.unbind_pending (i : StationId) : (s.unbind i).pending = s.pending := rfl
@[simp] theorem State.unbind_rst (i : StationId) : (s.unbind i).rst = s.rst := rfl
@[simp] theorem State.unbind_hostRx (i : StationId) : (s.unbind i).hostRx = s.hostRx := rfl
@[simp] theorem State.unbind_requests (i : StationId) : (s.unbind i).requests = s.requests := rfl
@[simp] theorem State.unbind_inProgress (i : StationId) : (s.unbind i).inProgress = s.inProgress := rfl
@[simp] theorem State.unbind_ready (i : StationId) : (s.unbind i).ready = s.ready := rfl
@[simp] theorem State.unbind_hostLine (i : StationId) : (s.unbind i).hostLine = s.hostLine := rfl
@[simp] theorem State.unbind_causes (i : StationId) : (s.unbind i).causes = s.causes := rfl
@[simp] theorem State.unbind_lastReset (i : StationId) : (s.unbind i).lastReset = s.lastReset := rfl
@[simp] theorem State.unbind_lots (i : StationId) : (s.unbind i).lots = s.lots := rfl
@[simp] theorem State.unbind_plans (i : StationId) : (s.unbind i).plans = s.plans := rfl
@[simp] theorem State.unbind_slots (i : StationId) : (s.unbind i).slots = s.slots := rfl
@[simp] theorem State.unbind_classes (i : StationId) : (s.unbind i).classes = s.classes := rfl
@[simp] theorem State.unbind_lastGranted (i : StationId) : (s.unbind i).lastGranted = s.lastGranted := rfl
@[simp] theorem State.unbind_mem (i : StationId) : (s.unbind i).mem = s.mem := rfl
@[simp] theorem State.unbind_corrected (i : StationId) : (s.unbind i).corrected = s.corrected := rfl
@[simp] theorem State.unbind_rules (i : StationId) : (s.unbind i).rules = s.rules := rfl
@[simp] theorem State.unbind_tripped (i : StationId) : (s.unbind i).tripped = s.tripped := rfl
@[simp] theorem State.unbind_alarms (i : StationId) : (s.unbind i).alarms = s.alarms := rfl
@[simp] theorem State.unbind_cal (i : StationId) : (s.unbind i).cal = s.cal := rfl
@[simp] theorem State.unbind_overflow (i : StationId) : (s.unbind i).overflow = s.overflow := rfl
@[simp] theorem State.unbind_mex (i : StationId) : (s.unbind i).mex = s.mex := rfl

/-! ### State.deliver -/

@[simp] theorem State.deliver_pending (i : StationId) (r : StationReply) : (s.deliver i r).pending = s.pending := rfl
@[simp] theorem State.deliver_rst (i : StationId) (r : StationReply) : (s.deliver i r).rst = s.rst := rfl
@[simp] theorem State.deliver_hostRx (i : StationId) (r : StationReply) : (s.deliver i r).hostRx = s.hostRx := rfl
@[simp] theorem State.deliver_requests (i : StationId) (r : StationReply) : (s.deliver i r).requests = s.requests := rfl
@[simp] theorem State.deliver_inProgress (i : StationId) (r : StationReply) : (s.deliver i r).inProgress = s.inProgress := rfl
@[simp] theorem State.deliver_ready (i : StationId) (r : StationReply) : (s.deliver i r).ready = s.ready := rfl
@[simp] theorem State.deliver_hostLine (i : StationId) (r : StationReply) : (s.deliver i r).hostLine = s.hostLine := rfl
@[simp] theorem State.deliver_causes (i : StationId) (r : StationReply) : (s.deliver i r).causes = s.causes := rfl
@[simp] theorem State.deliver_lastReset (i : StationId) (r : StationReply) : (s.deliver i r).lastReset = s.lastReset := rfl
@[simp] theorem State.deliver_lots (i : StationId) (r : StationReply) : (s.deliver i r).lots = s.lots := rfl
@[simp] theorem State.deliver_plans (i : StationId) (r : StationReply) : (s.deliver i r).plans = s.plans := rfl
@[simp] theorem State.deliver_slots (i : StationId) (r : StationReply) : (s.deliver i r).slots = s.slots := rfl
@[simp] theorem State.deliver_classes (i : StationId) (r : StationReply) : (s.deliver i r).classes = s.classes := rfl
@[simp] theorem State.deliver_lastGranted (i : StationId) (r : StationReply) : (s.deliver i r).lastGranted = s.lastGranted := rfl
@[simp] theorem State.deliver_mem (i : StationId) (r : StationReply) : (s.deliver i r).mem = s.mem := rfl
@[simp] theorem State.deliver_corrected (i : StationId) (r : StationReply) : (s.deliver i r).corrected = s.corrected := rfl
@[simp] theorem State.deliver_rules (i : StationId) (r : StationReply) : (s.deliver i r).rules = s.rules := rfl
@[simp] theorem State.deliver_tripped (i : StationId) (r : StationReply) : (s.deliver i r).tripped = s.tripped := rfl
@[simp] theorem State.deliver_alarms (i : StationId) (r : StationReply) : (s.deliver i r).alarms = s.alarms := rfl
@[simp] theorem State.deliver_cal (i : StationId) (r : StationReply) : (s.deliver i r).cal = s.cal := rfl
@[simp] theorem State.deliver_overflow (i : StationId) (r : StationReply) : (s.deliver i r).overflow = s.overflow := rfl
@[simp] theorem State.deliver_mex (i : StationId) (r : StationReply) : (s.deliver i r).mex = s.mex := rfl

/-! ### State.refuse -/

@[simp] theorem State.refuse_pending (i : StationId) (tag : Byte) (why : Reason) : (s.refuse i tag why).pending = s.pending := rfl
@[simp] theorem State.refuse_rst (i : StationId) (tag : Byte) (why : Reason) : (s.refuse i tag why).rst = s.rst := rfl
@[simp] theorem State.refuse_hostRx (i : StationId) (tag : Byte) (why : Reason) : (s.refuse i tag why).hostRx = s.hostRx := rfl
@[simp] theorem State.refuse_requests (i : StationId) (tag : Byte) (why : Reason) : (s.refuse i tag why).requests = s.requests := rfl
@[simp] theorem State.refuse_inProgress (i : StationId) (tag : Byte) (why : Reason) : (s.refuse i tag why).inProgress = s.inProgress := rfl
@[simp] theorem State.refuse_ready (i : StationId) (tag : Byte) (why : Reason) : (s.refuse i tag why).ready = s.ready := rfl
@[simp] theorem State.refuse_hostLine (i : StationId) (tag : Byte) (why : Reason) : (s.refuse i tag why).hostLine = s.hostLine := rfl
@[simp] theorem State.refuse_causes (i : StationId) (tag : Byte) (why : Reason) : (s.refuse i tag why).causes = s.causes := rfl
@[simp] theorem State.refuse_lastReset (i : StationId) (tag : Byte) (why : Reason) : (s.refuse i tag why).lastReset = s.lastReset := rfl
@[simp] theorem State.refuse_lots (i : StationId) (tag : Byte) (why : Reason) : (s.refuse i tag why).lots = s.lots := rfl
@[simp] theorem State.refuse_plans (i : StationId) (tag : Byte) (why : Reason) : (s.refuse i tag why).plans = s.plans := rfl
@[simp] theorem State.refuse_slots (i : StationId) (tag : Byte) (why : Reason) : (s.refuse i tag why).slots = s.slots := rfl
@[simp] theorem State.refuse_classes (i : StationId) (tag : Byte) (why : Reason) : (s.refuse i tag why).classes = s.classes := rfl
@[simp] theorem State.refuse_lastGranted (i : StationId) (tag : Byte) (why : Reason) : (s.refuse i tag why).lastGranted = s.lastGranted := rfl
@[simp] theorem State.refuse_mem (i : StationId) (tag : Byte) (why : Reason) : (s.refuse i tag why).mem = s.mem := rfl
@[simp] theorem State.refuse_corrected (i : StationId) (tag : Byte) (why : Reason) : (s.refuse i tag why).corrected = s.corrected := rfl
@[simp] theorem State.refuse_rules (i : StationId) (tag : Byte) (why : Reason) : (s.refuse i tag why).rules = s.rules := rfl
@[simp] theorem State.refuse_tripped (i : StationId) (tag : Byte) (why : Reason) : (s.refuse i tag why).tripped = s.tripped := rfl
@[simp] theorem State.refuse_alarms (i : StationId) (tag : Byte) (why : Reason) : (s.refuse i tag why).alarms = s.alarms := rfl
@[simp] theorem State.refuse_cal (i : StationId) (tag : Byte) (why : Reason) : (s.refuse i tag why).cal = s.cal := rfl
@[simp] theorem State.refuse_overflow (i : StationId) (tag : Byte) (why : Reason) : (s.refuse i tag why).overflow = s.overflow := rfl
@[simp] theorem State.refuse_mex (i : StationId) (tag : Byte) (why : Reason) : (s.refuse i tag why).mex = s.mex := rfl

/-! ### State.setSlot -/

@[simp] theorem State.setSlot_pending (n : SlotId) (w : Option Wafer) : (s.setSlot n w).pending = s.pending := rfl
@[simp] theorem State.setSlot_rst (n : SlotId) (w : Option Wafer) : (s.setSlot n w).rst = s.rst := rfl
@[simp] theorem State.setSlot_hostRx (n : SlotId) (w : Option Wafer) : (s.setSlot n w).hostRx = s.hostRx := rfl
@[simp] theorem State.setSlot_requests (n : SlotId) (w : Option Wafer) : (s.setSlot n w).requests = s.requests := rfl
@[simp] theorem State.setSlot_inProgress (n : SlotId) (w : Option Wafer) : (s.setSlot n w).inProgress = s.inProgress := rfl
@[simp] theorem State.setSlot_ready (n : SlotId) (w : Option Wafer) : (s.setSlot n w).ready = s.ready := rfl
@[simp] theorem State.setSlot_hostLine (n : SlotId) (w : Option Wafer) : (s.setSlot n w).hostLine = s.hostLine := rfl
@[simp] theorem State.setSlot_causes (n : SlotId) (w : Option Wafer) : (s.setSlot n w).causes = s.causes := rfl
@[simp] theorem State.setSlot_lastReset (n : SlotId) (w : Option Wafer) : (s.setSlot n w).lastReset = s.lastReset := rfl
@[simp] theorem State.setSlot_lots (n : SlotId) (w : Option Wafer) : (s.setSlot n w).lots = s.lots := rfl
@[simp] theorem State.setSlot_plans (n : SlotId) (w : Option Wafer) : (s.setSlot n w).plans = s.plans := rfl
@[simp] theorem State.setSlot_classes (n : SlotId) (w : Option Wafer) : (s.setSlot n w).classes = s.classes := rfl
@[simp] theorem State.setSlot_stations (n : SlotId) (w : Option Wafer) : (s.setSlot n w).stations = s.stations := rfl
@[simp] theorem State.setSlot_lastGranted (n : SlotId) (w : Option Wafer) : (s.setSlot n w).lastGranted = s.lastGranted := rfl
@[simp] theorem State.setSlot_mem (n : SlotId) (w : Option Wafer) : (s.setSlot n w).mem = s.mem := rfl
@[simp] theorem State.setSlot_corrected (n : SlotId) (w : Option Wafer) : (s.setSlot n w).corrected = s.corrected := rfl
@[simp] theorem State.setSlot_rules (n : SlotId) (w : Option Wafer) : (s.setSlot n w).rules = s.rules := rfl
@[simp] theorem State.setSlot_tripped (n : SlotId) (w : Option Wafer) : (s.setSlot n w).tripped = s.tripped := rfl
@[simp] theorem State.setSlot_alarms (n : SlotId) (w : Option Wafer) : (s.setSlot n w).alarms = s.alarms := rfl
@[simp] theorem State.setSlot_cal (n : SlotId) (w : Option Wafer) : (s.setSlot n w).cal = s.cal := rfl
@[simp] theorem State.setSlot_overflow (n : SlotId) (w : Option Wafer) : (s.setSlot n w).overflow = s.overflow := rfl
@[simp] theorem State.setSlot_mex (n : SlotId) (w : Option Wafer) : (s.setSlot n w).mex = s.mex := rfl

/-! ### State.modWafer -/

@[simp] theorem State.modWafer_pending (n : SlotId) (f : Wafer → Wafer) : (s.modWafer n f).pending = s.pending := rfl
@[simp] theorem State.modWafer_rst (n : SlotId) (f : Wafer → Wafer) : (s.modWafer n f).rst = s.rst := rfl
@[simp] theorem State.modWafer_hostRx (n : SlotId) (f : Wafer → Wafer) : (s.modWafer n f).hostRx = s.hostRx := rfl
@[simp] theorem State.modWafer_requests (n : SlotId) (f : Wafer → Wafer) : (s.modWafer n f).requests = s.requests := rfl
@[simp] theorem State.modWafer_inProgress (n : SlotId) (f : Wafer → Wafer) : (s.modWafer n f).inProgress = s.inProgress := rfl
@[simp] theorem State.modWafer_ready (n : SlotId) (f : Wafer → Wafer) : (s.modWafer n f).ready = s.ready := rfl
@[simp] theorem State.modWafer_hostLine (n : SlotId) (f : Wafer → Wafer) : (s.modWafer n f).hostLine = s.hostLine := rfl
@[simp] theorem State.modWafer_causes (n : SlotId) (f : Wafer → Wafer) : (s.modWafer n f).causes = s.causes := rfl
@[simp] theorem State.modWafer_lastReset (n : SlotId) (f : Wafer → Wafer) : (s.modWafer n f).lastReset = s.lastReset := rfl
@[simp] theorem State.modWafer_lots (n : SlotId) (f : Wafer → Wafer) : (s.modWafer n f).lots = s.lots := rfl
@[simp] theorem State.modWafer_plans (n : SlotId) (f : Wafer → Wafer) : (s.modWafer n f).plans = s.plans := rfl
@[simp] theorem State.modWafer_classes (n : SlotId) (f : Wafer → Wafer) : (s.modWafer n f).classes = s.classes := rfl
@[simp] theorem State.modWafer_stations (n : SlotId) (f : Wafer → Wafer) : (s.modWafer n f).stations = s.stations := rfl
@[simp] theorem State.modWafer_lastGranted (n : SlotId) (f : Wafer → Wafer) : (s.modWafer n f).lastGranted = s.lastGranted := rfl
@[simp] theorem State.modWafer_mem (n : SlotId) (f : Wafer → Wafer) : (s.modWafer n f).mem = s.mem := rfl
@[simp] theorem State.modWafer_corrected (n : SlotId) (f : Wafer → Wafer) : (s.modWafer n f).corrected = s.corrected := rfl
@[simp] theorem State.modWafer_rules (n : SlotId) (f : Wafer → Wafer) : (s.modWafer n f).rules = s.rules := rfl
@[simp] theorem State.modWafer_tripped (n : SlotId) (f : Wafer → Wafer) : (s.modWafer n f).tripped = s.tripped := rfl
@[simp] theorem State.modWafer_alarms (n : SlotId) (f : Wafer → Wafer) : (s.modWafer n f).alarms = s.alarms := rfl
@[simp] theorem State.modWafer_cal (n : SlotId) (f : Wafer → Wafer) : (s.modWafer n f).cal = s.cal := rfl
@[simp] theorem State.modWafer_overflow (n : SlotId) (f : Wafer → Wafer) : (s.modWafer n f).overflow = s.overflow := rfl
@[simp] theorem State.modWafer_mex (n : SlotId) (f : Wafer → Wafer) : (s.modWafer n f).mex = s.mex := rfl

/-! ### State.modAcc -/

@[simp] theorem State.modAcc_pending (n : SlotId) (f : Acc → Acc) : (s.modAcc n f).pending = s.pending := rfl
@[simp] theorem State.modAcc_rst (n : SlotId) (f : Acc → Acc) : (s.modAcc n f).rst = s.rst := rfl
@[simp] theorem State.modAcc_hostRx (n : SlotId) (f : Acc → Acc) : (s.modAcc n f).hostRx = s.hostRx := rfl
@[simp] theorem State.modAcc_requests (n : SlotId) (f : Acc → Acc) : (s.modAcc n f).requests = s.requests := rfl
@[simp] theorem State.modAcc_inProgress (n : SlotId) (f : Acc → Acc) : (s.modAcc n f).inProgress = s.inProgress := rfl
@[simp] theorem State.modAcc_ready (n : SlotId) (f : Acc → Acc) : (s.modAcc n f).ready = s.ready := rfl
@[simp] theorem State.modAcc_hostLine (n : SlotId) (f : Acc → Acc) : (s.modAcc n f).hostLine = s.hostLine := rfl
@[simp] theorem State.modAcc_causes (n : SlotId) (f : Acc → Acc) : (s.modAcc n f).causes = s.causes := rfl
@[simp] theorem State.modAcc_lastReset (n : SlotId) (f : Acc → Acc) : (s.modAcc n f).lastReset = s.lastReset := rfl
@[simp] theorem State.modAcc_lots (n : SlotId) (f : Acc → Acc) : (s.modAcc n f).lots = s.lots := rfl
@[simp] theorem State.modAcc_plans (n : SlotId) (f : Acc → Acc) : (s.modAcc n f).plans = s.plans := rfl
@[simp] theorem State.modAcc_classes (n : SlotId) (f : Acc → Acc) : (s.modAcc n f).classes = s.classes := rfl
@[simp] theorem State.modAcc_stations (n : SlotId) (f : Acc → Acc) : (s.modAcc n f).stations = s.stations := rfl
@[simp] theorem State.modAcc_lastGranted (n : SlotId) (f : Acc → Acc) : (s.modAcc n f).lastGranted = s.lastGranted := rfl
@[simp] theorem State.modAcc_mem (n : SlotId) (f : Acc → Acc) : (s.modAcc n f).mem = s.mem := rfl
@[simp] theorem State.modAcc_corrected (n : SlotId) (f : Acc → Acc) : (s.modAcc n f).corrected = s.corrected := rfl
@[simp] theorem State.modAcc_rules (n : SlotId) (f : Acc → Acc) : (s.modAcc n f).rules = s.rules := rfl
@[simp] theorem State.modAcc_tripped (n : SlotId) (f : Acc → Acc) : (s.modAcc n f).tripped = s.tripped := rfl
@[simp] theorem State.modAcc_alarms (n : SlotId) (f : Acc → Acc) : (s.modAcc n f).alarms = s.alarms := rfl
@[simp] theorem State.modAcc_cal (n : SlotId) (f : Acc → Acc) : (s.modAcc n f).cal = s.cal := rfl
@[simp] theorem State.modAcc_overflow (n : SlotId) (f : Acc → Acc) : (s.modAcc n f).overflow = s.overflow := rfl
@[simp] theorem State.modAcc_mex (n : SlotId) (f : Acc → Acc) : (s.modAcc n f).mex = s.mex := rfl

/-! ### State.setLot -/

@[simp] theorem State.setLot_pending (e : Fin 16) (l : Option Lot) : (s.setLot e l).pending = s.pending := rfl
@[simp] theorem State.setLot_rst (e : Fin 16) (l : Option Lot) : (s.setLot e l).rst = s.rst := rfl
@[simp] theorem State.setLot_hostRx (e : Fin 16) (l : Option Lot) : (s.setLot e l).hostRx = s.hostRx := rfl
@[simp] theorem State.setLot_requests (e : Fin 16) (l : Option Lot) : (s.setLot e l).requests = s.requests := rfl
@[simp] theorem State.setLot_inProgress (e : Fin 16) (l : Option Lot) : (s.setLot e l).inProgress = s.inProgress := rfl
@[simp] theorem State.setLot_ready (e : Fin 16) (l : Option Lot) : (s.setLot e l).ready = s.ready := rfl
@[simp] theorem State.setLot_hostLine (e : Fin 16) (l : Option Lot) : (s.setLot e l).hostLine = s.hostLine := rfl
@[simp] theorem State.setLot_causes (e : Fin 16) (l : Option Lot) : (s.setLot e l).causes = s.causes := rfl
@[simp] theorem State.setLot_lastReset (e : Fin 16) (l : Option Lot) : (s.setLot e l).lastReset = s.lastReset := rfl
@[simp] theorem State.setLot_plans (e : Fin 16) (l : Option Lot) : (s.setLot e l).plans = s.plans := rfl
@[simp] theorem State.setLot_slots (e : Fin 16) (l : Option Lot) : (s.setLot e l).slots = s.slots := rfl
@[simp] theorem State.setLot_classes (e : Fin 16) (l : Option Lot) : (s.setLot e l).classes = s.classes := rfl
@[simp] theorem State.setLot_stations (e : Fin 16) (l : Option Lot) : (s.setLot e l).stations = s.stations := rfl
@[simp] theorem State.setLot_lastGranted (e : Fin 16) (l : Option Lot) : (s.setLot e l).lastGranted = s.lastGranted := rfl
@[simp] theorem State.setLot_mem (e : Fin 16) (l : Option Lot) : (s.setLot e l).mem = s.mem := rfl
@[simp] theorem State.setLot_corrected (e : Fin 16) (l : Option Lot) : (s.setLot e l).corrected = s.corrected := rfl
@[simp] theorem State.setLot_rules (e : Fin 16) (l : Option Lot) : (s.setLot e l).rules = s.rules := rfl
@[simp] theorem State.setLot_tripped (e : Fin 16) (l : Option Lot) : (s.setLot e l).tripped = s.tripped := rfl
@[simp] theorem State.setLot_alarms (e : Fin 16) (l : Option Lot) : (s.setLot e l).alarms = s.alarms := rfl
@[simp] theorem State.setLot_cal (e : Fin 16) (l : Option Lot) : (s.setLot e l).cal = s.cal := rfl
@[simp] theorem State.setLot_overflow (e : Fin 16) (l : Option Lot) : (s.setLot e l).overflow = s.overflow := rfl
@[simp] theorem State.setLot_mex (e : Fin 16) (l : Option Lot) : (s.setLot e l).mex = s.mex := rfl

/-! ### State.modLot -/

@[simp] theorem State.modLot_pending (e : Fin 16) (f : Lot → Lot) : (s.modLot e f).pending = s.pending := rfl
@[simp] theorem State.modLot_rst (e : Fin 16) (f : Lot → Lot) : (s.modLot e f).rst = s.rst := rfl
@[simp] theorem State.modLot_hostRx (e : Fin 16) (f : Lot → Lot) : (s.modLot e f).hostRx = s.hostRx := rfl
@[simp] theorem State.modLot_requests (e : Fin 16) (f : Lot → Lot) : (s.modLot e f).requests = s.requests := rfl
@[simp] theorem State.modLot_inProgress (e : Fin 16) (f : Lot → Lot) : (s.modLot e f).inProgress = s.inProgress := rfl
@[simp] theorem State.modLot_ready (e : Fin 16) (f : Lot → Lot) : (s.modLot e f).ready = s.ready := rfl
@[simp] theorem State.modLot_hostLine (e : Fin 16) (f : Lot → Lot) : (s.modLot e f).hostLine = s.hostLine := rfl
@[simp] theorem State.modLot_causes (e : Fin 16) (f : Lot → Lot) : (s.modLot e f).causes = s.causes := rfl
@[simp] theorem State.modLot_lastReset (e : Fin 16) (f : Lot → Lot) : (s.modLot e f).lastReset = s.lastReset := rfl
@[simp] theorem State.modLot_plans (e : Fin 16) (f : Lot → Lot) : (s.modLot e f).plans = s.plans := rfl
@[simp] theorem State.modLot_slots (e : Fin 16) (f : Lot → Lot) : (s.modLot e f).slots = s.slots := rfl
@[simp] theorem State.modLot_classes (e : Fin 16) (f : Lot → Lot) : (s.modLot e f).classes = s.classes := rfl
@[simp] theorem State.modLot_stations (e : Fin 16) (f : Lot → Lot) : (s.modLot e f).stations = s.stations := rfl
@[simp] theorem State.modLot_lastGranted (e : Fin 16) (f : Lot → Lot) : (s.modLot e f).lastGranted = s.lastGranted := rfl
@[simp] theorem State.modLot_mem (e : Fin 16) (f : Lot → Lot) : (s.modLot e f).mem = s.mem := rfl
@[simp] theorem State.modLot_corrected (e : Fin 16) (f : Lot → Lot) : (s.modLot e f).corrected = s.corrected := rfl
@[simp] theorem State.modLot_rules (e : Fin 16) (f : Lot → Lot) : (s.modLot e f).rules = s.rules := rfl
@[simp] theorem State.modLot_tripped (e : Fin 16) (f : Lot → Lot) : (s.modLot e f).tripped = s.tripped := rfl
@[simp] theorem State.modLot_alarms (e : Fin 16) (f : Lot → Lot) : (s.modLot e f).alarms = s.alarms := rfl
@[simp] theorem State.modLot_cal (e : Fin 16) (f : Lot → Lot) : (s.modLot e f).cal = s.cal := rfl
@[simp] theorem State.modLot_overflow (e : Fin 16) (f : Lot → Lot) : (s.modLot e f).overflow = s.overflow := rfl
@[simp] theorem State.modLot_mex (e : Fin 16) (f : Lot → Lot) : (s.modLot e f).mex = s.mex := rfl

/-! ### State.makeReady -/

@[simp] theorem State.makeReady_pending (f : ReadyFrame) : (s.makeReady f).pending = s.pending := rfl
@[simp] theorem State.makeReady_rst (f : ReadyFrame) : (s.makeReady f).rst = s.rst := rfl
@[simp] theorem State.makeReady_hostRx (f : ReadyFrame) : (s.makeReady f).hostRx = s.hostRx := rfl
@[simp] theorem State.makeReady_requests (f : ReadyFrame) : (s.makeReady f).requests = s.requests := rfl
@[simp] theorem State.makeReady_inProgress (f : ReadyFrame) : (s.makeReady f).inProgress = s.inProgress := rfl
@[simp] theorem State.makeReady_hostLine (f : ReadyFrame) : (s.makeReady f).hostLine = s.hostLine := rfl
@[simp] theorem State.makeReady_causes (f : ReadyFrame) : (s.makeReady f).causes = s.causes := rfl
@[simp] theorem State.makeReady_lastReset (f : ReadyFrame) : (s.makeReady f).lastReset = s.lastReset := rfl
@[simp] theorem State.makeReady_lots (f : ReadyFrame) : (s.makeReady f).lots = s.lots := rfl
@[simp] theorem State.makeReady_plans (f : ReadyFrame) : (s.makeReady f).plans = s.plans := rfl
@[simp] theorem State.makeReady_slots (f : ReadyFrame) : (s.makeReady f).slots = s.slots := rfl
@[simp] theorem State.makeReady_classes (f : ReadyFrame) : (s.makeReady f).classes = s.classes := rfl
@[simp] theorem State.makeReady_stations (f : ReadyFrame) : (s.makeReady f).stations = s.stations := rfl
@[simp] theorem State.makeReady_lastGranted (f : ReadyFrame) : (s.makeReady f).lastGranted = s.lastGranted := rfl
@[simp] theorem State.makeReady_mem (f : ReadyFrame) : (s.makeReady f).mem = s.mem := rfl
@[simp] theorem State.makeReady_corrected (f : ReadyFrame) : (s.makeReady f).corrected = s.corrected := rfl
@[simp] theorem State.makeReady_rules (f : ReadyFrame) : (s.makeReady f).rules = s.rules := rfl
@[simp] theorem State.makeReady_tripped (f : ReadyFrame) : (s.makeReady f).tripped = s.tripped := rfl
@[simp] theorem State.makeReady_alarms (f : ReadyFrame) : (s.makeReady f).alarms = s.alarms := rfl
@[simp] theorem State.makeReady_cal (f : ReadyFrame) : (s.makeReady f).cal = s.cal := rfl
@[simp] theorem State.makeReady_overflow (f : ReadyFrame) : (s.makeReady f).overflow = s.overflow := rfl
@[simp] theorem State.makeReady_mex (f : ReadyFrame) : (s.makeReady f).mex = s.mex := rfl

/-! ### State.answer -/

@[simp] theorem State.answer_pending (kind tag : Byte) (st : Status) (body : List Byte) : (s.answer kind tag st body).pending = s.pending := rfl
@[simp] theorem State.answer_rst (kind tag : Byte) (st : Status) (body : List Byte) : (s.answer kind tag st body).rst = s.rst := rfl
@[simp] theorem State.answer_hostRx (kind tag : Byte) (st : Status) (body : List Byte) : (s.answer kind tag st body).hostRx = s.hostRx := rfl
@[simp] theorem State.answer_requests (kind tag : Byte) (st : Status) (body : List Byte) : (s.answer kind tag st body).requests = s.requests := rfl
@[simp] theorem State.answer_inProgress (kind tag : Byte) (st : Status) (body : List Byte) : (s.answer kind tag st body).inProgress = s.inProgress := rfl
@[simp] theorem State.answer_hostLine (kind tag : Byte) (st : Status) (body : List Byte) : (s.answer kind tag st body).hostLine = s.hostLine := rfl
@[simp] theorem State.answer_causes (kind tag : Byte) (st : Status) (body : List Byte) : (s.answer kind tag st body).causes = s.causes := rfl
@[simp] theorem State.answer_lastReset (kind tag : Byte) (st : Status) (body : List Byte) : (s.answer kind tag st body).lastReset = s.lastReset := rfl
@[simp] theorem State.answer_lots (kind tag : Byte) (st : Status) (body : List Byte) : (s.answer kind tag st body).lots = s.lots := rfl
@[simp] theorem State.answer_plans (kind tag : Byte) (st : Status) (body : List Byte) : (s.answer kind tag st body).plans = s.plans := rfl
@[simp] theorem State.answer_slots (kind tag : Byte) (st : Status) (body : List Byte) : (s.answer kind tag st body).slots = s.slots := rfl
@[simp] theorem State.answer_classes (kind tag : Byte) (st : Status) (body : List Byte) : (s.answer kind tag st body).classes = s.classes := rfl
@[simp] theorem State.answer_stations (kind tag : Byte) (st : Status) (body : List Byte) : (s.answer kind tag st body).stations = s.stations := rfl
@[simp] theorem State.answer_lastGranted (kind tag : Byte) (st : Status) (body : List Byte) : (s.answer kind tag st body).lastGranted = s.lastGranted := rfl
@[simp] theorem State.answer_mem (kind tag : Byte) (st : Status) (body : List Byte) : (s.answer kind tag st body).mem = s.mem := rfl
@[simp] theorem State.answer_corrected (kind tag : Byte) (st : Status) (body : List Byte) : (s.answer kind tag st body).corrected = s.corrected := rfl
@[simp] theorem State.answer_rules (kind tag : Byte) (st : Status) (body : List Byte) : (s.answer kind tag st body).rules = s.rules := rfl
@[simp] theorem State.answer_tripped (kind tag : Byte) (st : Status) (body : List Byte) : (s.answer kind tag st body).tripped = s.tripped := rfl
@[simp] theorem State.answer_alarms (kind tag : Byte) (st : Status) (body : List Byte) : (s.answer kind tag st body).alarms = s.alarms := rfl
@[simp] theorem State.answer_cal (kind tag : Byte) (st : Status) (body : List Byte) : (s.answer kind tag st body).cal = s.cal := rfl
@[simp] theorem State.answer_overflow (kind tag : Byte) (st : Status) (body : List Byte) : (s.answer kind tag st body).overflow = s.overflow := rfl
@[simp] theorem State.answer_mex (kind tag : Byte) (st : Status) (body : List Byte) : (s.answer kind tag st body).mex = s.mex := rfl

/-! ### State.ok -/

@[simp] theorem State.ok_pending (r : Frame) (body : List Byte) : (s.ok r body).pending = s.pending := rfl
@[simp] theorem State.ok_rst (r : Frame) (body : List Byte) : (s.ok r body).rst = s.rst := rfl
@[simp] theorem State.ok_hostRx (r : Frame) (body : List Byte) : (s.ok r body).hostRx = s.hostRx := rfl
@[simp] theorem State.ok_requests (r : Frame) (body : List Byte) : (s.ok r body).requests = s.requests := rfl
@[simp] theorem State.ok_inProgress (r : Frame) (body : List Byte) : (s.ok r body).inProgress = s.inProgress := rfl
@[simp] theorem State.ok_hostLine (r : Frame) (body : List Byte) : (s.ok r body).hostLine = s.hostLine := rfl
@[simp] theorem State.ok_causes (r : Frame) (body : List Byte) : (s.ok r body).causes = s.causes := rfl
@[simp] theorem State.ok_lastReset (r : Frame) (body : List Byte) : (s.ok r body).lastReset = s.lastReset := rfl
@[simp] theorem State.ok_lots (r : Frame) (body : List Byte) : (s.ok r body).lots = s.lots := rfl
@[simp] theorem State.ok_plans (r : Frame) (body : List Byte) : (s.ok r body).plans = s.plans := rfl
@[simp] theorem State.ok_slots (r : Frame) (body : List Byte) : (s.ok r body).slots = s.slots := rfl
@[simp] theorem State.ok_classes (r : Frame) (body : List Byte) : (s.ok r body).classes = s.classes := rfl
@[simp] theorem State.ok_stations (r : Frame) (body : List Byte) : (s.ok r body).stations = s.stations := rfl
@[simp] theorem State.ok_lastGranted (r : Frame) (body : List Byte) : (s.ok r body).lastGranted = s.lastGranted := rfl
@[simp] theorem State.ok_mem (r : Frame) (body : List Byte) : (s.ok r body).mem = s.mem := rfl
@[simp] theorem State.ok_corrected (r : Frame) (body : List Byte) : (s.ok r body).corrected = s.corrected := rfl
@[simp] theorem State.ok_rules (r : Frame) (body : List Byte) : (s.ok r body).rules = s.rules := rfl
@[simp] theorem State.ok_tripped (r : Frame) (body : List Byte) : (s.ok r body).tripped = s.tripped := rfl
@[simp] theorem State.ok_alarms (r : Frame) (body : List Byte) : (s.ok r body).alarms = s.alarms := rfl
@[simp] theorem State.ok_cal (r : Frame) (body : List Byte) : (s.ok r body).cal = s.cal := rfl
@[simp] theorem State.ok_overflow (r : Frame) (body : List Byte) : (s.ok r body).overflow = s.overflow := rfl
@[simp] theorem State.ok_mex (r : Frame) (body : List Byte) : (s.ok r body).mex = s.mex := rfl

/-! ### State.status -/

@[simp] theorem State.status_pending (r : Frame) (st : Status) : (s.status r st).pending = s.pending := rfl
@[simp] theorem State.status_rst (r : Frame) (st : Status) : (s.status r st).rst = s.rst := rfl
@[simp] theorem State.status_hostRx (r : Frame) (st : Status) : (s.status r st).hostRx = s.hostRx := rfl
@[simp] theorem State.status_requests (r : Frame) (st : Status) : (s.status r st).requests = s.requests := rfl
@[simp] theorem State.status_inProgress (r : Frame) (st : Status) : (s.status r st).inProgress = s.inProgress := rfl
@[simp] theorem State.status_hostLine (r : Frame) (st : Status) : (s.status r st).hostLine = s.hostLine := rfl
@[simp] theorem State.status_causes (r : Frame) (st : Status) : (s.status r st).causes = s.causes := rfl
@[simp] theorem State.status_lastReset (r : Frame) (st : Status) : (s.status r st).lastReset = s.lastReset := rfl
@[simp] theorem State.status_lots (r : Frame) (st : Status) : (s.status r st).lots = s.lots := rfl
@[simp] theorem State.status_plans (r : Frame) (st : Status) : (s.status r st).plans = s.plans := rfl
@[simp] theorem State.status_slots (r : Frame) (st : Status) : (s.status r st).slots = s.slots := rfl
@[simp] theorem State.status_classes (r : Frame) (st : Status) : (s.status r st).classes = s.classes := rfl
@[simp] theorem State.status_stations (r : Frame) (st : Status) : (s.status r st).stations = s.stations := rfl
@[simp] theorem State.status_lastGranted (r : Frame) (st : Status) : (s.status r st).lastGranted = s.lastGranted := rfl
@[simp] theorem State.status_mem (r : Frame) (st : Status) : (s.status r st).mem = s.mem := rfl
@[simp] theorem State.status_corrected (r : Frame) (st : Status) : (s.status r st).corrected = s.corrected := rfl
@[simp] theorem State.status_rules (r : Frame) (st : Status) : (s.status r st).rules = s.rules := rfl
@[simp] theorem State.status_tripped (r : Frame) (st : Status) : (s.status r st).tripped = s.tripped := rfl
@[simp] theorem State.status_alarms (r : Frame) (st : Status) : (s.status r st).alarms = s.alarms := rfl
@[simp] theorem State.status_cal (r : Frame) (st : Status) : (s.status r st).cal = s.cal := rfl
@[simp] theorem State.status_overflow (r : Frame) (st : Status) : (s.status r st).overflow = s.overflow := rfl
@[simp] theorem State.status_mex (r : Frame) (st : Status) : (s.status r st).mex = s.mex := rfl

/-! ### State.dropCause -/

@[simp] theorem State.dropCause_pending (c : Cause) : (s.dropCause c).pending = s.pending := rfl
@[simp] theorem State.dropCause_rst (c : Cause) : (s.dropCause c).rst = s.rst := rfl
@[simp] theorem State.dropCause_hostRx (c : Cause) : (s.dropCause c).hostRx = s.hostRx := rfl
@[simp] theorem State.dropCause_requests (c : Cause) : (s.dropCause c).requests = s.requests := rfl
@[simp] theorem State.dropCause_inProgress (c : Cause) : (s.dropCause c).inProgress = s.inProgress := rfl
@[simp] theorem State.dropCause_ready (c : Cause) : (s.dropCause c).ready = s.ready := rfl
@[simp] theorem State.dropCause_hostLine (c : Cause) : (s.dropCause c).hostLine = s.hostLine := rfl
@[simp] theorem State.dropCause_lastReset (c : Cause) : (s.dropCause c).lastReset = s.lastReset := rfl
@[simp] theorem State.dropCause_lots (c : Cause) : (s.dropCause c).lots = s.lots := rfl
@[simp] theorem State.dropCause_plans (c : Cause) : (s.dropCause c).plans = s.plans := rfl
@[simp] theorem State.dropCause_slots (c : Cause) : (s.dropCause c).slots = s.slots := rfl
@[simp] theorem State.dropCause_classes (c : Cause) : (s.dropCause c).classes = s.classes := rfl
@[simp] theorem State.dropCause_stations (c : Cause) : (s.dropCause c).stations = s.stations := rfl
@[simp] theorem State.dropCause_lastGranted (c : Cause) : (s.dropCause c).lastGranted = s.lastGranted := rfl
@[simp] theorem State.dropCause_mem (c : Cause) : (s.dropCause c).mem = s.mem := rfl
@[simp] theorem State.dropCause_corrected (c : Cause) : (s.dropCause c).corrected = s.corrected := rfl
@[simp] theorem State.dropCause_rules (c : Cause) : (s.dropCause c).rules = s.rules := rfl
@[simp] theorem State.dropCause_tripped (c : Cause) : (s.dropCause c).tripped = s.tripped := rfl
@[simp] theorem State.dropCause_alarms (c : Cause) : (s.dropCause c).alarms = s.alarms := rfl
@[simp] theorem State.dropCause_cal (c : Cause) : (s.dropCause c).cal = s.cal := rfl
@[simp] theorem State.dropCause_overflow (c : Cause) : (s.dropCause c).overflow = s.overflow := rfl
@[simp] theorem State.dropCause_mex (c : Cause) : (s.dropCause c).mex = s.mex := rfl

/-! ### State.arm -/

@[simp] theorem State.arm_pending (which : Watch → Bool) : (s.arm which).pending = s.pending := rfl
@[simp] theorem State.arm_rst (which : Watch → Bool) : (s.arm which).rst = s.rst := rfl
@[simp] theorem State.arm_hostRx (which : Watch → Bool) : (s.arm which).hostRx = s.hostRx := rfl
@[simp] theorem State.arm_requests (which : Watch → Bool) : (s.arm which).requests = s.requests := rfl
@[simp] theorem State.arm_inProgress (which : Watch → Bool) : (s.arm which).inProgress = s.inProgress := rfl
@[simp] theorem State.arm_ready (which : Watch → Bool) : (s.arm which).ready = s.ready := rfl
@[simp] theorem State.arm_hostLine (which : Watch → Bool) : (s.arm which).hostLine = s.hostLine := rfl
@[simp] theorem State.arm_causes (which : Watch → Bool) : (s.arm which).causes = s.causes := rfl
@[simp] theorem State.arm_lastReset (which : Watch → Bool) : (s.arm which).lastReset = s.lastReset := rfl
@[simp] theorem State.arm_lots (which : Watch → Bool) : (s.arm which).lots = s.lots := rfl
@[simp] theorem State.arm_plans (which : Watch → Bool) : (s.arm which).plans = s.plans := rfl
@[simp] theorem State.arm_slots (which : Watch → Bool) : (s.arm which).slots = s.slots := rfl
@[simp] theorem State.arm_classes (which : Watch → Bool) : (s.arm which).classes = s.classes := rfl
@[simp] theorem State.arm_stations (which : Watch → Bool) : (s.arm which).stations = s.stations := rfl
@[simp] theorem State.arm_lastGranted (which : Watch → Bool) : (s.arm which).lastGranted = s.lastGranted := rfl
@[simp] theorem State.arm_mem (which : Watch → Bool) : (s.arm which).mem = s.mem := rfl
@[simp] theorem State.arm_corrected (which : Watch → Bool) : (s.arm which).corrected = s.corrected := rfl
@[simp] theorem State.arm_rules (which : Watch → Bool) : (s.arm which).rules = s.rules := rfl
@[simp] theorem State.arm_alarms (which : Watch → Bool) : (s.arm which).alarms = s.alarms := rfl
@[simp] theorem State.arm_cal (which : Watch → Bool) : (s.arm which).cal = s.cal := rfl
@[simp] theorem State.arm_overflow (which : Watch → Bool) : (s.arm which).overflow = s.overflow := rfl
@[simp] theorem State.arm_mex (which : Watch → Bool) : (s.arm which).mex = s.mex := rfl

/-! ### State.writeCell -/

@[simp] theorem State.writeCell_pending (n : SlotId) (k : Nat) (c : CellRecord) : (s.writeCell n k c).pending = s.pending := rfl
@[simp] theorem State.writeCell_rst (n : SlotId) (k : Nat) (c : CellRecord) : (s.writeCell n k c).rst = s.rst := rfl
@[simp] theorem State.writeCell_hostRx (n : SlotId) (k : Nat) (c : CellRecord) : (s.writeCell n k c).hostRx = s.hostRx := rfl
@[simp] theorem State.writeCell_requests (n : SlotId) (k : Nat) (c : CellRecord) : (s.writeCell n k c).requests = s.requests := rfl
@[simp] theorem State.writeCell_inProgress (n : SlotId) (k : Nat) (c : CellRecord) : (s.writeCell n k c).inProgress = s.inProgress := rfl
@[simp] theorem State.writeCell_ready (n : SlotId) (k : Nat) (c : CellRecord) : (s.writeCell n k c).ready = s.ready := rfl
@[simp] theorem State.writeCell_hostLine (n : SlotId) (k : Nat) (c : CellRecord) : (s.writeCell n k c).hostLine = s.hostLine := rfl
@[simp] theorem State.writeCell_causes (n : SlotId) (k : Nat) (c : CellRecord) : (s.writeCell n k c).causes = s.causes := rfl
@[simp] theorem State.writeCell_lastReset (n : SlotId) (k : Nat) (c : CellRecord) : (s.writeCell n k c).lastReset = s.lastReset := rfl
@[simp] theorem State.writeCell_lots (n : SlotId) (k : Nat) (c : CellRecord) : (s.writeCell n k c).lots = s.lots := rfl
@[simp] theorem State.writeCell_plans (n : SlotId) (k : Nat) (c : CellRecord) : (s.writeCell n k c).plans = s.plans := rfl
@[simp] theorem State.writeCell_slots (n : SlotId) (k : Nat) (c : CellRecord) : (s.writeCell n k c).slots = s.slots := rfl
@[simp] theorem State.writeCell_classes (n : SlotId) (k : Nat) (c : CellRecord) : (s.writeCell n k c).classes = s.classes := rfl
@[simp] theorem State.writeCell_stations (n : SlotId) (k : Nat) (c : CellRecord) : (s.writeCell n k c).stations = s.stations := rfl
@[simp] theorem State.writeCell_lastGranted (n : SlotId) (k : Nat) (c : CellRecord) : (s.writeCell n k c).lastGranted = s.lastGranted := rfl
@[simp] theorem State.writeCell_corrected (n : SlotId) (k : Nat) (c : CellRecord) : (s.writeCell n k c).corrected = s.corrected := rfl
@[simp] theorem State.writeCell_rules (n : SlotId) (k : Nat) (c : CellRecord) : (s.writeCell n k c).rules = s.rules := rfl
@[simp] theorem State.writeCell_tripped (n : SlotId) (k : Nat) (c : CellRecord) : (s.writeCell n k c).tripped = s.tripped := rfl
@[simp] theorem State.writeCell_alarms (n : SlotId) (k : Nat) (c : CellRecord) : (s.writeCell n k c).alarms = s.alarms := rfl
@[simp] theorem State.writeCell_cal (n : SlotId) (k : Nat) (c : CellRecord) : (s.writeCell n k c).cal = s.cal := rfl
@[simp] theorem State.writeCell_overflow (n : SlotId) (k : Nat) (c : CellRecord) : (s.writeCell n k c).overflow = s.overflow := rfl
@[simp] theorem State.writeCell_mex (n : SlotId) (k : Nat) (c : CellRecord) : (s.writeCell n k c).mex = s.mex := rfl

/-! ### Station.stopped -/

@[simp] theorem Station.stopped_intake (x : Station) : x.stopped.intake = .stopped := rfl
@[simp] theorem Station.stopped_silenceEnds (x : Station) : x.stopped.silenceEnds = true := rfl
@[simp] theorem Station.stopped_staging (x : Station) : x.stopped.staging = x.staging := rfl
@[simp] theorem Station.stopped_priority (x : Station) : x.stopped.priority = x.priority := rfl
@[simp] theorem Station.stopped_timingClass (x : Station) : x.stopped.timingClass = x.timingClass := rfl
@[simp] theorem Station.stopped_badFrames (x : Station) : x.stopped.badFrames = x.badFrames := rfl
@[simp] theorem Station.stopped_silence (x : Station) : x.stopped.silence = x.silence := rfl
@[simp] theorem Station.stopped_transmit (x : Station) : x.stopped.transmit = x.transmit := rfl
@[simp] theorem Station.stopped_line (x : Station) : x.stopped.line = x.line := rfl
@[simp] theorem Station.stopped_rx (x : Station) : x.stopped.rx = x.rx := rfl
@[simp] theorem Station.stopped_binding (x : Station) : x.stopped.binding = x.binding := rfl
@[simp] theorem Station.stopped_group (x : Station) : x.stopped.group = x.group := rfl
@[simp] theorem Station.stopped_consecFail (x : Station) : x.stopped.consecFail = x.consecFail := rfl
@[simp] theorem Station.stopped_consecVoid (x : Station) : x.stopped.consecVoid = x.consecVoid := rfl

/-! ### Reading a station or a slot past an update that leaves it alone -/

@[simp] theorem State.modStation_slot (i : StationId) (f : Station → Station) (m : SlotId) : (s.modStation i f).slot m = s.slot m := rfl
@[simp] theorem State.unbind_slot (i : StationId) (m : SlotId) : (s.unbind i).slot m = s.slot m := rfl
@[simp] theorem State.deliver_slot (i : StationId) (r : StationReply) (m : SlotId) : (s.deliver i r).slot m = s.slot m := rfl
@[simp] theorem State.refuse_slot (i : StationId) (tag : Byte) (why : Reason) (m : SlotId) : (s.refuse i tag why).slot m = s.slot m := rfl
@[simp] theorem State.setSlot_station (n : SlotId) (w : Option Wafer) (j : StationId) : (s.setSlot n w).station j = s.station j := rfl
@[simp] theorem State.modWafer_station (n : SlotId) (f : Wafer → Wafer) (j : StationId) : (s.modWafer n f).station j = s.station j := rfl
@[simp] theorem State.modAcc_station (n : SlotId) (f : Acc → Acc) (j : StationId) : (s.modAcc n f).station j = s.station j := rfl
@[simp] theorem State.setLot_station (e : Fin 16) (l : Option Lot) (j : StationId) : (s.setLot e l).station j = s.station j := rfl
@[simp] theorem State.setLot_slot (e : Fin 16) (l : Option Lot) (m : SlotId) : (s.setLot e l).slot m = s.slot m := rfl
@[simp] theorem State.modLot_station (e : Fin 16) (f : Lot → Lot) (j : StationId) : (s.modLot e f).station j = s.station j := rfl
@[simp] theorem State.modLot_slot (e : Fin 16) (f : Lot → Lot) (m : SlotId) : (s.modLot e f).slot m = s.slot m := rfl
@[simp] theorem State.makeReady_station (f : ReadyFrame) (j : StationId) : (s.makeReady f).station j = s.station j := rfl
@[simp] theorem State.makeReady_slot (f : ReadyFrame) (m : SlotId) : (s.makeReady f).slot m = s.slot m := rfl
@[simp] theorem State.answer_station (kind tag : Byte) (st : Status) (body : List Byte) (j : StationId) : (s.answer kind tag st body).station j = s.station j := rfl
@[simp] theorem State.answer_slot (kind tag : Byte) (st : Status) (body : List Byte) (m : SlotId) : (s.answer kind tag st body).slot m = s.slot m := rfl
@[simp] theorem State.ok_station (r : Frame) (body : List Byte) (j : StationId) : (s.ok r body).station j = s.station j := rfl
@[simp] theorem State.ok_slot (r : Frame) (body : List Byte) (m : SlotId) : (s.ok r body).slot m = s.slot m := rfl
@[simp] theorem State.status_station (r : Frame) (st : Status) (j : StationId) : (s.status r st).station j = s.station j := rfl
@[simp] theorem State.status_slot (r : Frame) (st : Status) (m : SlotId) : (s.status r st).slot m = s.slot m := rfl
@[simp] theorem State.dropCause_station (c : Cause) (j : StationId) : (s.dropCause c).station j = s.station j := rfl
@[simp] theorem State.dropCause_slot (c : Cause) (m : SlotId) : (s.dropCause c).slot m = s.slot m := rfl
@[simp] theorem State.arm_station (which : Watch → Bool) (j : StationId) : (s.arm which).station j = s.station j := rfl
@[simp] theorem State.arm_slot (which : Watch → Bool) (m : SlotId) : (s.arm which).slot m = s.slot m := rfl
@[simp] theorem State.writeCell_station (n : SlotId) (k : Nat) (c : CellRecord) (j : StationId) : (s.writeCell n k c).station j = s.station j := rfl
@[simp] theorem State.writeCell_slot (n : SlotId) (k : Nat) (c : CellRecord) (m : SlotId) : (s.writeCell n k c).slot m = s.slot m := rfl

/-! ### What the updates make of the field they change -/

@[simp] theorem State.station_modStation_self (i : StationId) (f : Station → Station) :
    (s.modStation i f).station i = f (s.station i) := by
  simp [State.station, State.modStation]

theorem State.station_modStation_ne {i j : StationId} (h : i ≠ j) (f : Station → Station) :
    (s.modStation i f).station j = s.station j := by
  have : i.val ≠ j.val := fun e => h (Fin.ext e)
  simp [State.station, State.modStation, this]

theorem State.station_modStation (i j : StationId) (f : Station → Station) :
    (s.modStation i f).station j = if i = j then f (s.station i) else s.station j := by
  by_cases h : i = j
  · subst h; simp
  · simp [h, State.station_modStation_ne s h]

@[simp] theorem State.modStation_modStation (i : StationId) (f g : Station → Station) :
    (s.modStation i f).modStation i g = s.modStation i fun x => g (f x) := by
  simp [State.modStation]

@[simp] theorem State.slot_setSlot_self (n : SlotId) (w : Option Wafer) :
    (s.setSlot n w).slot n = w := by
  simp [State.slot, State.setSlot]

theorem State.slot_setSlot_ne {n m : SlotId} (h : n ≠ m) (w : Option Wafer) :
    (s.setSlot n w).slot m = s.slot m := by
  have : n.val ≠ m.val := fun e => h (Fin.ext e)
  simp [State.slot, State.setSlot, this]

theorem State.slot_setSlot (n m : SlotId) (w : Option Wafer) :
    (s.setSlot n w).slot m = if n = m then w else s.slot m := by
  by_cases h : n = m
  · subst h; simp
  · simp [h, State.slot_setSlot_ne s h]

@[simp] theorem State.setSlot_setSlot (n : SlotId) (v w : Option Wafer) :
    (s.setSlot n v).setSlot n w = s.setSlot n w := by
  simp [State.setSlot]

theorem State.slot_modWafer (n m : SlotId) (f : Wafer → Wafer) :
    (s.modWafer n f).slot m = if n = m then (s.slot n).map f else s.slot m := by
  simp [State.modWafer, State.slot_setSlot]

@[simp] theorem State.modWafer_modWafer (n : SlotId) (f g : Wafer → Wafer) :
    (s.modWafer n f).modWafer n g = s.modWafer n fun w => g (f w) := by
  simp [State.modWafer, Function.comp_def]

theorem State.modWafer_of_slot {n : SlotId} {w : Wafer} (h : s.slot n = some w) (f : Wafer → Wafer) :
    s.modWafer n f = s.setSlot n (some (f w)) := by
  simp [State.modWafer, h]

@[simp] theorem State.lots_setLot_self (e : Fin 16) (l : Option Lot) :
    (s.setLot e l).lots[e.val] = l := by
  simp [State.setLot]

theorem State.lots_setLot (e f : Fin 16) (l : Option Lot) :
    (s.setLot e l).lots[f] = if e = f then l else s.lots[f] := by
  by_cases h : e = f
  · subst h; simp [State.setLot]
  · have : e.val ≠ f.val := fun x => h (Fin.ext x)
    simp [State.setLot, h, this]

@[simp] theorem State.ready_makeReady (f : ReadyFrame) : (s.makeReady f).ready = s.ready ++ [f] := rfl

@[simp] theorem State.ready_answer (kind tag : Byte) (st : Status) (body : List Byte) :
    (s.answer kind tag st body).ready = s.ready ++ [.reply false (replyFrame kind tag st body)] := rfl

@[simp] theorem State.causes_dropCause (c : Cause) :
    (s.dropCause c).causes = s.causes.filter fun x => decide (x ≠ c) := rfl

@[simp] theorem State.tripped_arm (which : Watch → Bool) :
    (s.arm which).tripped = s.tripped.filter fun w => !which w := rfl

@[simp] theorem State.mem_writeCell (n : SlotId) (k : Nat) (c : CellRecord) :
    (s.writeCell n k c).mem = s.mem.write (cellAddress n k) ⟨c, .clean⟩ := rfl

end Sys2Proof.Machine
end

