-- ==== Sys2Proof/Laws/Memory.lean ====
section
/-! SUPPORT. The map memory: what a read finds after each operation, and that every operation keeps the
canonical form (addresses strictly rising). -/

namespace Sys2Proof.Machine

/-! ## One word -/

@[simp] theorem Mem.word_write_self (m : Mem) (a : Nat) (w : CellWord) : Mem.word (m.write a w) a = w := by
  induction m with
  | nil => simp [Mem.write, Mem.word]
  | cons x rest ih =>
    obtain ⟨b, v⟩ := x
    simp only [Mem.write]
    split
    · simp [Mem.word]
    · split
      · simp [Mem.word]
      · rename_i h
        simp [Mem.word, h, ih]

theorem Mem.word_write_ne (m : Mem) {a b : Nat} (h : b ≠ a) (w : CellWord) :
    Mem.word (m.write a w) b = m.word b := by
  induction m with
  | nil => simp [Mem.write, Mem.word, h]
  | cons x rest ih =>
    obtain ⟨c, v⟩ := x
    simp only [Mem.write]
    split
    · simp [Mem.word, h]
    · split
      · rename_i e
        subst e
        simp [Mem.word, h]
      · simp [Mem.word, ih]

theorem Mem.keys_write_lt (m : Mem) {a c : Nat} (w : CellWord) (hc : c < a) (h : ∀ x ∈ m, c < x.1) :
    ∀ x ∈ m.write a w, c < x.1 := by
  induction m with
  | nil => simpa [Mem.write] using hc
  | cons y rest ih =>
    obtain ⟨b, v⟩ := y
    have hb : c < b := h (b, v) (by simp)
    have hr : ∀ x ∈ rest, c < x.1 := fun x hx => h x (List.mem_cons_of_mem _ hx)
    simp only [Mem.write]
    split
    · intro x hx
      simp only [List.mem_cons] at hx
      rcases hx with rfl | rfl | hx
      · exact hc
      · exact hb
      · exact hr x hx
    · split
      · intro x hx
        simp only [List.mem_cons] at hx
        rcases hx with rfl | hx
        · exact hc
        · exact hr x hx
      · intro x hx
        simp only [List.mem_cons] at hx
        rcases hx with rfl | hx
        · exact hb
        · exact ih hr x hx

/-- A write keeps the canonical form. -/
theorem Mem.wf_write {m : Mem} (h : Mem.wf m) (a : Nat) (w : CellWord) : Mem.wf (m.write a w) := by
  induction m with
  | nil => simp [Mem.write, Mem.wf]
  | cons y rest ih =>
    obtain ⟨b, v⟩ := y
    obtain ⟨hb, hr⟩ := List.pairwise_cons.mp h
    simp only [Mem.write]
    split
    · rename_i hab
      refine List.pairwise_cons.mpr ⟨?_, h⟩
      intro x hx
      simp only [List.mem_cons] at hx
      rcases hx with rfl | hx
      · exact hab
      · exact Nat.lt_trans hab (hb x hx)
    · split
      · rename_i e
        subst e
        exact List.pairwise_cons.mpr ⟨hb, hr⟩
      · rename_i h1 h2
        exact List.pairwise_cons.mpr ⟨Mem.keys_write_lt rest w (by omega) hb, ih hr⟩

/-- A write lists the address it writes and keeps those listed. -/
theorem Mem.mem_keys_write (m : Mem) (a b : Nat) (w : CellWord) :
    b ∈ (m.write a w).map Prod.fst ↔ b = a ∨ b ∈ m.map Prod.fst := by
  induction m with
  | nil => simp [Mem.write]
  | cons y rest ih =>
    obtain ⟨c, v⟩ := y
    simp only [Mem.write]
    split
    · simp
    · split
      · rename_i e
        subst e
        simp
      · simp only [List.map_cons, List.mem_cons, ih]
        tauto

/-! ## A run of words -/

theorem Mem.word_append (m k : Mem) (a : Nat) :
    Mem.word (m ++ k) a = if a ∈ m.map Prod.fst then Mem.word m a else Mem.word k a := by
  induction m with
  | nil => simp
  | cons x rest ih =>
    obtain ⟨b, v⟩ := x
    by_cases h : a = b
    · subst h; simp [Mem.word]
    · have hm : a ∈ ((b, v) :: rest : Mem).map Prod.fst ↔ a ∈ rest.map Prod.fst := by simp [h]
      simp only [List.cons_append, Mem.word, h, if_false, ih, hm]

theorem Mem.word_filter (m : Mem) (p : Nat → Bool) {a : Nat} (h : p a = true) :
    Mem.word (m.filter fun x => p x.1) a = Mem.word m a := by
  induction m with
  | nil => rfl
  | cons x rest ih =>
    obtain ⟨b, v⟩ := x
    by_cases hb : a = b
    · subst hb
      rw [List.filter_cons_of_pos (by simpa using h)]
      simp [Mem.word]
    · by_cases hp : p b = true
      · rw [List.filter_cons_of_pos (by simpa using hp)]
        simp [Mem.word, hb, ih]
      · rw [List.filter_cons_of_neg (by simpa using hp)]
        simp [Mem.word, hb, ih]

theorem Mem.word_run (base n : Nat) (f : Nat → CellRecord) {k : Nat} (h : k < n) :
    Mem.word ((List.range n).map fun k => (base + k, (⟨f k, .clean⟩ : CellWord))) (base + k) =
      ⟨f k, .clean⟩ := by
  induction n with
  | zero => omega
  | succ n ih =>
    rw [List.range_succ, List.map_append, Mem.word_append]
    by_cases hk : k < n
    · rw [if_pos, ih hk]
      simpa using hk
    · have : k = n := by omega
      subst this
      rw [if_neg (by simp)]
      simp [Mem.word]

/-- An address that is not listed reads as undefined. -/
theorem Mem.word_of_not_mem (m : Mem) {a : Nat} (h : a ∉ m.map Prod.fst) :
    Mem.word m a = Config.undefinedWord a := by
  induction m with
  | nil => rfl
  | cons x rest ih =>
    obtain ⟨b, v⟩ := x
    simp only [List.map_cons, List.mem_cons, not_or] at h
    simp [Mem.word, h.1, ih h.2]

/-- A word of the run that was written. -/
theorem Mem.word_writeRun_mem (m : Mem) (base n : Nat) (f : Nat → CellRecord) {k : Nat} (h : k < n) :
    Mem.word (Mem.writeRun base n f m) (base + k) = ⟨f k, .clean⟩ := by
  unfold Mem.writeRun
  rw [List.append_assoc, Mem.word_append, if_neg, Mem.word_append, if_pos, Mem.word_run base n f h]
  · simpa using h
  · simp [List.mem_filter]

/-- A word outside the run that was written. -/
theorem Mem.word_writeRun_ne (m : Mem) (base n : Nat) (f : Nat → CellRecord) {a : Nat}
    (h : a < base ∨ base + n ≤ a) : Mem.word (Mem.writeRun base n f m) a = Mem.word m a := by
  unfold Mem.writeRun
  have hrun : a ∉ ((List.range n).map fun k => (base + k, (⟨f k, .clean⟩ : CellWord))).map Prod.fst := by
    intro ha
    simp only [List.map_map, List.mem_map, List.mem_range, Function.comp] at ha
    obtain ⟨k, hk, rfl⟩ := ha
    omega
  rcases h with h | h
  · rw [List.append_assoc, Mem.word_append]
    by_cases ha : a ∈ (m.filter fun x => decide (x.1 < base)).map Prod.fst
    · rw [if_pos ha]
      exact Mem.word_filter m (fun b => decide (b < base)) (by simpa using h)
    · have hm : a ∉ m.map Prod.fst := by
        intro hx
        apply ha
        simp only [List.mem_map, List.mem_filter] at hx ⊢
        obtain ⟨x, hx, rfl⟩ := hx
        exact ⟨x, ⟨hx, by simpa using h⟩, rfl⟩
      rw [if_neg ha, Mem.word_append, if_neg hrun, Mem.word_of_not_mem, Mem.word_of_not_mem _ hm]
      simp only [List.mem_map, List.mem_filter] at hm ⊢
      rintro ⟨x, ⟨hx, -⟩, rfl⟩
      exact hm ⟨x, hx, rfl⟩
  · rw [List.append_assoc, Mem.word_append, if_neg, Mem.word_append, if_neg hrun]
    · exact Mem.word_filter m (fun b => decide (base + n ≤ b)) (by simpa using h)
    · simp only [List.mem_map, List.mem_filter]
      rintro ⟨x, ⟨-, hx⟩, rfl⟩
      simp at hx
      omega

/-- Initialisation keeps the canonical form. -/
theorem Mem.wf_writeRun {m : Mem} (h : Mem.wf m) (base n : Nat) (f : Nat → CellRecord) :
    Mem.wf (Mem.writeRun base n f m) := by
  unfold Mem.writeRun Mem.wf
  rw [List.append_assoc, List.pairwise_append, List.pairwise_append]
  refine ⟨h.filter _, ⟨?_, h.filter _, ?_⟩, ?_⟩
  · rw [List.pairwise_map]
    exact List.pairwise_lt_range.imp fun hab => by simpa using hab
  · intro x hx y hy
    simp only [List.mem_map, List.mem_range] at hx
    obtain ⟨k, hk, rfl⟩ := hx
    simp only [List.mem_filter, decide_eq_true_eq] at hy
    have := hy.2
    simp only
    omega
  · intro x hx y hy
    simp only [List.mem_filter, decide_eq_true_eq] at hx
    rw [List.mem_append] at hy
    rcases hy with hy | hy
    · simp only [List.mem_map, List.mem_range] at hy
      obtain ⟨k, hk, rfl⟩ := hy
      have := hx.2
      simp only
      omega
    · simp only [List.mem_filter, decide_eq_true_eq] at hy
      omega

/-! ## Errors of the external memory -/

theorem Mem.keys_strike (m : Mem) (a : Nat) (k : ErrorKind) :
    (Mem.strike a k m).map Prod.fst = m.map Prod.fst := by
  induction m with
  | nil => rfl
  | cons x rest ih =>
    obtain ⟨b, v⟩ := x
    simp only [Mem.strike]
    split <;> simp [ih]

/-- An error keeps the canonical form. -/
theorem Mem.wf_strike {m : Mem} (h : Mem.wf m) (a : Nat) (k : ErrorKind) : Mem.wf (Mem.strike a k m) := by
  have h' : (m.map Prod.fst).Pairwise (· < ·) := List.pairwise_map.mpr h
  rw [← Mem.keys_strike m a k] at h'
  exact List.pairwise_map.mp h'

/-- An error leaves every record as it is: it shows only at the next read (R96). -/
theorem Mem.record_strike (m : Mem) (a b : Nat) (k : ErrorKind) :
    (Mem.word (Mem.strike a k m) b).record = (Mem.word m b).record := by
  induction m with
  | nil => rfl
  | cons x rest ih =>
    obtain ⟨c, v⟩ := x
    simp only [Mem.strike]
    split
    · by_cases h : b = c <;> simp [Mem.word, h]
    · by_cases h : b = c <;> simp [Mem.word, h, ih]

/-- The errors before a step touch nothing but words. -/
theorem State.upset_form (us : List Upset) (s : State) :
    ∃ m, s.upset us = { s with mem := m } ∧ (Mem.wf s.mem → Mem.wf m) ∧
      m.map Prod.fst = s.mem.map Prod.fst ∧
      ∀ a, (Mem.word m a).record = (Mem.word s.mem a).record := by
  induction us generalizing s with
  | nil => exact ⟨s.mem, rfl, id, rfl, fun _ => rfl⟩
  | cons u us ih =>
    simp only [State.upset, List.foldl_cons]
    split
    · obtain ⟨m, h, hwf, hk, hr⟩ := ih { s with mem := s.mem.strike (cellAddress u.slot u.cell) u.kind }
      refine ⟨m, h, fun w => hwf (Mem.wf_strike w _ _), by rw [hk]; exact Mem.keys_strike _ _ _, ?_⟩
      intro a
      rw [hr a]
      exact Mem.record_strike _ _ _ _
    · exact ih s

/-- The map memory after reset is in canonical form. -/
theorem State.reset_mem_wf : Mem.wf State.reset.mem := List.Pairwise.nil

end Sys2Proof.Machine
end

