-- ==== Sys2Proof/Laws/Frames.lean ====
section
/-! SUPPORT. What each shared operation can touch: one lemma for each, which says that the state after it is
the state before it with only the named fields changed. -/

namespace Sys2Proof.Machine

/-! ## Causes, requests and records -/

/-- Adding a cause touches the set and the ready list, and leaves the set no smaller. -/
theorem State.addCause_form (c : Cause) (s : State) :
    ∃ cs r, s.addCause c = { s with causes := cs, ready := r } ∧ c ∈ cs ∧ ∀ x ∈ s.causes, x ∈ cs := by
  unfold State.addCause
  split
  · rename_i h
    exact ⟨s.causes, s.ready, rfl, h, fun x hx => hx⟩
  · refine ⟨_, _, rfl, ?_, ?_⟩
    · cases c <;> simp [Cause.all]
    · intro x hx
      cases x <;> simp [Cause.all, hx]

/-- A request that can be taken is carried out over the queue's rest; otherwise nothing changes. -/
theorem State.takeRequest_cases (accepts : Frame → Bool) (carry : Frame → State → State) (s : State) :
    (∃ r rest, s.Offers r rest ∧ accepts r = true ∧
      s.takeRequest accepts carry = carry r { s with requests := rest }) ∨
    s.takeRequest accepts carry = s := by
  unfold State.takeRequest
  split
  · exact .inr rfl
  · rename_i r rest h
    split
    · rename_i hr
      refine .inl ⟨r, rest, ?_, hr.2, rfl⟩
      have h1 := hr.1
      simp only [State.hostReady, Bool.and_eq_true, decide_eq_true_eq] at h1
      exact ⟨h1.1.1, h1.1.2, h1.2, h⟩
    · exact .inr rfl

/-- Taking a request that stands ready. -/
theorem State.takeRequest_of_offers {s : State} {r : Frame} {rest : List Frame} (h : s.Offers r rest)
    {accepts : Frame → Bool} (ha : accepts r = true) (carry : Frame → State → State) :
    s.takeRequest accepts carry = carry r { s with requests := rest } := by
  obtain ⟨h1, h2, h3, h4⟩ := h
  simp [State.takeRequest, State.hostReady, h1, h2, h3, h4, ha]

/-- No expiry has fallen due exactly when no group's timer stands at 0. -/
theorem State.dueExpiry_eq_none (s : State) :
    s.dueExpiry = none ↔ ∀ j : StationId, (s.station j).group.map Group.timer ≠ some 0 := by
  simp [State.dueExpiry, List.find?_eq_none, Station.expired]

/-- The grant holds only for a waiting queue. -/
theorem State.grant_waits {s : State} {i : StationId} (h : s.grant = some i) :
    (s.station i).waits = true := by
  have := List.find?_some h
  simp only [State.candidate, Bool.and_eq_true] at this
  exact this.1

/-- A record that can be taken is carried out with the queue's rest; otherwise nothing changes. -/
theorem State.takeRecord_cases (k : Byte) (carry : StationId → Frame → State → State) (s : State) :
    (∃ i r rest, s.Grants i r rest ∧ r.kind = k ∧
      s.takeRecord k carry = carry i r (s.granted i { s.station i with staging := rest })) ∨
    s.takeRecord k carry = s := by
  unfold State.takeRecord
  split
  · exact .inr rfl
  · rename_i i hi
    split
    · exact .inr rfl
    · rename_i r rest hr
      split
      · rename_i h
        refine .inl ⟨i, r, rest, ?_, h.2, rfl⟩
        have h1 := h.1
        simp only [State.engineReady, Bool.and_eq_true, decide_eq_true_eq, Bool.not_eq_true'] at h1
        exact ⟨h1.1.1, h1.1.2, (State.dueExpiry_eq_none s).mp h1.2, hi, hr⟩
      · exact .inr rfl

/-- Taking a record that stands ready. -/
theorem State.takeRecord_of_grants {s : State} {i : StationId} {r : Frame} {rest : List Frame}
    (h : s.Grants i r rest) {k : Byte} (hk : r.kind = k) (carry : StationId → Frame → State → State) :
    s.takeRecord k carry = carry i r (s.granted i { s.station i with staging := rest }) := by
  obtain ⟨h1, h2, h3, h4, h5⟩ := h
  have h6 : s.engineReady = true := by
    simp [State.engineReady, h1, h2, (State.dueExpiry_eq_none s).mpr h3]
  simp only [State.takeRecord, h4, h5, h6, hk, and_self, if_true]
  rfl

/-! ## Reads of cells -/

/-- The fields that a read of a cell can touch, changed; everything else as in s. -/
def State.Read (s t : State) : Prop :=
  ∃ m sl co cs r, t = { s with mem := m, slots := sl, corrected := co, causes := cs, ready := r }

theorem State.Read.refl (s : State) : s.Read s := ⟨_, _, _, _, _, rfl⟩

theorem State.Read.trans {s t u : State} (h : s.Read t) (h' : t.Read u) : s.Read u := by
  obtain ⟨_, _, _, _, _, rfl⟩ := h
  obtain ⟨_, _, _, _, _, rfl⟩ := h'
  exact ⟨_, _, _, _, _, rfl⟩

theorem State.addCause_read (c : Cause) (s : State) : s.Read (s.addCause c) := by
  obtain ⟨cs, r, h, -⟩ := State.addCause_form c s
  exact ⟨_, _, _, cs, r, h⟩

/-- A read touches one word, the slot's damaged count, the corrected-error count, and MAP_FAULT. -/
theorem State.readCell_read (n : SlotId) (k : Nat) (s : State) : s.Read (s.readCell n k).1 := by
  unfold State.readCell
  split
  · exact .refl s
  · exact ⟨_, _, _, _, _, rfl⟩
  · refine State.Read.trans ?_ (State.addCause_read _ _)
    exact ⟨_, _, _, _, _, rfl⟩

theorem State.readRun_read (n : SlotId) (base k : Nat) (s : State) :
    s.Read (s.readRun n base k).1 := by
  induction k with
  | zero => exact .refl s
  | succ k ih => exact ih.trans (State.readCell_read n (base + k) _)

/-- The fields that a CELL_READ in flight can touch, changed; everything else as in s. -/
def State.ReadOn (s t : State) : Prop :=
  ∃ m sl co cs r p, t =
    { s with mem := m, slots := sl, corrected := co, causes := cs, ready := r, inProgress := p }

theorem State.ReadOn.refl (s : State) : s.ReadOn s := ⟨_, _, _, _, _, _, rfl⟩

theorem State.ReadOn.trans {s t u : State} (h : s.ReadOn t) (h' : t.ReadOn u) : s.ReadOn u := by
  obtain ⟨_, _, _, _, _, _, rfl⟩ := h
  obtain ⟨_, _, _, _, _, _, rfl⟩ := h'
  exact ⟨_, _, _, _, _, _, rfl⟩

/-- A CELL_READ in flight touches, beside what a read touches, its own progress. -/
theorem State.readOne_readOn (s : State) : s.ReadOn s.readOne := by
  unfold State.readOne
  split
  · rename_i tag n row first base count cells _
    split
    · obtain ⟨m, sl, co, cs, r, h⟩ := State.readCell_read n (base + cells.length) s
      exact ⟨m, sl, co, cs, r, some (.reading tag n row first base count
        (cells ++ [(s.readCell n (base + cells.length)).2])), by simp only [h]⟩
    · exact .refl s
  · exact .refl s

theorem State.readAhead_readOn (k : Nat) (s : State) : s.ReadOn (State.readAhead k s) := by
  induction k generalizing s with
  | zero => exact .refl s
  | succ k ih => exact (State.readOne_readOn s).trans (ih _)

/-- Only a CELL_READ in flight has cells to read. -/
theorem State.readAhead_of_not_reading {s : State} (h : s.reading = false) (k : Nat) :
    State.readAhead k s = s := by
  have h1 : s.readOne = s := by
    unfold State.readOne
    split
    · rename_i e
      simp [State.reading, e] at h
    · rfl
  induction k with
  | zero => rfl
  | succ k ih => simp [State.readAhead, h1, ih]

/-! ## The close of a wafer and the end of a group -/

/-- The fields that the end of a group can touch, changed; everything else as in s. -/
def State.Ended (s t : State) : Prop :=
  ∃ st sl l cs r, t = { s with stations := st, slots := sl, lots := l, causes := cs, ready := r }

theorem State.Ended.refl (s : State) : s.Ended s := ⟨_, _, _, _, _, rfl⟩

theorem State.Ended.trans {s t u : State} (h : s.Ended t) (h' : t.Ended u) : s.Ended u := by
  obtain ⟨_, _, _, _, _, rfl⟩ := h
  obtain ⟨_, _, _, _, _, rfl⟩ := h'
  exact ⟨_, _, _, _, _, rfl⟩

theorem State.modStation_ended (i : StationId) (f : Station → Station) (s : State) :
    s.Ended (s.modStation i f) := ⟨_, _, _, _, _, rfl⟩

theorem State.setSlot_ended (n : SlotId) (w : Option Wafer) (s : State) : s.Ended (s.setSlot n w) :=
  ⟨_, _, _, _, _, rfl⟩

theorem State.setLot_ended (e : Fin 16) (l : Option Lot) (s : State) : s.Ended (s.setLot e l) :=
  ⟨_, _, _, _, _, rfl⟩

theorem State.addCause_ended (c : Cause) (s : State) : s.Ended (s.addCause c) := by
  obtain ⟨cs, r, h, -⟩ := State.addCause_form c s
  exact ⟨_, _, _, cs, r, h⟩

theorem State.releaseActive_ended (id : LotId) (s : State) : s.Ended (s.releaseActive id) := by
  unfold State.releaseActive
  split
  · exact .refl s
  · split
    · exact .refl s
    · split
      · exact (State.setLot_ended _ _ s).trans (State.addCause_ended _ _)
      · exact State.setLot_ended _ _ s

theorem State.unbindSlot_ended (n : SlotId) (s : State) : s.Ended (s.unbindSlot n) := by
  unfold State.unbindSlot
  split
  · exact .refl s
  · exact State.modStation_ended _ _ s

/-- A close completion touches the binding, the slot, the lot, and the causes. -/
theorem State.completeClose_ended (n : SlotId) (deferred : Bool) (s : State) :
    s.Ended (s.completeClose n deferred) := by
  unfold State.completeClose
  split
  · exact .refl s
  · refine State.Ended.trans ?_ (State.releaseActive_ended _ _)
    rename_i w _
    have h1 := State.unbindSlot_ended n s
    have h2 : s.Ended (match (s.unbindSlot n).findLot w.lot with
        | none => s.unbindSlot n
        | some e => (s.unbindSlot n).modLot e (Lot.join w.number w.totals)) := by
      split
      · exact h1
      · exact h1.trans (State.setLot_ended _ _ _)
    have h3 := h2.trans
      (State.setSlot_ended n (some { w with state := .closed, closing := some w.totals }) _)
    split
    · exact h3.trans (State.addCause_ended _ _)
    · exact h3

theorem State.finishClosing_ended (n : SlotId) (s : State) : s.Ended (s.finishClosing n) := by
  unfold State.finishClosing
  split
  · exact State.completeClose_ended n true s
  · exact .refl s

/-- The end of a group touches what a close completion touches. -/
theorem State.endGroup_ended (i : StationId) (s : State) : s.Ended (s.endGroup i) := by
  unfold State.endGroup
  refine State.Ended.trans ?_ (State.modStation_ended _ _ _)
  have h1 := State.modStation_ended i (fun x => { x with group := none }) s
  split
  · exact h1
  · exact h1.trans (State.finishClosing_ended _ _)

theorem State.discardGroup_ended (i : StationId) (s : State) : s.Ended (s.discardGroup i) := by
  unfold State.discardGroup
  split
  · exact State.endGroup_ended i s
  · exact .refl s

/-- Steps 3 to 5 of the entry to FAULTED touch what the end of a group touches. -/
theorem State.finishFault_ended (i : StationId) (s : State) : s.Ended (State.finishFault i s) := by
  unfold State.finishFault
  exact ((State.discardGroup_ended i s).trans (State.modStation_ended i _ _)).trans
    (State.addCause_ended _ _)

/-! ## The receivers -/

/-- A bad frame touches its station alone. -/
theorem State.badFrame_form (i : StationId) (s : State) :
    ∃ st, State.badFrame i s = { s with stations := st } := by
  simp only [State.badFrame]
  split <;> exact ⟨_, rfl⟩

/-- The receiver touches its station and the armed watches. -/
theorem State.stationReceive_form (i : StationId) (k : Nat) (bytes : List Byte) (s : State) :
    ∃ st tr, State.stationReceive i k bytes s = { s with stations := st, tripped := tr } := by
  induction k generalizing bytes s with
  | zero => exact ⟨_, _, rfl⟩
  | succ k ih =>
    unfold State.stationReceive
    split
    · exact ⟨_, _, rfl⟩
    · split
      · exact ⟨_, _, rfl⟩
      · rename_i rest _
        obtain ⟨st, h⟩ := State.badFrame_form i s
        obtain ⟨st', tr', h'⟩ := ih rest (State.badFrame i s)
        exact ⟨st', tr', by rw [h', h]⟩
      · rename_i f rest _
        obtain ⟨st', tr', h'⟩ := ih rest (State.goodFrame i f s)
        exact ⟨st', tr', by rw [h']; rfl⟩

/-- Bytes that arrive during work: the receiver's effect, then the work, and then, where the bytes faulted
the station, the rest of its entry to FAULTED. -/
theorem State.receiving_form (i : StationId) (bytes : List Byte) (work : State → State) (s : State) :
    ∃ st tr, ∃ t : State, t = { s with stations := st, tripped := tr } ∧
      s.receiving i bytes work =
        if (s.station i).intake ≠ .faulted ∧ (t.station i).intake = .faulted then (work t).finishFault i
        else work t := by
  obtain ⟨st, tr, h⟩ := State.stationReceive_form i (((s.station i).rx ++ bytes).length + 1)
    ((s.station i).rx ++ bytes) s
  exact ⟨st, tr, _, rfl, by rw [← h]; rfl⟩

theorem State.stationBytes_form (i : StationId) (bytes : List Byte) (s : State) :
    ∃ st sl l cs r tr, State.stationBytes i bytes s =
      { s with stations := st, slots := sl, lots := l, causes := cs, ready := r, tripped := tr } := by
  unfold State.stationBytes
  split
  · exact ⟨_, _, _, _, _, _, rfl⟩
  · obtain ⟨st, tr, t, rfl, h⟩ := State.receiving_form i bytes id s
    rw [h, id_eq]
    split
    · obtain ⟨st', sl, l, cs, r, h'⟩ := State.finishFault_ended i { s with stations := st, tripped := tr }
      exact ⟨_, _, _, _, _, _, h'⟩
    · exact ⟨_, _, _, _, _, _, rfl⟩

/-- Work during which nothing arrives is the work. -/
@[simp] theorem State.during_nil (i : StationId) (work : State → State) (s : State) :
    s.during i [] work = work s := rfl

theorem State.immediate_form (f : Frame) (s : State) : ∃ r, State.immediate f s = { s with ready := r } := by
  unfold State.immediate
  split
  · exact ⟨_, rfl⟩
  · exact ⟨_, rfl⟩

theorem State.hostGood_form (f : Frame) (s : State) :
    ∃ q r, State.hostGood f s = { s with requests := q, ready := r } := by
  unfold State.hostGood
  split
  · obtain ⟨r, h⟩ := State.immediate_form ⟨Code.noRequest, f.tag, [Status.unknownKind.code]⟩ s
    exact ⟨_, r, h⟩
  · split
    · obtain ⟨r, h⟩ := State.immediate_form (replyFrame f.kind f.tag .badLength []) s
      exact ⟨_, r, h⟩
    · split
      · exact ⟨_, _, rfl⟩
      · obtain ⟨r, h⟩ := State.immediate_form (replyFrame f.kind f.tag .queueFull []) s
        exact ⟨_, r, h⟩

/-- Bytes on HRXD touch the receiver, the request queue and the ready list. -/
theorem State.hostReceive_form (k : Nat) (bytes : List Byte) (s : State) :
    ∃ x q r, State.hostReceive k bytes s = { s with hostRx := x, requests := q, ready := r } := by
  induction k generalizing bytes s with
  | zero => exact ⟨_, _, _, rfl⟩
  | succ k ih =>
    unfold State.hostReceive
    split
    · exact ⟨_, _, _, rfl⟩
    · rename_i rest _
      obtain ⟨r, h⟩ := State.immediate_form ⟨Code.noRequest, 0, [Status.badFrame.code]⟩ s
      obtain ⟨x', q', r', h'⟩ := ih rest s.hostBad
      refine ⟨x', q', r', ?_⟩
      rw [h', State.hostBad, h]
    · rename_i f rest _
      obtain ⟨q, r, h⟩ := State.hostGood_form f s
      obtain ⟨x', q', r', h'⟩ := ih rest (State.hostGood f s)
      exact ⟨x', q', r', by rw [h', h]⟩

/-! ## The evaluations -/

theorem State.act_form (a : Alarm) (s : State) : ∃ st, s.act a = { s with stations := st } := by
  unfold State.act
  split
  · exact ⟨_, rfl⟩
  · split
    · exact ⟨_, rfl⟩
    · exact ⟨_, rfl⟩

theorem State.raise_form (k : Nat) (s : State) :
    ∃ es c cs r, s.raise k = { s with alarms := es, cal := c, causes := cs, ready := r } := by
  unfold State.raise
  split
  · exact ⟨_, _, _, _, rfl⟩
  · rename_i e _
    split
    · obtain ⟨cs, r, h, -⟩ := State.addCause_form .alarm
        { s with alarms := s.alarms.set k { e with state := .raised }, cal := e.level.val }
      exact ⟨_, _, cs, r, h⟩
    · exact ⟨_, _, _, _, rfl⟩

/-- A recording touches the alarm list, CAL, OVERFLOW, the causes, and the station it halts. -/
theorem State.record_form (a : Alarm) (s : State) :
    ∃ es o c cs r st, s.record a =
      { s with alarms := es, overflow := o, cal := c, causes := cs, ready := r, stations := st } := by
  unfold State.record
  rcases storeAlarm a s.alarms s.overflow with ⟨es, o, k⟩
  simp only
  cases k with
  | none =>
    obtain ⟨st, h⟩ := State.act_form a { s with alarms := es, overflow := o }
    exact ⟨es, o, _, _, _, st, h⟩
  | some k =>
    obtain ⟨es', c, cs, r, h'⟩ := State.raise_form k { s with alarms := es, overflow := o }
    obtain ⟨st, h⟩ := State.act_form a (State.raise k { s with alarms := es, overflow := o })
    refine ⟨es', o, c, cs, r, st, ?_⟩
    simp only [h]
    rw [h']

/-- The fields that an evaluation can touch, changed; everything else as in s. -/
def State.Evaluated (s t : State) : Prop :=
  ∃ es o c cs r st tr, t =
    { s with
      alarms := es, overflow := o, cal := c, causes := cs, ready := r, stations := st, tripped := tr }

theorem State.Evaluated.refl (s : State) : s.Evaluated s := ⟨_, _, _, _, _, _, _, rfl⟩

theorem State.Evaluated.trans {s t u : State} (h : s.Evaluated t) (h' : t.Evaluated u) :
    s.Evaluated u := by
  obtain ⟨_, _, _, _, _, _, _, rfl⟩ := h
  obtain ⟨_, _, _, _, _, _, _, rfl⟩ := h'
  exact ⟨_, _, _, _, _, _, _, rfl⟩

theorem State.Evaluated.foldl {α : Type} (f : State → α → State) (h : ∀ s a, State.Evaluated s (f s a))
    (l : List α) (s : State) : s.Evaluated (l.foldl f s) := by
  induction l generalizing s with
  | nil => exact .refl s
  | cons a l ih => exact (h s a).trans (ih (f s a))

/-- The evaluation of one watch touches its trip state and what a recording touches. -/
theorem State.judge_form (w : Watch) (f : Finding) (a : Alarm) (s : State) :
    s.Evaluated (s.judge w f a) := by
  unfold State.judge
  split
  · split
    · exact .refl s
    · exact ⟨_, _, _, _, _, _, _, rfl⟩
  · split
    · obtain ⟨es, o, c, cs, r, st, h⟩ := State.record_form a { s with tripped := w :: s.tripped }
      exact ⟨es, o, c, cs, r, st, _, h⟩
    · exact .refl s

theorem State.commitRule_form (n : SlotId) (st : StationId) (s : State) (k : Fin 16) :
    s.Evaluated (State.commitRule n st s k) := by
  unfold State.commitRule
  split
  · split
    · exact State.judge_form _ _ _ _
    · exact State.judge_form _ _ _ _
    · exact State.Evaluated.foldl _ (fun s i => State.judge_form _ _ _ _) _ _
    · exact .refl s
    · exact State.Evaluated.foldl _ (fun s i => State.judge_form _ _ _ _) _ _
    · exact State.Evaluated.foldl _ (fun s i => State.judge_form _ _ _ _) _ _
    · exact .refl s
  · exact .refl s

theorem State.evalCommit_form (n : SlotId) (st : StationId) (s : State) :
    s.Evaluated (s.evalCommit n st) :=
  State.Evaluated.foldl _ (State.commitRule_form n st) _ _

theorem State.timeoutRule_form (n : SlotId) (st : StationId) (s : State) (k : Fin 16) :
    s.Evaluated (State.timeoutRule n st s k) := by
  unfold State.timeoutRule
  split
  · exact State.judge_form _ _ _ _
  · exact .refl s

theorem State.evalTimeouts_form (n : SlotId) (st : StationId) (s : State) :
    s.Evaluated (s.evalTimeouts n st) :=
  State.Evaluated.foldl _ (State.timeoutRule_form n st) _ _

theorem State.silenceRule_form (st : StationId) (s : State) (k : Fin 16) :
    s.Evaluated (State.silenceRule st s k) := by
  unfold State.silenceRule
  split
  · exact State.judge_form _ _ _ _
  · exact .refl s

theorem State.evalSilence_form (s : State) (st : StationId) : s.Evaluated (s.evalSilence st) :=
  State.Evaluated.foldl _ (State.silenceRule_form st) _ _

/-! ## The end of an export -/

/-- An export that ends frees the unit and closes its slot. -/
theorem State.haltExport_form (s : State) :
    ∃ m sl c, s.haltExport = { s with mex := m, slots := sl, causes := c } := by
  unfold State.haltExport State.endExport
  split
  · exact ⟨_, _, _, rfl⟩
  · exact ⟨_, _, _, rfl⟩

/-- The EXPORT_STOP that waits, if any, is completed and answered. -/
theorem State.stopSent_form (s : State) :
    ∃ p m sl c r, s.stopSent =
      { s with inProgress := p, mex := m, slots := sl, causes := c, ready := r } := by
  unfold State.stopSent State.stopExport
  split
  · split
    · exact ⟨_, _, _, _, _, rfl⟩
    · obtain ⟨m, sl, c, h⟩ := State.haltExport_form { s with inProgress := none }
      rw [h]
      exact ⟨_, _, _, _, _, rfl⟩
  · exact ⟨_, _, _, _, _, rfl⟩

/-! ## The commit -/

/-- The fields that a commit, an arrival check or an expiry can touch, changed; all else as in s. -/
def State.Worked (s t : State) : Prop :=
  ∃ es o c cs r st tr m sl co p l, t =
    { s with
      alarms := es, overflow := o, cal := c, causes := cs, ready := r, stations := st, tripped := tr
      mem := m, slots := sl, corrected := co, inProgress := p, lots := l }

theorem State.Worked.refl (s : State) : s.Worked s := ⟨_, _, _, _, _, _, _, _, _, _, _, _, rfl⟩

theorem State.Worked.trans {s t u : State} (h : s.Worked t) (h' : t.Worked u) : s.Worked u := by
  obtain ⟨_, _, _, _, _, _, _, _, _, _, _, _, rfl⟩ := h
  obtain ⟨_, _, _, _, _, _, _, _, _, _, _, _, rfl⟩ := h'
  exact ⟨_, _, _, _, _, _, _, _, _, _, _, _, rfl⟩

theorem State.Evaluated.worked {s t : State} (h : s.Evaluated t) : s.Worked t := by
  obtain ⟨_, _, _, _, _, _, _, rfl⟩ := h
  exact ⟨_, _, _, _, _, _, _, _, _, _, _, _, rfl⟩

theorem State.endGroup_worked (i : StationId) (s : State) : s.Worked (s.endGroup i) := by
  obtain ⟨st, sl, l, cs, r, h⟩ := State.endGroup_ended i s
  exact ⟨_, _, _, _, _, _, _, _, _, _, _, _, h⟩

theorem State.readCell_worked (n : SlotId) (k : Nat) (s : State) : s.Worked (s.readCell n k).1 := by
  obtain ⟨m, sl, co, cs, r, h⟩ := State.readCell_read n k s
  exact ⟨_, _, _, _, _, _, _, _, _, _, _, _, h⟩

theorem State.commitItem_form (n : SlotId) (st : StationId) (p : Plan) (x : Item) (s : State) :
    s.Worked (State.commitItem n st p x s).1 := by
  unfold State.commitItem
  split
  · exact ⟨_, _, _, _, _, _, _, _, _, _, _, _, rfl⟩
  · rename_i e
    split
    · refine (State.readCell_worked n e.cell s).trans ?_
      unfold State.mergeItem
      rcases State.readCell n e.cell s with ⟨t, c⟩
      cases c <;> exact ⟨_, _, _, _, _, _, _, _, _, _, _, _, rfl⟩
    · exact ⟨_, _, _, _, _, _, _, _, _, _, _, _, rfl⟩

theorem State.commitItems_form (n : SlotId) (st : StationId) (p : Plan) (xs : List Item)
    (reads : List Nat) (s : State) : s.Worked (State.commitItems n st p xs reads s).1 := by
  induction xs generalizing reads s with
  | nil => exact .refl s
  | cons x xs ih =>
    obtain ⟨_, _, _, _, _, _, h⟩ := State.readAhead_readOn (reads.headD 0) s
    have h1 : s.Worked (State.readAhead (reads.headD 0) s) :=
      ⟨_, _, _, _, _, _, _, _, _, _, _, _, h⟩
    exact (h1.trans (State.commitItem_form n st p x _)).trans (ih reads.tail _)

/-- A commit touches cells, accumulators, the committing station's counters, a CELL_READ in flight, and
what an evaluation touches. -/
theorem State.commit_form (n : SlotId) (st : StationId) (g : Group) (reads : List Nat) (s : State) :
    s.Worked (s.commit n st g reads).1 := by
  have h := State.commitItems_form n st (s.slotPlan n) g.items reads s
  unfold State.commit
  generalize State.commitItems n st (s.slotPlan n) g.items reads s = x at h ⊢
  obtain ⟨t, refused⟩ := x
  dsimp only at h ⊢
  exact h.trans (State.evalCommit_form n st t).worked

theorem State.checkEntry_form (i : StationId) (b : Binding) (x : Result) (s : State) :
    s.Worked (s.checkEntry i b x).1 := by
  unfold State.checkEntry
  split
  · split
    · exact .refl s
    · rename_i e _
      refine (State.readCell_worked b.slot e.cell s).trans ?_
      rcases State.readCell b.slot e.cell s with ⟨t, c⟩
      simp only
      split
      · exact .refl t
      · split
        · exact .refl t
        · exact ⟨_, _, _, _, _, _, _, _, _, _, _, _, rfl⟩
  · exact .refl s

theorem State.checkEntries_form (i : StationId) (b : Binding) (xs : List Result) (s : State) :
    s.Worked (s.checkEntries i b xs).1 := by
  induction xs generalizing s with
  | nil => exact .refl s
  | cons x xs ih => exact (State.checkEntry_form i b x s).trans (ih _)

/-- An expiry touches what a commit and the end of a group touch. -/
theorem State.expire_form (i : StationId) (b : Binding) (g : Group) (reads : List Nat) (s : State) :
    s.Worked (s.expire i b g reads) := by
  unfold State.expire
  have h1 : s.Worked (s.modAcc b.slot Acc.timeout) := ⟨_, _, _, _, _, _, _, _, _, _, _, _, rfl⟩
  refine State.Worked.trans ?_ (State.endGroup_worked i _)
  refine State.Worked.trans ?_ (State.evalTimeouts_form b.slot i _).worked
  split
  · exact h1.trans (State.commit_form _ _ _ _ _)
  · exact h1

/-- Work for a station touches, with bytes arriving meanwhile, what it touches without them. -/
theorem State.during_form (i : StationId) (arriving : List Byte) (work : State → State)
    (h : ∀ s, State.Worked s (work s)) (s : State) : s.Worked (s.during i arriving work) := by
  unfold State.during
  split
  · exact h s
  · obtain ⟨st, tr, t, ht, h1⟩ := State.receiving_form i arriving work s
    have h2 : s.Worked (work t) :=
      State.Worked.trans ⟨_, _, _, _, _, _, _, _, _, _, _, _, ht⟩ (h t)
    rw [h1]
    split
    · obtain ⟨st', sl, l, cs, r, h3⟩ := State.finishFault_ended i (work t)
      exact h2.trans ⟨_, _, _, _, _, _, _, _, _, _, _, _, h3⟩
    · exact h2

end Sys2Proof.Machine
end

