-- ==== Sys2Proof/WellFormed.lean ====
section
/-! DEFINITION. Which commands are well formed: the operands that the links and the memory can deliver.
A command that is not well formed has a meaning all the same (the part takes any bytes). -/

namespace Sys2Proof

/-- An upset names a word of its slot's area of 65,536 words (R82). -/
def Upset.wf (u : Upset) : Bool := decide (u.cell < 65536)

/-- A commit has at most 16 items, one for each site (R111). -/
def readsWf (reads : List Nat) : Bool := decide (reads.length ≤ 16)

/-- The operand checks. A receive row brings at least one byte; a good frame's payload is at most 1020
bytes (R184); a CELL_READ reads at most 256 cells (R103). -/
def Instr.wf : Instr → Bool
  | .hostFrameReceive bytes => decide (bytes ≠ [])
  | .cellRead cells upsets => decide (cells ≤ 256) && upsets.all Upset.wf
  | .mapSegmentBuild upsets => upsets.all Upset.wf
  | .badFrame _ bytes => decide (bytes ≠ [])
  | .stationFrameReceive _ _ _ payload => decide (payload.length ≤ 1020)
  | .tdResults upsets _ => upsets.all Upset.wf
  | .tdClose reads upsets _ => readsWf reads && upsets.all Upset.wf
  | .groupExpiry reads upsets _ => readsWf reads && upsets.all Upset.wf
  | .cellReadComplete upsets => upsets.all Upset.wf
  | .identify | .status | .resetFull | .resetCollation | .collationRestart | .stationSet
  | .stationCtrlRelease | .stationCtrlStart | .stationCtrlStop | .stationCtrlResume | .stationQuery
  | .classSet | .planLoad | .planRead | .lotOpen | .lotClose | .lotRelease | .lotQuery | .waferOpen
  | .initialisationComplete | .waferClose | .waferReopen | .waferRelease | .waferQuery
  | .yieldQuerySlot | .yieldQueryLot | .ruleSet | .ruleRead | .alarmList | .alarmAck | .alarmClear
  | .exportStart | .exportMore | .exportStop | .exportEndBuild | .mapSegmentTaken | .exportEndTaken
  | .noticeTaken | .hostReplyTaken | .linkCheck _ _ | .waferStart _ | .waferEnd _ | .tdOpen _
  | .tdAbort _ | .timerTick | .stationTransmit _ | .rstAssert | .rstRelease => true

end Sys2Proof
end

