-- ==== Sys2Proof/Tests/Slice0.lean ====
section
/-! SUPPORT. Tests: the WellFormed smoke, the manual's worked examples one step at a time, and for each
statement with hypotheses a witness: concrete states and operands that meet them, clause by clause. -/

namespace Sys2Proof.Tests

set_option Elab.async false

open Sys2Proof Sys2Proof.Machine

/-! ## Helpers -/

/-- The state after a command. -/
def after (i : Instr) (s : State) : State :=
  match exec i s with
  | .next t => t
  | .fault f => nomatch f
  | .refused _ => s

/-- The state whose one waiting request is of this kind, with tag H'5A. -/
def ask (kind : Byte) (p : List Byte) (s : State) : State := { s with requests := [⟨kind, 0x5A, p⟩] }

/-- The state in which station i's queue holds one record of this kind, with tag H'5A. -/
def sends (i : StationId) (kind : Byte) (p : List Byte) (s : State) : State :=
  s.modStation i fun x => { x with staging := [⟨kind, 0x5A, p⟩] }

def intake (i : StationId) (x : Intake) (s : State) : State :=
  s.modStation i fun y => { y with intake := x }

/-- A number vector that is 0 but at one place. -/
def only (n : Nat) (k : Fin n) (v : Nat) : Vector Nat n := Vector.ofFn fun i => if i = k then v else 0

/-- The last reply that became ready: its status and what follows it. -/
def lastReply (s : State) : Option (List Byte) :=
  match s.ready.getLast? with
  | some (.reply _ f) => some f.payload
  | some .notice => none
  | none => none

theorem forall_slot {s : State} {P : SlotId → Wafer → Prop}
    (h : ∀ n : SlotId, ∀ w ∈ (s.slot n).toList, P n w) : ∀ n w, s.slot n = some w → P n w :=
  fun n w hw => h n w (by simp [hw])

theorem forall_lot {s : State} {P : Fin 16 → Lot → Prop}
    (h : ∀ e : Fin 16, ∀ l ∈ s.lots[e].toList, P e l) : ∀ e l, s.lots[e] = some l → P e l :=
  fun e l hl => h e l (by simp [hl])

/-! ## A small lawful state

Lot "A" stands in entry 5, OPEN, with plan 1. Its wafer 1 is OPEN in slot 3, a grid of 2 columns and 2 rows
with cell 3 off the wafer, and bound to station 2, whose group for touchdown 7 holds site 0. Its wafer 2 is
CLOSED in slot 4, a grid of one cell. -/

/-- Bins 0 and 1 PASS, 2 FAIL, 3 VOID, the rest UNUSED; BEST, limit 2, pass lock on. -/
def plan : Plan where
  policy := .best
  limit := 2
  passLock := true
  bins := Vector.ofFn fun b : Fin 64 =>
    if b = 0 then ⟨.pass, 1⟩ else if b = 1 then ⟨.pass, 0⟩ else if b = 2 then ⟨.fail, 5⟩
    else if b = 3 then ⟨.void, 63⟩ else ⟨.unused, 63⟩

def lot : Lot := ⟨[0x41], 1, .opened, 3, [2], ⟨1, 1, 1, only 64 0 1⟩, 1⟩

def wafer : Wafer where
  state := .opened
  lot := [0x41]
  number := 1
  cols := 2
  rows := 2
  refCol := 0
  refRow := 0
  spans := [⟨0, 0, 1⟩, ⟨1, 0, 0⟩]
  gross := 3
  acc := { Acc.zero with
    tested := 1, hist := only 64 2 1
    sites := Vector.ofFn fun i : Fin 16 => if i = 1 then ⟨1, 0, 0⟩ else ⟨0, 0, 0⟩ }
  closing := none

def closedWafer : Wafer where
  state := .closed
  lot := [0x41]
  number := 2
  cols := 1
  rows := 1
  refCol := 0
  refRow := 0
  spans := [⟨0, 0, 0⟩]
  gross := 1
  acc := { Acc.zero with
    tested := 1, passed := 1, hist := only 64 0 1
    sites := Vector.ofFn fun i : Fin 16 => if i = 0 then ⟨1, 1, 0⟩ else ⟨0, 0, 0⟩ }
  closing := some ⟨1, 1, 1, only 64 0 1⟩

def group : Group := ⟨7, 3, [⟨0, 0, 0⟩], 5, .commit⟩

def small : State :=
  { State.reset with
    lots := State.reset.lots.set 5 (some lot)
    plans := State.reset.plans.set 1 plan
    slots := (State.reset.slots.set 3 (some wafer)).set 4 (some closedWafer)
    mem := [(196608, ⟨.untested, .clean⟩), (196609, ⟨.tested 2 2 1 1 2, .clean⟩),
      (196610, ⟨.untested, .clean⟩), (196611, ⟨.offWafer, .clean⟩), (262144, ⟨.tested 0 0 1 0 2, .clean⟩)]
    stations := State.reset.stations.set 2
      { Station.reset 2 with intake := .running, binding := some ⟨3, 0⟩, group := some group } }

/-- Slot 3 in CLOSING, its close waiting for the group. -/
def closingState : State := small.setSlot 3 (some { wafer with state := .closing })

/-- Slot 4 in EXPORTING, no segment taken yet, window 2. -/
def exporting : State :=
  { small.setSlot 4 (some { closedWafer with state := .exporting }) with
    mex := some ⟨false, 4, .brief, 1, 0, 2, none⟩ }

/-- Station 2 without its group. -/
def idle : State := small.modStation 2 fun x => { x with group := none }

/-- Station 2 without its group and binding. -/
def unbound : State := small.modStation 2 fun x => { x with group := none, binding := none }

/-- A CELL_READ of the two cells of row 0 of slot 3 in flight. -/
def reading : State := { small with inProgress := some (.reading 9 3 0 0 0 2 []) }

/-- The CELL_READ with both its cells read. -/
def allRead : State :=
  { small with inProgress := some (.reading 9 3 0 0 0 2 [.untested, .tested 2 2 1 1 2]) }

/-- Slot 4 in EXPORTING, its first segment of 3 being sent. -/
def sending : State :=
  { exporting with hostLine := some ⟨0xA1, 0, [4]⟩, mex := some ⟨false, 4, .brief, 3, 1, 2, none⟩ }

/-- EXPORT_STOP holds the host link until that segment has been sent whole. -/
def stopping : State := { sending with inProgress := some (.stopping 9) }

/-- WAFER_OPEN of slot 3 in progress. -/
def opening : State :=
  { unbound.setSlot 3 (some { wafer with state := .opening }) with inProgress := some (.opening 9 3) }

theorem test_small_is_lawful : small.Lawful := by
  refine ⟨?_, ?_, ?_, ?_, ?_, ?_, ?_, ?_⟩ <;> decide +kernel

theorem test_closing_is_lawful : closingState.Lawful := by
  refine ⟨?_, ?_, ?_, ?_, ?_, ?_, ?_, ?_⟩ <;> decide +kernel

theorem test_exporting_is_lawful : exporting.Lawful := by
  refine ⟨?_, ?_, ?_, ?_, ?_, ?_, ?_, ?_⟩ <;> decide +kernel

/-! ## WellFormed smoke -/

theorem test_wf_refuses_no_host_bytes : (Instr.hostFrameReceive []).wf = false := by decide
theorem test_wf_refuses_no_station_bytes : (Instr.badFrame 0 []).wf = false := by decide
theorem test_wf_refuses_long_payload :
    (Instr.stationFrameReceive 0 0x40 0 (List.replicate 1021 0)).wf = false := by decide +kernel
theorem test_wf_refuses_long_read : (Instr.cellRead 257 []).wf = false := by decide
theorem test_wf_refuses_upset_of_read : (Instr.cellRead 1 [⟨0, 65536, .correctable⟩]).wf = false := by
  decide
theorem test_wf_refuses_upset_of_segment :
    (Instr.mapSegmentBuild [⟨0, 65536, .correctable⟩]).wf = false := by decide
theorem test_wf_refuses_upset_of_results :
    (Instr.tdResults [⟨0, 65536, .correctable⟩]).wf = false := by decide
theorem test_wf_refuses_17_reads : (Instr.tdClose (List.replicate 17 1) []).wf = false := by decide
theorem test_wf_refuses_upset_of_close :
    (Instr.tdClose [] [⟨0, 65536, .correctable⟩]).wf = false := by decide
theorem test_wf_refuses_17_reads_of_expiry : (Instr.groupExpiry (List.replicate 17 1) []).wf = false := by
  decide
theorem test_wf_refuses_upset_of_expiry :
    (Instr.groupExpiry [] [⟨0, 65536, .correctable⟩]).wf = false := by decide
theorem test_wf_refuses_upset_of_read_complete :
    (Instr.cellReadComplete [⟨0, 65536, .correctable⟩]).wf = false := by decide
theorem test_wf_takes_good_operands :
    (Instr.cellRead 256 [⟨31, 65535, .uncorrectable⟩]).wf = true ∧
    (Instr.stationFrameReceive 7 0x44 9 (List.replicate 99 0)).wf = true ∧
    Instr.identify.wf = true := by decide +kernel

/-! ## Bytes and arithmetic -/

/-- The check of "123456789" under R184's generator, start value and bit order, by hand: H'AEE7. -/
theorem test_crc_of_nine_digits :
    crc [0x31, 0x32, 0x33, 0x34, 0x35, 0x36, 0x37, 0x38, 0x39] = 0xAEE7 := by decide +kernel

/-- Table 2.5 and 2.7.3: the wafer of 1.4.1 under orientations 1 and 2. -/
def grid141 : Wafer :=
  { wafer with
    cols := 12, rows := 10, refCol := 5, refRow := 4, gross := 92
    spans := [⟨0, 4, 7⟩, ⟨1, 2, 9⟩, ⟨2, 1, 10⟩, ⟨3, 0, 11⟩, ⟨4, 0, 11⟩, ⟨5, 0, 11⟩, ⟨6, 0, 11⟩,
      ⟨7, 1, 10⟩, ⟨8, 2, 9⟩, ⟨9, 4, 7⟩] }

theorem test_gross_count_of_1_4_1 :
    spansValid 12 10 grid141.spans = true ∧ grossCount grid141.spans = 92 ∧
    spansValid 12 10 [⟨2, 1, 12⟩] = false ∧ spansValid 12 10 [⟨2, 1, 10⟩, ⟨2, 0, 11⟩] = false := by decide

theorem test_transform_of_table_2_5 :
    transform grid141 1 2 (-3) = .cell 32 ∧ transform grid141 1 (-5) 0 = .cell 113 ∧
    transform grid141 1 (-6) 0 = .offMap ∧ transform grid141 1 4 (-6) = .offWafer ∧
    transform grid141 0 3 2 = .cell 32 ∧ transform grid141 2 (-3) (-2) = .cell 32 ∧
    transform grid141 3 (-2) 3 = .cell 32 ∧ transform grid141 2 (-32768) 0 = .offMap := by decide

/-- 6.6.1, 6.6.2 and 6.6.4. -/
theorem test_yields_of_6_6 :
    ratioYield 1234 1300 = some 9492 ∧ ratioYield 1234 1412 = some 8739 ∧ ratioYield 78 90 = some 8667 ∧
    ratioYield 52 61 = some 8525 ∧ ratioYield 52 92 = some 5652 ∧ ratioYield 0 0 = none := by decide

/-- Table 8.5: the FULL codes of two cells. -/
theorem test_full_codes_of_table_8_5 :
    fullCode (.tested 1 12 2 5 0) = [1, 12, 37] ∧ fullCode .untested = [64, 0, 0] ∧
    fullCode (.tested 7 7 1 0 0) = [7, 7, 16] ∧ fullCode .damaged = [65, 0, 0] := by decide

/-- The REPLY to a bad frame (10.5): tag 0, REFUSE, BAD_FRAME, bound slot and list absent. -/
theorem test_reply_to_bad_frame_bytes :
    (StationFrame.reply ⟨0, .refuse, some .badFrame, none, none⟩).frame =
      ⟨0xC0, 0, [2, 0x0E, 0xFF, 0xFF]⟩ := by decide

theorem test_no_table_word_spells_a_command :
    decodeTableWord 8 0xC3 = none ∧ (State.reset.withFetchWord 8 0xC3) = State.reset := by decide +kernel

/-! ## The host link -/

/-- 9.8.1: RULE_READ with tag 6 finds four requests waiting and is answered QUEUE_FULL. -/
theorem test_host_frame_receive_finds_full_queue :
    let s : State := { opening with requests := List.replicate 4 ⟨0x02, 5, []⟩ }
    let t := after (.hostFrameReceive (Frame.bytes ⟨0x16, 6, [0]⟩)) s
    t.requests = s.requests ∧ t.ready = s.ready ++ [.reply true ⟨0x96, 6, [6]⟩] := by decide +kernel

/-- R178. -/
theorem test_identify :
    lastReply (after .identify (ask 0x01 [] small)) =
      some [0, 0xB7, 0x64, 0x20, 1, 8, 16, 32, 16, 4, 16, 32] := by decide +kernel

/-- Table 9.6: STATUS reports MAP_FAULT and leaves ALARM (H'20 in the cause set). -/
theorem test_status_removes_top_cause :
    let t := after .status (ask 0x02 [] { small with causes := [.mapFault, .alarm] })
    t.causes = [.alarm] ∧ (lastReply t).map (List.take 3) = some [0, 2, 0x20] := by decide +kernel

theorem test_reset_full_leaves_no_reply :
    (after .resetFull (ask 0x03 [0] small)).ready = [.notice] ∧
    (after .resetFull (ask 0x03 [0] small)).lastReset = .full := by decide +kernel

theorem test_reset_collation_waits :
    (after .resetCollation (ask 0x03 [1] small)).inProgress = some (.restarting 0x5A) := by decide +kernel

/-- 9.8.3: the slot in CLOSING completes its close, and WAFER_CLOSED joins RESTARTED. -/
theorem test_collation_restart_completes_close :
    let t := after .collationRestart { closingState with inProgress := some (.restarting 4), causes := [] }
    t.slotIs 3 .closed = true ∧ t.causes = [.restarted, .waferClosed] ∧ (t.station 2).intake = .held ∧
    (t.station 2).binding = none ∧ (t.station 2).group = none := by decide +kernel

theorem test_rst_assert : (after .rstAssert small).slot 3 = none ∧ (after .rstAssert small).rst = true := by
  decide +kernel

theorem test_rst_release : (after .rstRelease (after .rstAssert small)) = State.reset := by decide +kernel

/-- Table 9.6: the NOTICE lists MAP_FAULT, ALARM and EXPORT_WAITING (H'62). -/
theorem test_notice_taken_lists_causes :
    (after .noticeTaken { small with causes := [.mapFault, .alarm, .exportWaiting] }).hostLine =
      some ⟨0xA0, 0, [0x62]⟩ := by decide +kernel

theorem test_host_reply_taken :
    let t := after .hostReplyTaken { small with ready := [.reply false ⟨0x81, 3, [0]⟩, .notice] }
    t.hostLine = some ⟨0x81, 3, [0]⟩ ∧ t.ready = [.notice] := by decide +kernel

/-! ## The stations -/

/-- R50: a priority code above 15 is held as 15. -/
theorem test_station_set_clamps :
    let t := after .stationSet (ask 0x04 [0, 200, 3] small)
    (t.station 0).priority = 15 ∧ (t.station 0).timingClass = 3 := by decide +kernel

theorem test_station_ctrl_release :
    ((after .stationCtrlRelease (ask 0x05 [0, 0] small)).station 0).intake = .stopped := by decide +kernel

theorem test_station_ctrl_start :
    let s := (intake 0 .stopped small).modStation 0 fun x => { x with consecFail := only 16 3 9 }
    let t := after .stationCtrlStart (ask 0x05 [0, 1] s)
    (t.station 0).intake = .running ∧ (t.station 0).consecFail[3] = 0 := by decide +kernel

theorem test_station_ctrl_stop_waits_for_group :
    ((after .stationCtrlStop (ask 0x05 [2, 2] small)).station 2).intake = .stopping := by decide +kernel

/-- Table 11.3: RESUME makes the station RUNNING and sends RESUME. -/
theorem test_station_ctrl_resume :
    let t := after .stationCtrlResume (ask 0x05 [2, 3] (intake 2 .halted small))
    (t.station 2).intake = .running ∧ (t.station 2).transmit = [.resume] := by decide +kernel

/-- Table 3.8: RUNNING, priority 2, class 0, slot 3, q 0, and the group of touchdown 7 with sites 0 and 1. -/
theorem test_station_query :
    (lastReply (after .stationQuery (ask 0x06 [2] small))).map (List.take 16) =
      some [0, 2, 2, 0, 3, 0, 1, 0, 7, 0, 3, 1, 0, 0, 0, 0] := by decide +kernel

/-- R62: a timeout of 0 is held as 1. -/
theorem test_class_set :
    (after .classSet (ask 0x07 [1, 0, 1] small)).classes[1] = ⟨1, .discard⟩ := by decide +kernel

/-- 3.10.3: the bad frame that brings the count to 16 under a deferred close. -/
theorem test_bad_frame_faults_station :
    let s := (sends 2 0x42 [] closingState).modStation 2 fun x => { x with badFrames := 15 }
    let t := after (.badFrame 2 [0xC3, 0xFF, 0xFF]) { s with causes := [] }
    (t.station 2).intake = .faulted ∧ (t.station 2).badFrames = 16 ∧ (t.station 2).staging = [] ∧
    (t.station 2).group = none ∧ t.slotIs 3 .closed = true ∧ t.causes = [.stationFault, .waferClosed] := by
  decide +kernel

/-- R48: with the line idle too, the REPLY of a record already taken is discarded by the fault. -/
theorem test_fault_discards_waiting_reply :
    let s := (sends 2 0x46 [0, 7] small).modStation 2 fun x => { x with badFrames := 15 }
    let t := after (.badFrame 2 [0xC3, 0xFF, 0xFF]) (after .tdAbort s)
    ((after .tdAbort s).station 2).transmit.length = 1 ∧ (t.station 2).transmit = [] ∧
    (t.station 2).line = none := by decide +kernel

/-- R48, R70: the sixteenth bad frame arrives while the TD_CLOSE of a STOPPING station is carried out. The
commit stands, the REPLY is discarded, and the station is FAULTED, not STOPPED. -/
theorem test_fault_during_td_close_of_stopping_station :
    let s := (sends 2 0x45 [0, 7] (intake 2 .stopping small)).modStation 2 fun x => { x with badFrames := 15 }
    let t := after (.tdClose [] [] [0xC3, 0xFF, 0xFF]) { s with causes := [] }
    t.cellRecord 3 0 = .tested 0 0 1 0 2 ∧ (t.station 2).intake = .faulted ∧ (t.station 2).transmit = [] ∧
    (t.station 2).group = none ∧ (t.station 2).binding = none ∧ t.causes = [.stationFault] ∧
    ((after (.tdClose [] []) s).station 2).intake = .stopped := by decide +kernel

/-- R41, R43: a LINK_CHECK that arrives while a record is carried out is answered before it. -/
theorem test_link_check_during_record :
    let t := after (.waferEnd (Frame.bytes ⟨0x40, 8, []⟩)) (sends 2 0x42 [] idle)
    (t.station 2).transmit =
      [.reply ⟨8, .accept, none, none, none⟩, .reply ⟨0x5A, .accept, none, none, none⟩] := by decide +kernel

theorem test_bad_frame_is_answered :
    let t := after (.badFrame 0 [0xC3, 0, 0, 0x40, 9, 0, 0]) small
    (t.station 0).badFrames = 1 ∧
    (t.station 0).transmit = [.reply ⟨0, .refuse, some .badFrame, none, none⟩] := by decide +kernel

/-- 3.10.2: a ninth record is answered WAIT and not kept. -/
theorem test_station_frame_receive_finds_full_queue :
    let s := small.modStation 2 fun x => { x with staging := List.replicate 8 ⟨0x42, 11, []⟩ }
    let t := after (.stationFrameReceive 2 0x42 19 []) s
    (t.station 2).staging.length = 8 ∧
    (t.station 2).transmit = [.reply ⟨19, .wait, none, none, none⟩] := by decide +kernel

/-- R38: LINK_CHECK is answered at once, in HELD too, and clears the counters. -/
theorem test_link_check :
    let s := small.modStation 0 fun x => { x with badFrames := 4, silence := 9 }
    let t := after (.linkCheck 0 8) s
    (t.station 0).transmit = [.reply ⟨8, .accept, none, none, none⟩] ∧ (t.station 0).badFrames = 0 ∧
    (t.station 0).silence = 0 := by decide +kernel

theorem test_station_transmit :
    let s := small.modStation 2 fun x => { x with transmit := [.halt 4 1, .resume] }
    let t := after (.stationTransmit 2) s
    (t.station 2).line = some (.halt 4 1) ∧ (t.station 2).transmit = [.resume] := by decide +kernel

/-- Table 3.9: grants 1 to 3 and 5. -/
theorem test_grants_of_table_3_9 :
    let set (i : StationId) (p d : Nat) (s : State) : State :=
      s.modStation i fun x => { x with priority := p, staging := List.replicate d ⟨0x42, 0, []⟩ }
    let s (last : StationId) (a b c : Nat) : State :=
      { set 1 5 a (set 3 2 b (set 6 2 c State.reset)) with lastGranted := last }
    (s 7 2 2 1).grant = some 3 ∧ (s 3 2 1 1).grant = some 6 ∧ (s 6 2 1 0).grant = some 3 ∧
    (s 3 2 0 0).grant = some 1 ∧ (s 1 1 0 1).grant = some 6 := by decide +kernel

/-! ## Touchdown 812 (4.11.1, 5.6.1, 7.9.1) -/

/-- The plan of 5.6.1. -/
def plan812 : Plan where
  policy := .best
  limit := 2
  passLock := true
  bins := Vector.ofFn fun b : Fin 64 =>
    if b = 1 then ⟨.pass, 0⟩ else if b = 7 then ⟨.fail, 30⟩ else if b = 12 then ⟨.fail, 40⟩
    else if b = 60 then ⟨.void, 63⟩ else ⟨.unused, 63⟩

/-- Slot 4 and station 3 before the first TD_RESULTS of touchdown 812; only the cells it names are listed. -/
def touchdown812 : State :=
  { State.reset with
    lots := State.reset.lots.set 0 (some { lot with closedList := [], totals := Totals.zero })
    plans := State.reset.plans.set 1 plan812
    slots := State.reset.slots.set 4 (some
      { grid141 with
        acc := { Acc.zero with
          tested := 60, passed := 51
          hist := Vector.ofFn fun b : Fin 64 =>
            if b = 1 then 51 else if b = 7 then 4 else if b = 12 then 5 else 0 } })
    mem := [(262173, ⟨.untested, .clean⟩), (262196, ⟨.untested, .clean⟩),
      (262197, ⟨.tested 1 1 1 0 3, .clean⟩), (262198, ⟨.tested 12 12 2 0 3, .clean⟩),
      (262199, ⟨.tested 12 12 1 0 3, .clean⟩), (262209, ⟨.untested, .clean⟩)]
    stations := State.reset.stations.set 3
      { Station.reset 3 with
        intake := .running, binding := some ⟨4, 0⟩, group := some ⟨812, 0xFF, [], 30, .commit⟩
        consecFail := Vector.ofFn fun i : Fin 16 => if i = 2 then 2 else if i = 3 then 1 else 0
        consecVoid := Vector.ofFn fun i : Fin 16 =>
          if i = 4 then 1 else if i = 6 then 3 else if i = 7 then 255 else 0 } }

/-- Table 4.6. -/
theorem test_td_results_of_table_4_6 :
    let p : List Byte := [0x03, 0x2C, 8, 0, 0, 0, 0, 0, 7, 1, 0, 1, 0, 0, 1, 2, 0, 2, 0, 0, 1,
      3, 0xFF, 0xFF, 0, 0, 12, 4, 0xFF, 0xFF, 0, 0, 1, 5, 0, 0, 0, 1, 40, 2, 0, 0, 0xFF, 0xFF, 7,
      6, 0, 0, 0, 2, 60]
    let t := after (.tdResults []) (sends 3 0x44 p touchdown812)
    (t.station 3).group = some ⟨812, 0xFF, [⟨2, 55, 1⟩, ⟨3, 52, 12⟩, ⟨6, 29, 60⟩], 30, .commit⟩ ∧
    (t.station 3).transmit = [.reply ⟨0x5A, .accept, none, some [⟨0, .passLocked⟩, ⟨1, .retestLimit⟩,
      ⟨4, .dieConflict⟩, ⟨5, .badBin⟩, ⟨2, .duplicateSite⟩], none⟩] := by decide +kernel

/-- Station 3 with its TD_CLOSE waiting, cell 52 already DAMAGED, and the rules of Table 7.6. -/
def close812 : State :=
  let s := sends 3 0x45 [0x03, 0x2C] (touchdown812.writeCell 4 52 .damaged)
  let s := s.modStation 3 fun x =>
    { x with group := some ⟨812, 0xFF, [⟨2, 55, 1⟩, ⟨3, 52, 12⟩, ⟨6, 29, 60⟩, ⟨4, 65, 7⟩], 30, .commit⟩ }
  let s := s.modAcc 4 fun a => { a with damaged := 1 }
  { s with
    rules := ((s.rules.set 0 ⟨true, .yieldFloor, none, 0, 9000, 50, 3, .note⟩).set 2
      ⟨true, .consecVoid, none, 0, 4, 1, 5, .hold⟩).set 7 ⟨true, .binCeiling, none, 7, 80000, 40, 2, .note⟩
    tripped := [.slot 0 4, .probe 2 3 7], cal := 3, causes := []
    alarms := [⟨0, .yieldFloor, 3, .note, some 4, 3, none, 8500, 9000, 1, .raised⟩,
      ⟨2, .consecVoid, 5, .hold, none, 3, some 7, 4, 4, 1, .pending⟩] }

/-- Tables 5.6 and 5.7. -/
theorem test_td_close_merges_touchdown_812 :
    let t := after (.tdClose [] []) close812
    t.cellRecord 4 55 = .tested 1 12 2 2 3 ∧ t.cellRecord 4 65 = .tested 7 7 1 4 3 ∧
    t.cellRecord 4 29 = .untested ∧
    (t.slot 4).map (fun w => (w.acc.tested, w.acc.passed, w.acc.hist[1], w.acc.hist[7], w.acc.hist[12])) =
      some (61, 52, 52, 5, 4) ∧
    (t.station 3).consecFail.toList.take 8 = [0, 0, 0, 1, 1, 0, 0, 0] ∧
    (t.station 3).consecVoid.toList.take 8 = [1, 1, 0, 1, 0, 1, 4, 255] := by decide +kernel

/-- Table 7.8, the HALT before the REPLY, and the causes. -/
theorem test_td_close_evaluates_touchdown_812 :
    let t := after (.tdClose [] []) close812
    t.alarms.map (fun e => (e.rule.val, e.level.val, e.observed, e.state)) =
      [(0, 3, 8500, .raised), (2, 5, 4, .pending), (2, 5, 4, .pending), (7, 2, 81967, .raised)] ∧
    t.cal = 2 ∧ t.causes = [.alarm] ∧ (t.station 3).intake = .halted ∧ (t.station 3).group = none ∧
    (t.station 3).transmit =
      [.halt 2 5, .reply ⟨0x5A, .accept, none, some [⟨3, .cellDamaged⟩], none⟩] := by decide +kernel

theorem test_wafer_start_binds :
    let t := after .waferStart (sends 2 0x41 (lotIdBytes [0x41] ++ [1, 2]) unbound)
    (t.station 2).binding = some ⟨3, 2⟩ ∧
    (t.station 2).transmit = [.reply ⟨0x5A, .accept, none, none, some 3⟩] := by decide +kernel

theorem test_wafer_start_of_closed_wafer :
    ((after .waferStart (sends 2 0x41 (lotIdBytes [0x41] ++ [2, 0]) unbound)).station 2).transmit =
      [.reply ⟨0x5A, .refuse, some .unknownWafer, none, none⟩] := by decide +kernel

theorem test_wafer_end : ((after .waferEnd (sends 2 0x42 [] idle)).station 2).binding = none := by
  decide +kernel

/-- R61, R63: the timer is the timeout of class 0 after reset. -/
theorem test_td_open :
    ((after .tdOpen (sends 2 0x43 [0, 9, 0, 0x0F] idle)).station 2).group =
      some ⟨9, 15, [], 50, .commit⟩ := by decide +kernel

theorem test_td_abort_completes_close :
    let t := after .tdAbort (sends 2 0x46 [0, 7] closingState)
    (t.station 2).group = none ∧ t.slotIs 3 .closed = true ∧
    t.cellRecord 3 0 = .untested := by decide +kernel

/-! ## The timers -/

/-- Table 4.8: the third tick brings the timer to 0. -/
theorem test_timer_tick :
    let s := small.modStation 2 fun x => { x with group := some { group with timer := 1 }, silence := 8 }
    let t := after .timerTick s
    t.dueExpiry = some 2 ∧ (t.station 2).silence = 9 ∧ (t.station 0).silence = 0 := by decide +kernel

/-- R56, R57: WAFER_END leaves the counter to be set to 0 at the next tick, though the station is bound again
before it; the tick after counts from there. -/
theorem test_silence_after_wafer_end_and_start :
    let s := after .waferEnd (sends 2 0x42 [] (idle.modStation 2 fun x => { x with silence := 8 }))
    let s := after .waferStart (sends 2 0x41 (lotIdBytes [0x41] ++ [1, 2]) s)
    (s.station 2).binding = some ⟨3, 2⟩ ∧ (s.station 2).silence = 8 ∧
    ((after .timerTick s).station 2).silence = 0 ∧
    ((after .timerTick (after .timerTick s)).station 2).silence = 1 := by decide +kernel

/-- R57: a STOP that reaches STOPPED does so too, though START follows with the binding kept. -/
theorem test_silence_after_stop_and_start :
    let s := after .stationCtrlStop (ask 0x05 [2, 2] (idle.modStation 2 fun x => { x with silence := 8 }))
    let t := after .timerTick (after .stationCtrlStart (ask 0x05 [2, 1] s))
    (t.station 2).intake = .running ∧ (t.station 2).silence = 0 := by decide +kernel

/-- Station 2 with an expiry in DISCARD mode fallen due, and the rule 4 of 11.5. -/
def due : State :=
  let s := small.modStation 2 fun x => { x with group := some { group with timer := 0, mode := .discard } }
  let s := s.modAcc 3 fun a => { a with timeouts := 1 }
  { s with rules := s.rules.set 4 ⟨true, .groupTimeouts, none, 0, 2, 1, 1, .hold⟩, causes := [] }

/-- Table 11.2, expiry taken first. -/
theorem test_group_expiry_of_table_11_2 :
    let t := after (.groupExpiry [] []) due
    (t.slot 3).map (fun w => w.acc.timeouts) = some 2 ∧ (t.station 2).intake = .halted ∧
    (t.station 2).transmit = [.halt 4 1] ∧ (t.station 2).group = none ∧ t.causes = [.alarm] ∧ t.cal = 1 ∧
    t.cellRecord 3 0 = .untested := by decide +kernel

/-- The same expiry with the sixteenth bad frame in it: the alarm is recorded, and its hold finds the station
FAULTED (R48, R70). -/
theorem test_fault_during_expiry :
    let t := after (.groupExpiry [] [] [0xC3, 0xFF, 0xFF]) (due.modStation 2 fun x => { x with badFrames := 15 })
    (t.slot 3).map (fun w => w.acc.timeouts) = some 2 ∧ t.alarms.length = 1 ∧
    (t.station 2).intake = .faulted ∧ (t.station 2).transmit = [] ∧ (t.station 2).binding = none := by
  decide +kernel

/-! ## The Excursion Monitor's requests -/

/-- R132: the threshold of a YIELD_FLOOR rule is held at 10000, its bin as 0, a min sample of 0 as 1. -/
theorem test_rule_set_clamps :
    (after .ruleSet (ask 0x15 [4, 1, 0, 0xFF, 9, 0, 0, 0xFF, 0xFF, 0, 0, 0, 0, 3, 1] small)).rules[4] =
      ⟨true, .yieldFloor, none, 0, 10000, 1, 3, .hold⟩ := by decide +kernel

theorem test_rule_read :
    lastReply (after .ruleRead (ask 0x16 [15] small)) =
      some [0, 0, 0, 0xFF, 0, 0, 0, 0, 0, 0, 0, 0, 1, 7, 0] := by decide +kernel

/-- The list of Table 7.8. -/
def alarms812 : State := after (.tdClose [] []) close812

theorem test_alarm_list_of_table_11_3 :
    lastReply (after .alarmList (ask 0x17 [0, 32] (after (.groupExpiry [] []) due))) =
      some [0, 1, 1, 0, 1, 0, 4, 3, 1, 1, 3, 2, 0xFF, 0, 0, 0, 2, 0, 0, 0, 2, 1, 1] := by decide +kernel

/-- Table 7.9, first request. -/
theorem test_alarm_ack_of_table_7_9 :
    let t := after .alarmAck (ask 0x18 [8] alarms812)
    t.alarms.map Alarm.state = [.acked, .raised, .pending, .acked] ∧ t.cal = 5 ∧
    lastReply t = some [0, 5] := by decide +kernel

/-- Table 7.9, last request. -/
theorem test_alarm_clear_of_table_7_9 :
    let s := after .alarmAck (ask 0x18 [8] (after .alarmAck (ask 0x18 [8] alarms812)))
    let t := after .alarmClear (ask 0x19 [] s)
    t.alarms.map (fun e => (e.site, e.state)) = [(some 6, .raised)] ∧ t.cal = 5 ∧
    lastReply t = some [0, 1] := by decide +kernel

/-- Table 7.10, second and third row: the oldest of the least urgent entries makes room. -/
theorem test_full_alarm_list_of_table_7_10 :
    let e (l : Fin 8) (k : Fin 8) : Alarm := ⟨0, .linkSilent, l, .note, none, k, none, 0, 0, 1, .pending⟩
    let es := List.replicate 10 (e 4 0) ++ List.replicate 20 (e 6 0) ++ [e 7 0, e 7 1]
    let x := storeAlarm (e 6 5) es false
    x.1.length = 32 ∧ x.1[30]? = some (e 7 1) ∧ x.1[31]? = some (e 6 5) ∧ x.2 = (true, some 31) ∧
    storeAlarm (e 7 5) es false = (es, true, none) := by decide +kernel

/-! ## Plans, lots and wafers -/

/-- A PLAN_LOAD for plan 3: LATEST, limit 0 held as 1, every bin PASS of rank 99 held as 63. -/
def planBytes : List Byte := [3, 0, 0, 1] ++ (List.replicate 64 [0, 99]).flatten

theorem test_plan_load_clamps :
    let p := (after .planLoad (ask 0x08 planBytes small)).plans[3]
    p.limit = 1 ∧ p.passLock = true ∧ p.bins[63] = ⟨.pass, 63⟩ := by decide +kernel

theorem test_plan_read :
    (lastReply (after .planRead (ask 0x09 [1] small))).map (List.take 8) =
      some [0, 1, 2, 1, 0, 1, 0, 0] := by decide +kernel

theorem test_lot_open_takes_lowest_entry :
    let t := after .lotOpen (ask 0x0A (lotIdBytes [0x42] ++ [2, 50]) small)
    t.lots[0].map (fun l => (l.id, l.plan, l.expected)) = some ([0x42], 2, 50) ∧
    lastReply t = some [0, 0] := by decide +kernel

/-- Table 1.8: LOT_CLOSE with a wafer still active. -/
theorem test_lot_close_waits :
    let t := after .lotClose (ask 0x0B (lotIdBytes [0x41]) small)
    t.lots[5].map Lot.state = some .closing ∧ lastReply t = some [1] := by decide +kernel

theorem test_lot_release :
    let s := small.setLot 7 (some { lot with id := [0x43], state := .closed, active := 0 })
    (after .lotRelease (ask 0x0C (lotIdBytes [0x43]) s)).lots[7] = none := by decide +kernel

theorem test_lot_query :
    (lastReply (after .lotQuery (ask 0x0D (lotIdBytes [0x41]) small))).map (List.take 22) =
      some [0, 5, 1, 0x41, 0, 0, 0, 0, 0, 0, 0, 0, 0, 0, 0, 1, 0, 3, 1, 2, 1, 0] := by decide +kernel

/-- A WAFER_OPEN of wafer 3 of lot "A": 2 columns, 1 row, one span of columns 0 and 1. -/
def openBytes (number : Byte) : List Byte :=
  lotIdBytes [0x41] ++ [number, 0, 2, 0, 1, 0, 0, 0, 1, 0, 0, 1]

theorem test_wafer_open_initialises :
    let t := after .waferOpen (ask 0x0E (openBytes 3) small)
    t.slotIs 0 .opening = true ∧ t.cellRecord 0 0 = .untested ∧ t.cellRecord 0 1 = .untested ∧
    t.lots[5].map Lot.active = some 2 ∧ t.inProgress = some (.opening 0x5A 0) := by decide +kernel

/-- 11.2: WAFER_OPEN of a wafer in the closed list is refused EXISTS. -/
theorem test_wafer_open_of_closed_wafer :
    lastReply (after .waferOpen (ask 0x0E (openBytes 2) small)) = some [10] := by decide +kernel

theorem test_initialisation_complete :
    let t := after .initialisationComplete opening
    t.slotIs 3 .opened = true ∧ lastReply t = some [0, 3, 0, 0, 0, 3] := by decide +kernel

/-- Table 11.2, close taken first. -/
theorem test_wafer_close_waits_for_group :
    let t := after .waferClose (ask 0x0F [3] small)
    t.slotIs 3 .closing = true ∧ lastReply t = some [1] := by decide +kernel

/-- Table 11.2, expiry taken first: the close completes at once and adds no cause. -/
theorem test_wafer_close_completes :
    let t := after .waferClose (ask 0x0F [3] idle)
    t.slotIs 3 .closed = true ∧ (t.station 2).binding = none ∧ t.causes = idle.causes ∧
    t.lots[5].map (fun l => (l.closedList, l.totals.tested, l.totals.gross, l.active)) =
      some ([1, 2], 2, 4, 0) := by decide +kernel

theorem test_wafer_reopen :
    let t := after .waferReopen (ask 0x10 [4] small)
    t.slotIs 4 .opened = true ∧
    t.lots[5].map (fun l => (l.closedList, l.totals.tested, l.totals.gross, l.active)) =
      some ([], 0, 0, 2) := by decide +kernel

theorem test_wafer_release :
    let t := after .waferRelease (ask 0x11 [4] small)
    t.slot 4 = none ∧ t.lots[5].map Lot.closedList = some [2] := by decide +kernel

theorem test_wafer_query :
    (lastReply (after .waferQuery (ask 0x12 [3] small))).map (List.take 21) =
      some [0, 2, 1, 0x41, 0, 0, 0, 0, 0, 0, 0, 0, 0, 0, 0, 1, 0, 2, 0, 2, 0] := by decide +kernel

/-! ## CELL_READ and YIELD_QUERY -/

/-- The read before TD_CLOSE of 4.11.1: an uncorrectable error turns the cell DAMAGED. -/
theorem test_cell_read_damages :
    let s := ask 0x13 [3, 0, 0, 0, 2] { small with causes := [] }
    let t := after (.cellRead 1 [⟨3, 0, .uncorrectable⟩]) s
    t.cellRecord 3 0 = .damaged ∧ t.causes = [.mapFault] ∧
    (t.slot 3).map (fun w => w.acc.damaged) = some 1 := by decide +kernel

theorem test_cell_read_complete :
    let s := ask 0x13 [3, 0, 1, 0, 9] small
    let t := after (.cellReadComplete []) (after (.cellRead 0 []) s)
    lastReply t = some [0, 3, 0, 1, 0, 1, 2, 2, 17, 0x20] := by decide +kernel

/-- Table 6.9: T, P, G, TY and GY of slot 4 after touchdown 812. -/
theorem test_yield_query_slot_of_table_6_9 :
    let s := (close812.modAcc 4 fun a => { a with tested := 61, passed := 52 })
    (lastReply (after .yieldQuerySlot (ask 0x14 ([0, 4] ++ List.replicate 12 0) s))).map (List.take 20) =
      some [0, 0, 4, 2, 0, 0, 0, 61, 0, 0, 0, 52, 0, 0, 0, 92, 0x21, 0x4D, 0x16, 0x14] := by
  decide +kernel

theorem test_yield_query_lot :
    (lastReply (after .yieldQueryLot (ask 0x14 (1 :: lotIdBytes [0x41]) small))).map (List.drop 16) =
      some ([1, 0, 0, 0, 1, 0, 0, 0, 1, 0, 0, 0, 1, 0x27, 0x10, 0x27, 0x10, 0, 0, 0, 1] ++
        List.replicate 252 0) := by decide +kernel

/-! ## The Map Export Unit -/

/-- R155: a window of 0 is held as 1. -/
theorem test_export_start :
    let t := after .exportStart (ask 0x1A [4, 1, 0] small)
    t.mex = some ⟨false, 4, .full, 1, 0, 1, none⟩ ∧ t.slotIs 4 .exporting = true ∧
    lastReply t = some [0, 4, 1, 1, 0, 1] := by decide +kernel

/-- Table 8.4: EXPORT_MORE, n = 4, finds the unit WAITING. -/
theorem test_export_more :
    let s : State := { exporting with
      mex := some ⟨true, 4, .brief, 10, 4, 0, none⟩, causes := [.exportWaiting] }
    let t := after .exportMore (ask 0x1B [4] s)
    t.mex = some ⟨false, 4, .brief, 10, 4, 4, none⟩ ∧ t.causes = [] ∧ lastReply t = some [0, 4] := by
  decide +kernel

theorem test_export_stop :
    let t := after .exportStop (ask 0x1C [] exporting)
    t.mex = none ∧ t.slotIs 4 .closed = true ∧ lastReply t = some [0, 0, 0] := by decide +kernel

/-- R163, R171: the end of the export and the reply wait until the segment has been sent whole. -/
theorem test_export_stop_waits_for_segment :
    let s := ask 0x1C [] sending
    let t := after .exportStop s
    t.slotIs 4 .exporting = true ∧ t.inProgress = some (.stopping 0x5A) ∧ t.ready = s.ready ∧
    (after .exportStop t).mex = none ∧ (after .exportStop t).slotIs 4 .closed = true ∧
    lastReply (after .exportStop t) = some [0, 0, 1] := by decide +kernel

/-- R163 steps 2 and 4: the NOTICE after the segment lists EXPORT_WAITING no more. -/
theorem test_notice_after_stopped_export :
    let t := after .noticeTaken { stopping with causes := [.alarm, .exportWaiting] }
    t.hostLine = some ⟨0xA0, 0, [0x20]⟩ ∧ t.mex = none ∧ lastReply t = some [0, 0, 1] := by decide +kernel

/-- R171: while EXPORT_STOP holds the link four requests may wait, and a fifth is answered QUEUE_FULL first. -/
theorem test_queue_full_while_export_stop_waits :
    let s : State := { stopping with requests := List.replicate 4 ⟨0x01, 0, []⟩, ready := [] }
    let t := after .exportStop (after (.hostFrameReceive (Frame.bytes ⟨0x01, 6, []⟩)) s)
    t.ready = [.reply true ⟨0x81, 6, [6]⟩, .reply false ⟨0x9C, 9, [0, 0, 1]⟩] := by decide +kernel

theorem test_map_segment_build :
    (after (.mapSegmentBuild []) exporting).mex.map Mex.offered =
      some (some (.segment ⟨0xA1, 0, [4, 0, 0, 0, 0, 1, 0]⟩)) := by decide +kernel

/-- 8.9.2: the read finds an uncorrectable error, and the code is 65. -/
theorem test_map_segment_build_damages :
    let t := after (.mapSegmentBuild [⟨4, 0, .uncorrectable⟩]) exporting
    t.mex.map Mex.offered = some (some (.segment ⟨0xA1, 0, [4, 0, 0, 0, 0, 1, 65]⟩)) ∧
    (t.slot 4).map (fun w => w.acc.damaged) = some 1 := by decide +kernel

/-- Table 8.4: the segment that spends the window leaves the unit WAITING. -/
theorem test_map_segment_taken_waits :
    let s : State := { exporting with
      ready := [], mex := some ⟨false, 4, .brief, 10, 3, 1, some (.segment ⟨0xA1, 0, []⟩)⟩ }
    let t := after .mapSegmentTaken s
    t.mex = some ⟨true, 4, .brief, 10, 4, 0, none⟩ ∧ Cause.exportWaiting ∈ t.causes := by decide +kernel

/-- Slot 4 with its one segment taken. -/
def exported : State := { exporting with ready := [], mex := some ⟨false, 4, .brief, 1, 1, 1, none⟩ }

theorem test_export_end_build :
    ((after .exportEndBuild exported).mex.bind Mex.offered) =
      some (.finish ⟨0xA2, 0, [4, 0, 0, 0, 1, 0, 0, 0, 1, 0, 0, 0, 1, 0, 0, 0, 0, 0, 0, 0, 1] ++
        List.replicate 252 0⟩) := by decide +kernel

theorem test_export_end_taken :
    let t := after .exportEndTaken (after .exportEndBuild exported)
    t.mex = none ∧ t.slotIs 4 .closed = true ∧ Cause.exportDone ∈ t.causes := by decide +kernel

/-! ## Witnesses of the statements

Each theorem shows, for the statement its name ends in, states and operands that meet its hypotheses; where
the statement has several clauses, one for each. -/

/-- The request that `ask` leaves waiting can be taken. -/
theorem ask_offers (k : Byte) (p : List Byte) (s : State) (h : s.rst = false)
    (g : s.inProgress = none) (c : s.carriedWaiting < 8) : (ask k p s).Offers ⟨k, 0x5A, p⟩ [] :=
  ⟨h, g, c, rfl⟩

theorem small_offers (k : Byte) (p : List Byte) : (ask k p small).Offers ⟨k, 0x5A, p⟩ [] :=
  ask_offers k p small (by decide +kernel) (by decide +kernel) (by decide +kernel)

theorem exporting_offers (k : Byte) (p : List Byte) : (ask k p exporting).Offers ⟨k, 0x5A, p⟩ [] :=
  ask_offers k p exporting (by decide +kernel) (by decide +kernel) (by decide +kernel)

theorem test_witness_ResetsAndPinHold :
    (ask 0x03 [0] small).Offers ⟨0x03, 0x5A, [0]⟩ [] ∧ u8 [(0 : Byte)] 0 = 0 ∧
    (ask 0x03 [2] small).Offers ⟨0x03, 0x5A, [2]⟩ [] ∧ 1 < u8 [(2 : Byte)] 0 ∧
    (after .rstAssert small).rst = true ∧ Instr.identify ≠ .rstAssert ∧ Instr.identify ≠ .rstRelease :=
  ⟨small_offers _ _, by decide, small_offers _ _, by decide, by decide +kernel, by decide, by decide⟩

/-- A restart that waits, with slot 3 CLOSING and slot 4 EXPORTING. -/
def restarting : State :=
  { exporting.setSlot 3 (some { wafer with state := .closing }) with inProgress := some (.restarting 4) }

theorem test_witness_CollationRestartStopsCollation :
    (ask 0x03 [1] small).Offers ⟨0x03, 0x5A, [1]⟩ [] ∧ u8 [(1 : Byte)] 0 = 1 ∧
    restarting.rst = false ∧ restarting.dueExpiry = none ∧
    restarting.inProgress = some (.restarting 4) ∧ restarting.slotIs 3 .closing = true ∧
    restarting.mex.map Mex.slot = some 4 ∧ restarting.slotIs 4 .exporting = true ∧
    restarting.slot 0 = none ∧ restarting.lots[(0 : Fin 16)] = none ∧
    restarting.lots[(5 : Fin 16)] = some lot ∧
    (restarting.setLot 5 (some { lot with state := .closing })).lots[(5 : Fin 16)].map Lot.state =
      some .closing :=
  ⟨small_offers _ _, by decide +kernel⟩

/-- The law of the Lot Table holds there, with the lot OPEN and with it CLOSING (so that it closes too). -/
theorem test_witness_CollationRestartStopsCollation_lots :
    restarting.LotLaw ∧ (restarting.setLot 5 (some { lot with state := .closing })).LotLaw := by
  refine ⟨?_, ?_⟩ <;> decide +kernel

theorem test_witness_ReceiverReadsExactlyWholeFrames :
    ((List.replicate 1020 0 : List Byte).length ≤ 1020 ∧ ∀ b ∈ ([0, 0xC2] : List Byte), b ≠ sync) ∧
    receive (Frame.bytes ⟨0x40, 8, []⟩ ++ [7]) = .good ⟨0x40, 8, []⟩ [7] := by decide +kernel

theorem test_witness_LotIdFieldReadsBack :
    LotId.wf [0x21] = true ∧ LotId.wf (List.replicate 12 0x7E) = true := by decide

theorem test_witness_HostFramesAreExamined :
    State.reset.rst = false ∧ State.reset.hostRx = [] ∧
    requestLength 0x04 [1, 2, 3] = some 3 ∧ requestLength 0x1C [] = some 0 ∧
    requestLength 0x01 [9] = some 0 ∧ State.reset.requests.length < 4 ∧
    4 ≤ ({ State.reset with requests := List.replicate 4 ⟨0x01, 0, []⟩ } : State).requests.length ∧
    BringsBadFrame State.reset.hostRx [0xC3, 0xFF, 0xFF] [0xFF, 0xFF] [] ∧
    BringsBadFrame [] [0xC3, 0x03, 0xFD, 0xC3] [0x03, 0xFD, 0xC3] [0xC3] := by decide +kernel

theorem test_witness_IdentifyReportsPart : (ask 0x01 [] small).Offers ⟨0x01, 0x5A, []⟩ [] :=
  small_offers _ _

theorem test_witness_StatusReportsTopCause :
    (ask 0x02 [] small).Offers ⟨0x02, 0x5A, []⟩ [] ∧
    (ask 0x02 [] small).causes = Cause.all.filter fun c => decide (c ∈ (ask 0x02 [] small).causes) :=
  ⟨small_offers _ _, by decide +kernel⟩

theorem test_witness_TransmittersTakeOldestFrame :
    small.rst = false ∧ small.ready = .notice :: [] ∧
    ({ small with ready := [.reply true ⟨0x80, 0, [5]⟩, .notice] } : State).ready =
      .reply true ⟨0x80, 0, [5]⟩ :: [.notice] ∧
    ((small.modStation 2 fun x => { x with transmit := [.resume] }).station 2).transmit = .resume :: [] ∧
    (small.station 2).transmit = [] ∧ small.inProgress = none ∧
    stopping.rst = false ∧ stopping.inProgress = some (.stopping 9) ∧ stopping.ready = .notice :: [] ∧
    stopping.mex = some ⟨false, 4, .brief, 3, 1, 2, none⟩ ∧
    stopping.slot 4 = some { closedWafer with state := .exporting } ∧
    ({ stopping with ready := [.reply true ⟨0x80, 0, [5]⟩] } : State).ready =
      .reply true ⟨0x80, 0, [5]⟩ :: [] := by decide +kernel

theorem test_witness_AddedCauseMakesOneNotice :
    Cause.restarted ∈ small.causes ∧
    ({ small with causes := [], ready := [] } : State).causes = [] ∧
    ReadyFrame.notice ∉ ({ small with causes := [], ready := [] } : State).ready ∧
    Cause.alarm ∉ small.causes ∧ small.causes ≠ [] ∧
    Cause.alarm ∉ ({ small with causes := [] } : State).causes ∧
    ReadyFrame.notice ∈ ({ small with causes := [] } : State).ready := by decide +kernel

theorem test_witness_RowsWaitTheirTurn :
    opening.inProgress ≠ none ∧ small.requests = [] ∧
    opening.inProgress = some (.opening 9 3) ∧
    8 ≤ ({ small with ready := List.replicate 8 (.reply false ⟨0x81, 0, [0]⟩) } : State).carriedWaiting ∧
    small.grant = none ∧ restarting.restarting = true ∧ due.dueExpiry ≠ none := by decide +kernel

theorem test_witness_StationAndClassSettings :
    (ask 0x04 [0, 16, 3] small).Offers ⟨0x04, 0x5A, [0, 16, 3]⟩ [] ∧
    (ask 0x07 [3, 255, 1] small).Offers ⟨0x07, 0x5A, [3, 255, 1]⟩ [] ∧
    (ask 0x07 [0, 0, 0] small).Offers ⟨0x07, 0x5A, [0, 0, 0]⟩ [] ∧
    (u8 [(0 : Byte), 16, 3] 0 = (0 : StationId).val ∧ u8 [(0 : Byte), 16, 3] 2 = (3 : Fin 4).val ∧
      (small.station 0).intake = .held) ∧
    (u8 [(2 : Byte), 0, 0] 0 = (2 : StationId).val ∧ (small.station 2).intake ≠ .held ∧
      (small.station 2).intake ≠ .stopped) ∧
    (7 < u8 [(8 : Byte), 0, 0] 0 ∧ 3 < u8 [(0 : Byte), 0, 4] 2) ∧
    (∀ i : StationId, (small.station i).timingClass = 3 → (small.station i).intake = .held) ∧
    ((small.station 2).timingClass = 0 ∧ (small.station 2).intake = .running) ∧
    3 < u8 [(4 : Byte), 1, 1] 0 ∧ 1 < u8 [(0 : Byte), 1, 2] 2 :=
  ⟨small_offers _ _, small_offers _ _, small_offers _ _, by decide +kernel⟩

/-- A station of each intake state and each of the four action codes: every entry of Table 3.7. -/
theorem test_witness_StationCtrlFollowsTable (a : Byte) (x : Intake) :
    (ask 0x05 [2, a] (intake 2 x small)).Offers ⟨0x05, 0x5A, [2, a]⟩ [] ∧
    u8 [2, a] 0 = (2 : StationId).val ∧ u8 [2, a] 1 = a.toNat ∧
    ((ask 0x05 [2, a] (intake 2 x small)).station 2).intake = x ∧
    ((ask 0x05 [2, a] (intake 2 x small)).station 2).group ≠ none ∧
    (idle.station 2).group = none ∧ 7 < u8 [(8 : Byte), 0] 0 ∧ 3 < u8 [(2 : Byte), 4] 1 :=
  ⟨ask_offers _ _ _ rfl rfl (by decide +kernel : small.carriedWaiting < 8), rfl, rfl, rfl,
    (by decide +kernel : (small.station 2).group ≠ none), by decide +kernel, by decide, by decide⟩

theorem test_witness_StationQueryReportsFields :
    (ask 0x06 [7] small).Offers ⟨0x06, 0x5A, [7]⟩ [] ∧ u8 [(7 : Byte)] 0 = (7 : StationId).val ∧
    (ask 0x06 [8] small).Offers ⟨0x06, 0x5A, [8]⟩ [] ∧ 7 < u8 [(8 : Byte)] 0 :=
  ⟨small_offers _ _, by decide, small_offers _ _, by decide⟩

theorem test_witness_BadStationFrameRaisesCount :
    small.rst = false ∧ (small.station 2).intake ≠ .faulted ∧
    BringsBadFrame (small.station 2).rx [0xC3, 0x04, 0x00] [0x04, 0x00] [] ∧
    ((small.modStation 2 fun x => { x with badFrames := 14 }).station 2).badFrames < 15 ∧
    (small.station 0).intake = .held := by decide +kernel

/-- Station 2 one bad frame away from its fault, its slot CLOSING. -/
def faulting : State := closingState.modStation 2 fun x => { x with badFrames := 15 }

theorem test_witness_SixteenthBadFrameFaultsStation :
    faulting.rst = false ∧ faulting.BindingLaw ∧
    BringsBadFrame (faulting.station 2).rx [0xC3, 0xFF, 0xFF] [0xFF, 0xFF] [] ∧
    15 ≤ (faulting.station 2).badFrames ∧ (faulting.station 2).badFrames ≤ 16 ∧
    (faulting.station 2).intake = .running ∧ (faulting.station 2).binding = some ⟨3, 0⟩ ∧
    (faulting.slot 3).map Wafer.state = some .closing ∧ faulting.slotIs 3 .closing = true ∧
    faulting.slotIs 4 .closing = false ∧
    (small.station 2).binding = some ⟨3, 0⟩ ∧ small.slotIs 3 .closing = false ∧ small.BindingLaw := by
  refine ⟨?_, ?_, ?_, ?_, ?_, ?_, ?_, ?_, ?_, ?_, ?_, ?_, ?_⟩ <;> decide +kernel

/-- Station 2 one bad frame away from its fault, in an intake state with a record of this kind granted. -/
def failing (k : Byte) (p : List Byte) (x : Intake) (s : State) : State :=
  sends 2 k p ((intake 2 x s).modStation 2 fun y => { y with badFrames := 15 })

/-- The same with the count at 16 already. -/
def failed (k : Byte) (p : List Byte) (x : Intake) (s : State) : State :=
  (failing k p x s).modStation 2 fun y => { y with badFrames := 16 }

/-- The record in hand: each kind of record granted while a bad frame faults the station, with the slot OPEN
and CLOSING, and the group and the binding that the clauses name. -/
theorem test_witness_SixteenthBadFrameFaultsStation_record :
    ((failing 0x45 [0, 7] .stopping small).Grants 2 ⟨0x45, 0x5A, [0, 7]⟩ [] ∧
      (failing 0x45 [0, 7] .stopping small).BindingLaw ∧ [(0xC3 : Byte), 0xFF, 0xFF] ≠ [] ∧
      BringsBadFrame ((failing 0x45 [0, 7] .stopping small).station 2).rx [0xC3, 0xFF, 0xFF] [0xFF, 0xFF] []) ∧
    (((failing 0x45 [0, 7] .stopping small).station 2).badFrames = 15 ∧
      ((failed 0x45 [0, 7] .stopping small).station 2).badFrames = 16 ∧
      ((failing 0x45 [0, 7] .stopping small).station 2).group = some group ∧
      ((failing 0x45 [0, 7] .stopping small).station 2).binding = some ⟨3, 0⟩ ∧
      group.touchdown = u16 [0, 7] 0) ∧
    (failing 0x44 [0, 7, 1, 1, 0, 1, 0, 0, 0] .halted small).Grants 2
      ⟨0x44, 0x5A, [0, 7, 1, 1, 0, 1, 0, 0, 0]⟩ [] ∧
    (failing 0x46 [0, 7] .stopping small).Grants 2 ⟨0x46, 0x5A, [0, 7]⟩ [] ∧
    (failed 0x46 [0, 7] .running closingState).Grants 2 ⟨0x46, 0x5A, [0, 7]⟩ [] ∧
    (failed 0x46 [0, 7] .running closingState).BindingLaw ∧
    ((failed 0x46 [0, 7] .running closingState).slotIs 3 .closing = true ∧
      (failing 0x46 [0, 7] .stopping small).slotIs 3 .closing = false) ∧
    (failing 0x41 (lotIdBytes [0x41] ++ [1, 2]) .running unbound).Grants 2
      ⟨0x41, 0x5A, lotIdBytes [0x41] ++ [1, 2]⟩ [] ∧
    (failing 0x42 [] .running idle).Grants 2 ⟨0x42, 0x5A, []⟩ [] ∧
    (failing 0x43 [0, 9, 0, 1] .running idle).Grants 2 ⟨0x43, 0x5A, [0, 9, 0, 1]⟩ [] ∧
    (failing 0x43 [0, 9, 0, 1] .running idle).BindingLaw := by
  refine ⟨?_, ?_, ?_, ?_, ?_, ?_, ?_, ?_, ?_, ?_⟩ <;> decide +kernel

theorem test_witness_SixteenthBadFrameFaultsStation_expiry :
    let s := due.modStation 2 fun x => { x with badFrames := 15 }
    let c := s.modStation 2 fun x => { x with badFrames := 16, group := some { group with timer := 0 } }
    (s.rst = false ∧ s.dueExpiry = some 2 ∧ (s.station 2).group = some { group with timer := 0, mode := .discard } ∧
      (s.station 2).binding = some ⟨3, 0⟩ ∧ (s.slot 3).isSome = true ∧ (s.station 2).badFrames = 15 ∧
      (s.station 2).intake = .running ∧
      BringsBadFrame (s.station 2).rx [0xC3, 0xFF, 0xFF] [0xFF, 0xFF] []) ∧
    (c.dueExpiry = some 2 ∧ (c.station 2).group = some { group with timer := 0, mode := .commit } ∧
      (c.station 2).badFrames = 16) := by decide +kernel

/-- A LINK_CHECK, a bad frame that does not fault the station, and a record that finds the last but one place,
each arriving while a TD_CLOSE is carried out; and while an expiry is taken. -/
theorem test_witness_StationFramesAreExamined_during :
    let s := sends 2 0x45 [0, 7] small
    let full := s.modStation 2 fun x => { x with staging := ⟨0x45, 0x5A, [0, 7]⟩ :: List.replicate 5 ⟨0x42, 0, []⟩ }
    (s.Grants 2 ⟨0x45, 0x5A, [0, 7]⟩ [] ∧ full.Grants 2 ⟨0x45, 0x5A, [0, 7]⟩ (List.replicate 5 ⟨0x42, 0, []⟩)) ∧
    ((after (.badFrame 2 (Frame.bytes ⟨0x40, 8, []⟩)) s).station 2).intake = .running ∧
    ((after (.badFrame 2 (Frame.bytes ⟨0x40, 8, []⟩)) s).station 2).transmit.length = 1 ∧
    ((after (.badFrame 2 [0xC3, 0xFF, 0xFF]) s).station 2).badFrames = 1 ∧
    ((after (.badFrame 2 (Frame.bytes ⟨0x42, 8, []⟩)) full).station 2).staging.length = 7 ∧
    (due.rst = false ∧ due.dueExpiry = some 2 ∧
      ((after (.badFrame 2 [0xC3, 0xFF, 0xFF]) due).station 2).intake = (due.station 2).intake) := by
  decide +kernel

theorem test_witness_StationFramesAreExamined :
    small.rst = false ∧ (small.station 2).intake ≠ .faulted ∧ (small.station 2).rx = [] ∧
    ((0x3F : Byte).toNat < 0x40 ∧ 0x46 < (0x47 : Byte).toNat) ∧
    (recordFits 0x44 [0, 7, 0] = some false ∧ recordFits 0x42 [0] = some false) ∧
    (recordFits 0x43 [0, 9, 0, 1] = some true ∧ (small.station 0).intake = .held ∧
      (small.station 2).intake ≠ .held ∧ (small.station 2).intake ≠ .stopped ∧
      (small.station 2).staging.length < 8 ∧
      8 ≤ ((small.modStation 2 fun x =>
        { x with staging := List.replicate 8 ⟨0x42, 0, []⟩ }).station 2).staging.length) ∧
    ((intake 2 .faulted small).station 2).intake = .faulted := by decide +kernel

theorem test_witness_GrantIsLowestPriorityThenNextPort :
    (sends 2 0x42 [] small).grant = some 2 ∧ small.grant = none := by decide +kernel

/-- Station 2 in an intake state with a record of this kind granted. -/
def granting (k : Byte) (p : List Byte) (x : Intake) (s : State) : State := sends 2 k p (intake 2 x s)

theorem test_witness_RecordsAreRefusedInOrder :
    (granting 0x41 [] .stopped small).Grants 2 ⟨0x41, 0x5A, []⟩ [] ∧
    (granting 0x43 [] .stopping small).Grants 2 ⟨0x43, 0x5A, []⟩ [] ∧
    (granting 0x43 [] .halted small).Grants 2 ⟨0x43, 0x5A, []⟩ [] ∧
    (granting 0x46 [0, 7] .running idle).Grants 2 ⟨0x46, 0x5A, [0, 7]⟩ [] ∧
    ((granting 0x46 [0, 7] .running idle).station 2).group = none ∧
    (granting 0x45 [0, 6] .halted small).Grants 2 ⟨0x45, 0x5A, [0, 6]⟩ [] ∧
    ((granting 0x45 [0, 6] .halted small).station 2).group = some group ∧
    group.touchdown ≠ u16 [0, 6] 0 := by
  refine ⟨?_, ?_, ?_, ?_, ?_, ?_, ?_⟩ <;> decide +kernel

/-- The payload of a WAFER_START. -/
def startBytes (id : LotId) (number q : Byte) : List Byte := lotIdBytes id ++ [number, q]

/-- Station 0, RUNNING and unbound, with a WAFER_START granted. -/
def starting (number : Byte) (s : State) : State :=
  sends 0 0x41 (startBytes [0x41] number 3) (intake 0 .running s)

theorem test_witness_WaferStartAndEndBind :
    (starting 1 small).Grants 0 ⟨0x41, 0x5A, startBytes [0x41] 1 3⟩ [] ∧
    (lotIdField (startBytes [0x41] 50 3) 0 = some [0x41] ∧ u8 (startBytes [0x41] 50 3) 13 = 50 ∧
      u8 (startBytes [0x41] 50 3) 14 = (3 : Fin 4).val) ∧
    (lotIdField (startBytes [0x20] 1 0) 0 = none ∧ u8 (startBytes [0x41] 0 0) 13 = 0 ∧
      50 < u8 (startBytes [0x41] 51 0) 13 ∧ 3 < u8 (startBytes [0x41] 1 4) 14) ∧
    ((small.station 2).binding ≠ none ∧ ((starting 1 small).station 0).binding = none) ∧
    ((small.slot 4).map Wafer.number = some 2 ∧ (small.slot 4).map Wafer.state = some .closed) ∧
    ((opening.slot 3).map Wafer.state = some .opening ∧ (closingState.slot 3).map Wafer.state = some .closing ∧
      small.boundStation 3 ≠ none ∧ unbound.boundStation 3 = none) ∧
    (∀ m : SlotId, ∀ v ∈ (unbound.slot m).toList, v.lot = [0x41] → v.number = 1 → m = 3) ∧
    (granting 0x42 [] .stopping small).Grants 2 ⟨0x42, 0x5A, []⟩ [] ∧
    (unbound.station 2).binding = none ∧ (small.station 2).group ≠ none ∧ (idle.station 2).group = none ∧
    (idle.station 2).binding ≠ none := by
  refine ⟨?_, ?_, ?_, ?_, ?_, ?_, ?_, ?_⟩ <;> decide +kernel

theorem test_witness_TdOpenOpensGroup :
    (granting 0x43 [0, 9, 0x80, 0] .running idle).Grants 2 ⟨0x43, 0x5A, [0, 9, 0x80, 0]⟩ [] ∧
    u16 [0, 9, 0x80, 0] 2 ≠ 0 ∧ u16 [0, 9, 0, 0] 2 = 0 ∧ (unbound.station 2).binding = none ∧
    (idle.station 2).binding = some ⟨3, 0⟩ ∧ closingState.slotIs 3 .closing = true ∧
    idle.slotIs 3 .closing = false ∧ (small.station 2).group ≠ none ∧ (idle.station 2).group = none := by
  refine ⟨?_, ?_⟩ <;> decide +kernel

/-- The reads of Table 4.6's outcomes on the small state: cell 0 UNTESTED, cell 1 TESTED with count 1 and
final bin 2 (FAIL), the same with count 2, with final bin 0 (PASS), and DAMAGED. -/
theorem test_witness_TdResultsChecksEntries :
    (granting 0x44 [0, 7, 1, 1, 0, 1, 0, 0, 0] .halted small).Grants 2
      ⟨0x44, 0x5A, [0, 7, 1, 1, 0, 1, 0, 0, 0]⟩ [] ∧
    ((small.station 2).group = some group ∧ group.touchdown = u16 [0, 7] 0 ∧
      (small.station 2).binding = some ⟨3, 0⟩ ∧ small.slot 3 = some wafer) ∧
    (group.active.getLsbD 1 = true ∧ group.active.getLsbD 2 = false ∧
      (∃ e ∈ group.entries, e.site = 0) ∧ ∀ e ∈ group.entries, e.site ≠ 1) ∧
    (transform wafer 0 2 0 = .offMap ∧ transform wafer 0 1 (-1) = .offWafer ∧
      transform wafer 0 0 0 = .cell 0 ∧ transform wafer 0 1 0 = .cell 1) ∧
    ((∃ e ∈ group.entries, e.cell = 0) ∧ ∀ e ∈ group.entries, e.cell ≠ 1) ∧
    (plan.cls 4 = .unused ∧ plan.cls 63 = .unused ∧ (small.planOf [0x41]).cls 3 = .void ∧
      (small.planOf [0x41]).isResult 0 = true ∧ (small.planOf [0x41]).passLock = true ∧
      (small.planOf [0x41]).limit = 2) ∧
    (small.readCell 3 1).2 = .tested 2 2 1 1 2 ∧ (small.readCell 3 2).2 = .untested ∧
    ((small.writeCell 3 1 (.tested 2 2 2 1 2)).readCell 3 1).2 = .tested 2 2 2 1 2 ∧
    ((small.writeCell 3 1 (.tested 0 2 1 1 2)).readCell 3 1).2 = .tested 0 2 1 1 2 ∧
    ((small.writeCell 3 1 .damaged).readCell 3 1).2 = .damaged := by
  refine ⟨?_, ?_, ?_, ?_, ?_, ?_, ?_⟩ <;> decide +kernel

theorem test_witness_TdCloseAndAbortEndGroup :
    (granting 0x45 [0, 7] .running small).Grants 2 ⟨0x45, 0x5A, [0, 7]⟩ [] ∧
    (granting 0x46 [0, 7] .running small).Grants 2 ⟨0x46, 0x5A, [0, 7]⟩ [] ∧
    (granting 0x46 [0, 7] .stopping small).Grants 2 ⟨0x46, 0x5A, [0, 7]⟩ [] ∧
    (small.station 2).group = some group ∧ group.touchdown = u16 [0, 7] 0 ∧
    (small.station 2).binding = some ⟨3, 0⟩ ∧ small.slotIs 3 .closing = false ∧
    (granting 0x46 [0, 7] .halted closingState).Grants 2 ⟨0x46, 0x5A, [0, 7]⟩ [] ∧
    closingState.slotIs 3 .closing = true ∧ closingState.boundStation 3 = some 2 := by
  refine ⟨?_, ?_, ?_, ?_, ?_, ?_, ?_, ?_⟩ <;> decide +kernel

theorem test_witness_CommitItemEffects :
    (small.slot 3 = some wafer ∧ ∀ k : SiteId, wafer.acc.sites[k].tests ≤ topCount ∧
      wafer.acc.sites[k].passes ≤ topCount ∧ wafer.acc.sites[k].voids ≤ topCount) ∧
    (∀ k : SiteId, (small.station 2).consecFail[k] ≤ 255 ∧ (small.station 2).consecVoid[k] ≤ 255) ∧
    (plan.cls 3 = .void ∧ plan.cls 0 = .pass ∧ plan.cls 2 = .fail) ∧
    ((small.cellWord 3 0).health = .clean ∧ small.cellRecord 3 0 = .untested ∧
      (small.writeCell 3 0 .damaged).cellRecord 3 0 = .damaged ∧
      small.cellRecord 3 1 = .tested 2 2 1 1 2) ∧
    (plan.finalBin 1 0 = 1 ∧ plan.finalBin 2 0 ≠ 2 ∧ plan.cls 1 = .pass ∧ wafer.acc.passed = 0) ∧
    (((small.upset [⟨3, 1, .correctable⟩]).cellWord 3 1).health = .correctable ∧
      ((small.upset [⟨3, 1, .uncorrectable⟩]).cellWord 3 1).health = .uncorrectable) ∧
    (plan.policy = .best ∧ plan.bins[(1 : Bin)].rank ≤ plan.bins[(0 : Bin)].rank ∧
      plan.bins[(0 : Bin)].rank < plan.bins[(2 : Bin)].rank ∧ Plan.reset.policy = .latest) := by
  refine ⟨?_, ?_, ?_, ?_, ?_, ?_, ?_⟩ <;> decide +kernel

theorem test_witness_CommitRunsItemsThenRules :
    group.Lawful ∧ small.slot 3 = some wafer ∧ small.reading = false ∧ reading.slot 3 = some wafer ∧
    reading.inProgress = some (.reading 9 3 0 0 0 2 []) ∧
    allRead.inProgress = some (.reading 9 3 0 0 0 2 [.untested, .tested 2 2 1 1 2]) := by
  refine ⟨?_, ?_, ?_, ?_⟩ <;> decide +kernel

theorem test_witness_GroupEndAndCloseCompletion :
    (small.station 2).binding = some ⟨3, 0⟩ ∧ small.slotIs 3 .closing = false ∧
    closingState.slotIs 3 .closing = true ∧ closingState.boundStation 3 = some 2 ∧
    small.slot 3 = some wafer ∧ small.findLot wafer.lot = some 5 ∧ small.lots[5] = some lot ∧
    1 ≤ lot.active ∧
    ∀ i j : StationId, (small.station i).binding.map Binding.slot = some 3 →
      (small.station j).binding.map Binding.slot = some 3 → i = j := by decide +kernel

theorem test_witness_TickCountsSilenceAndTimers :
    small.rst = false ∧ ∀ k : Fin 16, small.rules[k].enabled = false ∨ small.rules[k].kind ≠ .linkSilent := by
  decide +kernel

/-- The group whose timer has run out, in each mode. -/
def dueGroup (m : ExpiryMode) : Group := { group with timer := 0, mode := m }

def dueState (m : ExpiryMode) : State := small.modStation 2 fun x => { x with group := some (dueGroup m) }

theorem test_witness_ExpiryTakesLowestStation (m : ExpiryMode) :
    (dueState m).rst = false ∧ ((dueState m).station 2).group = some (dueGroup m) ∧
    (dueGroup m).timer = 0 ∧ ((dueState m).station 2).binding = some ⟨3, 0⟩ ∧
    (∀ j : StationId, j < 2 → ((dueState m).station j).group.map Group.timer ≠ some 0) ∧
    (dueState m).slot 3 = some wafer ∧ (dueGroup m).mode = m := by
  cases m <;> decide +kernel

theorem test_witness_RuleConditionsFollowTable :
    0 < wafer.acc.tested ∧ 0 < wafer.acc.sites[(1 : SiteId)].tests := by decide +kernel

/-- Rule 15 is a LINK_SILENT rule for station 2. -/
def silentRule : State :=
  { small with rules := small.rules.set 15 ⟨true, .linkSilent, some 2, 0, 1, 1, 3, .note⟩ }

theorem test_witness_EvaluationTripsInRuleOrder :
    (Watch.slot 4 3 ∉ due.tripped ∧ Watch.slot 0 4 ∈ close812.tripped) ∧
    ((⟨true, 2⟩ : Finding).holds = true ∧ (⟨false, 2⟩ : Finding).holds = false) ∧
    (due.rules[(0 : Fin 16)].enabled = false ∧ due.rules[(4 : Fin 16)].kind = .groupTimeouts) ∧
    (close812.rules[(0 : Fin 16)].enabled = true ∧ close812.rules[(0 : Fin 16)].scope = none ∧
      close812.rules[(0 : Fin 16)].kind = .yieldFloor ∧ close812.rules[(2 : Fin 16)].kind = .consecVoid ∧
      close812.rules[(7 : Fin 16)].kind = .binCeiling) ∧
    (close812.slot 4).isSome = true ∧
    (due.rules[(4 : Fin 16)].enabled = true ∧ due.rules[(4 : Fin 16)].scope = none ∧
      (due.slot 3).isSome = true ∧ close812.rules[(0 : Fin 16)].kind ≠ .groupTimeouts) ∧
    ((silentRule.rules[(15 : Fin 16)].enabled = true ∧ silentRule.rules[(15 : Fin 16)].kind = .linkSilent) ∧
      silentRule.rules[(15 : Fin 16)].scope = some 2 ∧ silentRule.rules[(15 : Fin 16)].scope ≠ some 0) := by
  decide +kernel

/-- An alarm entry of a level, a state and a station. -/
def entry (l : Fin 8) (x : AlarmState) (k : StationId) : Alarm :=
  ⟨0, .linkSilent, l, .hold, none, k, none, 0, 0, 1, x⟩

/-- A list with room gives an index to raise at; one full of more urgent entries gives none. -/
theorem test_witness_AlarmIsStoredRaisedAndActedOn_recorded :
    storeAlarm (entry 3 .pending 2) small.alarms small.overflow = ([entry 3 .pending 2], false, some 0) ∧
    storeAlarm (entry 3 .pending 2) (List.replicate 32 (entry 2 .pending 0)) false =
      (List.replicate 32 (entry 2 .pending 0), true, none) := by decide +kernel

theorem test_witness_AlarmIsStoredRaisedAndActedOn :
    ((entry 3 .pending 2).repeatsInto (entry 3 .pending 2) = true ∧
      (entry 3 .pending 2).repeatsInto (entry 3 .acked 2) = false) ∧
    ((∀ x ∈ List.replicate 31 (entry 4 .pending 0), (entry 3 .pending 2).repeatsInto x = false) ∧
      (List.replicate 31 (entry 4 .pending 0)).length < 32 ∧
      32 ≤ (List.replicate 31 (entry 4 .pending 0) ++ [entry 3 .acked 2]).length) ∧
    ((∀ x ∈ List.replicate 31 (entry 4 .pending 0), x.state ≠ .acked) ∧
      (∀ x ∈ List.replicate 31 (entry 4 .pending 0), x.level < (entry 5 .raised 1).level) ∧
      (entry 4 .pending 2).level < (entry 5 .raised 1).level ∧
      (entry 5 .raised 1).level ≤ (entry 5 .pending 2).level) ∧
    ((entry 3 .pending 2).state = .pending ∧ (entry 3 .pending 2).level.val < small.cal ∧
      (entry 3 .raised 2).state ≠ .pending ∧ (entry 3 .pending 2).action = .hold ∧
      (entry 3 .pending 2).slot = none ∧ (entry 3 .pending 2).station = 2 ∧
      (small.station 2).intake = .running ∧ (small.station 0).intake ≠ .running) ∧
    (small.boundStation 3 = some 2 ∧ small.boundStation 4 = none) := by decide +kernel

/-- A RULE_SET payload for rule 15. -/
def ruleBytes (enabled kind scope bin level action : Byte) : List Byte :=
  [15, enabled, kind, scope, bin, 0, 0, 0, 9, 0, 0, 0, 9, level, action]

theorem test_witness_RuleSetClampsAndArms :
    (∀ k : Fin 7, let p := ruleBytes 1 (byte k.val) 0xFF 63 7 1
      u8 p 0 = (15 : Fin 16).val ∧ boolOfCode (u8 p 1) = some true ∧
      (RuleKind.ofCode (u8 p 2)).isSome = true ∧ scopeOfCode (u8 p 3) = some none ∧
      u8 p 13 = (7 : Fin 8).val ∧ RuleAction.ofCode (u8 p 14) = some .hold ∧ u8 p 4 ≤ 63) ∧
    1 < u8 (ruleBytes 2 0 0 0 0 0) 1 ∧ 6 < u8 (ruleBytes 0 7 0 0 0 0) 2 ∧
    (7 < u8 (ruleBytes 0 0 8 0 0 0) 3 ∧ u8 (ruleBytes 0 0 8 0 0 0) 3 ≠ 255) ∧
    7 < u8 (ruleBytes 0 0 0 0 8 0) 13 ∧ 1 < u8 (ruleBytes 0 0 0 0 0 2) 14 ∧
    (u8 (ruleBytes 0 1 0 64 0 0) 2 = 1 ∧ 63 < u8 (ruleBytes 0 1 0 64 0 0) 4) ∧
    15 < u8 [(16 : Byte)] 0 := by decide +kernel

theorem test_witness_RuleSetClampsAndArms_offered (p : List Byte) :
    (ask 0x15 p small).Offers ⟨0x15, 0x5A, p⟩ [] := small_offers _ _

theorem test_witness_AlarmListAndClear :
    (ask 0x17 [31, 32] small).Offers ⟨0x17, 0x5A, [31, 32]⟩ [] ∧
    (u8 [(31 : Byte), 32] 0 ≤ 31 ∧ 1 ≤ u8 [(31 : Byte), 32] 1 ∧ u8 [(31 : Byte), 32] 1 ≤ 32) ∧
    (31 < u8 [(32 : Byte), 1] 0 ∧ u8 [(0 : Byte), 0] 1 = 0 ∧ 32 < u8 [(0 : Byte), 33] 1) ∧
    (ask 0x19 [] small).Offers ⟨0x19, 0x5A, []⟩ [] :=
  ⟨small_offers _ _, by decide, by decide, small_offers _ _⟩

theorem test_witness_AlarmAckRaisesMostUrgent :
    (ask 0x18 [8] small).Offers ⟨0x18, 0x5A, [8]⟩ [] ∧
    (∀ e ∈ small.alarms, e.state = .pending → 8 ≤ e.level.val) ∧
    (entry 3 .pending 2).state = .pending ∧ (entry 3 .pending 2).level.val < min 8 (u8 [(8 : Byte)] 0) ∧
    (∀ x ∈ [entry 4 .pending 0, entry 2 .raised 0], x.state = .pending → (entry 3 .pending 2).level < x.level) ∧
    ∀ x ∈ [entry 3 .pending 0], x.state = .pending → (entry 3 .pending 2).level ≤ x.level :=
  ⟨small_offers _ _, by decide +kernel⟩

theorem test_witness_PlanLoadReplacesUnusedPlan :
    (ask 0x08 planBytes small).Offers ⟨0x08, 0x5A, planBytes⟩ [] ∧
    (u8 planBytes 0 = (3 : Fin 4).val ∧ Policy.ofCode (u8 planBytes 1) = some .latest ∧
      boolOfCode (u8 planBytes 3) = some true ∧
      ∀ b : Bin, BinClass.ofCode (u8 planBytes (4 + 2 * b.val)) = some .pass) ∧
    (∀ (e : Fin 16) (l : Lot), small.lots[e] = some l → l.plan ≠ 3) ∧
    (small.lots[5] = some lot ∧ lot.plan = 1) ∧
    3 < u8 [(4 : Byte)] 0 ∧ 1 < u8 [(0 : Byte), 2] 1 ∧ 1 < u8 [(0 : Byte), 0, 0, 2] 3 ∧
    ∃ b : Bin, 3 < u8 [(0 : Byte), 0, 0, 0, 4] (4 + 2 * b.val) :=
  ⟨small_offers _ _, by decide +kernel, forall_lot (by decide +kernel), by decide +kernel⟩

theorem test_witness_PlanAndRuleAreReadBack :
    (ask 0x09 [3] small).Offers ⟨0x09, 0x5A, [3]⟩ [] ∧ u8 [(3 : Byte)] 0 = (3 : Fin 4).val ∧
    3 < u8 [(4 : Byte)] 0 ∧ (ask 0x16 [15] small).Offers ⟨0x16, 0x5A, [15]⟩ [] ∧
    u8 [(15 : Byte)] 0 = (15 : Fin 16).val ∧ 15 < u8 [(16 : Byte)] 0 :=
  ⟨small_offers _ _, by decide, by decide, small_offers _ _, by decide, by decide⟩

/-- The payload of a LOT_OPEN. -/
def lotOpenBytes (id : LotId) (k n : Byte) : List Byte := lotIdBytes id ++ [k, n]

/-- A Lot Table whose 16 entries all hold a lot. -/
def fullTable : State :=
  { small with lots := Vector.ofFn fun e : Fin 16 => some { lot with id := [byte (0x61 + e.val)] } }

theorem test_witness_LotOpenTakesLowestFreeEntry :
    (ask 0x0A (lotOpenBytes [0x42] 3 50) small).Offers ⟨0x0A, 0x5A, lotOpenBytes [0x42] 3 50⟩ [] ∧
    (lotIdField (lotOpenBytes [0x42] 3 50) 0 = some [0x42] ∧
      u8 (lotOpenBytes [0x42] 3 50) 13 = (3 : Fin 4).val ∧ u8 (lotOpenBytes [0x42] 3 50) 14 = 50) ∧
    (lotIdField (lotOpenBytes [0x7F] 0 1) 0 = none ∧ 3 < u8 (lotOpenBytes [0x42] 4 1) 13 ∧
      u8 (lotOpenBytes [0x42] 0 0) 14 = 0 ∧ 50 < u8 (lotOpenBytes [0x42] 0 51) 14) ∧
    (small.lots[5] = some lot ∧ lot.id = [0x41]) ∧
    (∀ (e : Fin 16) (l : Lot), small.lots[e] = some l → l.id ≠ [0x42]) ∧
    (∀ (e : Fin 16) (l : Lot), fullTable.lots[e] = some l → l.id ≠ [0x42]) ∧
    (∀ e : Fin 16, fullTable.lots[e] ≠ none) ∧ small.lots[0] = none ∧
    ∀ f : Fin 16, f < 0 → small.lots[f] ≠ none :=
  ⟨small_offers _ _, by decide +kernel, by decide +kernel, by decide +kernel, forall_lot (by decide +kernel),
    forall_lot (by decide +kernel), by decide +kernel, by decide +kernel, by decide +kernel⟩

theorem test_witness_LotRequestsFollowLotState :
    (ask 0x0B (lotIdBytes [0x41]) small).Offers ⟨0x0B, 0x5A, lotIdBytes [0x41]⟩ [] ∧
    (ask 0x0C (lotIdBytes [0x41]) small).Offers ⟨0x0C, 0x5A, lotIdBytes [0x41]⟩ [] ∧
    (ask 0x0D (lotIdBytes [0x41]) small).Offers ⟨0x0D, 0x5A, lotIdBytes [0x41]⟩ [] ∧
    (ask 0x14 (1 :: lotIdBytes [0x42]) small).Offers ⟨0x14, 0x5A, 1 :: lotIdBytes [0x42]⟩ [] ∧
    (lotIdField (lotIdBytes []) 0 = none ∧ lotIdField (1 :: lotIdBytes [0x42]) 1 = some [0x42]) ∧
    (∀ (e : Fin 16) (l : Lot), small.lots[e] = some l → l.id ≠ [0x42]) ∧
    (lotIdField (lotIdBytes [0x41]) 0 = some [0x41] ∧ small.findLot [0x41] = some 5 ∧
      small.lots[5] = some lot ∧ lot.state = .opened ∧ 0 < lot.active) ∧
    (∀ (n : SlotId) (w : Wafer), State.reset.slot n = some w → w.lot ≠ [0x41]) ∧
    ∃ (n : SlotId) (w : Wafer), small.slot n = some w ∧ w.lot = [0x41] :=
  ⟨small_offers _ _, small_offers _ _, small_offers _ _, small_offers _ _, by decide +kernel,
    forall_lot (by decide +kernel), by decide +kernel, forall_slot (by decide +kernel),
    3, wafer, by decide +kernel⟩

/-- The lot in the states that LOT_CLOSE finds: OPEN without an active slot, CLOSING, CLOSED. -/
theorem test_witness_LotRequestsFollowLotState_states (x : LotState) (a : Nat) :
    let l := { lot with state := x, active := a }
    (small.setLot 5 (some l)).findLot [0x41] = some 5 ∧ (small.setLot 5 (some l)).lots[5] = some l ∧
    l.state = x ∧ l.active = a := by
  refine ⟨rfl, rfl, rfl, rfl⟩

theorem test_witness_WaferOpenFollowsItsChecks :
    (ask 0x0E (openBytes 3) small).Offers ⟨0x0E, 0x5A, openBytes 3⟩ [] ∧
    (lotIdField (openBytes 3) 0 = some [0x41] ∧ small.findLot [0x41] = some 5 ∧
      small.lots[5] = some lot ∧ lot.state = .opened) ∧
    (1 ≤ u8 (openBytes 3) 13 ∧ u8 (openBytes 3) 13 ≤ lot.expected ∧ 1 ≤ u16 (openBytes 3) 14 ∧
      u16 (openBytes 3) 14 ≤ 256 ∧ 1 ≤ u16 (openBytes 3) 16 ∧ u16 (openBytes 3) 16 ≤ 256) ∧
    (∀ (m : SlotId) (v : Wafer), small.slot m = some v → v.lot = lot.id → v.number ≠ u8 (openBytes 3) 13) ∧
    (u8 (openBytes 3) 13 ∉ lot.closedList ∧
      spansValid (u16 (openBytes 3) 14) (u16 (openBytes 3) 16) (spanFields (openBytes 3)) = true ∧
      u8 (openBytes 3) 18 < u16 (openBytes 3) 14 ∧ u8 (openBytes 3) 19 < u16 (openBytes 3) 16) ∧
    (small.slot 0 = none ∧ ∀ m : SlotId, m < 0 → small.slot m ≠ none) ∧
    (¬(1 ≤ u8 (openBytes 0) 13) ∧ ¬(u8 (openBytes 4) 13 ≤ lot.expected) ∧
      u8 (openBytes 2) 13 ∈ lot.closedList ∧ spansValid 1 1 (spanFields (openBytes 3)) = false) ∧
    (∀ n : SlotId,
      ({ small with slots := Vector.replicate 32 (some wafer) } : State).slot n ≠ none) ∧
    opening.rst = false ∧ opening.inProgress = some (.opening 9 3) ∧
    opening.slot 3 = some { wafer with state := .opening } := by
  refine ⟨small_offers _ _, ?_, ?_, forall_slot ?_, ?_, ?_, ?_, ?_, ?_, ?_, ?_⟩ <;> decide +kernel

theorem test_witness_WaferCloseReopenRelease :
    ((ask 0x0F [3] small).Offers ⟨0x0F, 0x5A, [3]⟩ [] ∧ u8 [(3 : Byte)] 0 = (3 : SlotId).val ∧
      (ask 0x10 [4] small).Offers ⟨0x10, 0x5A, [4]⟩ [] ∧ (ask 0x11 [4] small).Offers ⟨0x11, 0x5A, [4]⟩ [] ∧
      (ask 0x12 [32] small).Offers ⟨0x12, 0x5A, [32]⟩ [] ∧ 31 < u8 [(32 : Byte)] 0) ∧
    (idle.slotIs 3 .opened = true ∧ idle.slotGroupOpen 3 = false ∧ small.slot 3 = some wafer ∧
      small.slotGroupOpen 3 = true ∧ closingState.slotIs 3 .closing = true ∧ small.slotIs 4 .opened = false ∧
      small.slotIs 4 .closing = false ∧ small.slotIs 4 .closed = true ∧ small.slotIs 3 .closed = false) ∧
    (small.slot 4 = some closedWafer ∧ closedWafer.state = .closed ∧
      closedWafer.closing = some ⟨1, 1, 1, only 64 0 1⟩ ∧ small.findLot closedWafer.lot = some 5 ∧
      small.lots[5] = some lot ∧ lot.state ≠ .closed ∧
      (small.setLot 5 (some { lot with state := .closed })).lots[5].map Lot.state = some .closed) :=
  ⟨⟨small_offers _ _, by decide, small_offers _ _, small_offers _ _, small_offers _ _, by decide⟩,
    by decide +kernel, by decide +kernel⟩

theorem test_witness_ReopenAfterCloseRestoresLot :
    small.slot 3 = some wafer ∧ wafer.state = .opened ∧ wafer.closing = none ∧
    small.findLot wafer.lot = some 5 ∧ small.lots[5] = some lot ∧ lot.state = .opened ∧ 1 ≤ lot.active ∧
    wafer.number ∉ lot.closedList ∧ lot.closedList.Pairwise (· < ·) ∧
    ((small.completeClose 3 false).slot 3).isSome = true := by decide +kernel

theorem test_witness_WaferQueryReportsSlot :
    (ask 0x12 [31] small).Offers ⟨0x12, 0x5A, [31]⟩ [] ∧ u8 [(31 : Byte)] 0 = (31 : SlotId).val ∧
    small.slot 31 = none ∧ small.slot 3 = some wafer :=
  ⟨small_offers _ _, by decide, by decide +kernel, by decide +kernel⟩

theorem test_witness_ReadCorrectsOrDamages :
    (small.cellWord 3 0).health = .clean ∧
    ((small.upset [⟨3, 0, .correctable⟩]).cellWord 3 0).health = .correctable ∧
    ((small.upset [⟨3, 0, .uncorrectable⟩]).cellWord 3 0).health = .uncorrectable ∧
    small.slot 3 = some wafer := by decide +kernel

theorem test_witness_CellReadReadsItsRun :
    ((ask 0x13 [3, 1, 1, 0, 0] small).Offers ⟨0x13, 0x5A, [3, 1, 1, 0, 0]⟩ [] ∧
      31 < u8 [(32 : Byte)] 0 ∧ u8 [(3 : Byte)] 0 = (3 : SlotId).val ∧ small.slot 0 = none ∧
      small.slot 3 = some wafer ∧ wafer.rows ≤ u8 [(3 : Byte), 2, 0] 1 ∧ wafer.cols ≤ u8 [(3 : Byte), 0, 2] 2 ∧
      u8 [(3 : Byte), 1, 1] 1 < wafer.rows ∧ u8 [(3 : Byte), 1, 1] 2 < wafer.cols) ∧
    (reading.rst = false ∧ reading.inProgress = some (.reading 9 3 0 0 0 2 []) ∧
      (∀ k < 2, (reading.cellWord 3 (0 + k)).health = .clean) ∧
      ([] : List CellRecord).length < 2) ∧
    (allRead.rst = false ∧
      allRead.inProgress = some (.reading 9 3 0 0 0 2 [.untested, .tested 2 2 1 1 2]) ∧
      2 ≤ [CellRecord.untested, .tested 2 2 1 1 2].length) ∧
    (exec (.cellRead 0 []) (ask 0x13 [3, 0, 1, 0, 9] small) =
        .next (after (.cellRead 0 []) (ask 0x13 [3, 0, 1, 0, 9] small)) ∧
      (after (.cellRead 0 []) (ask 0x13 [3, 0, 1, 0, 9] small)).inProgress ≠ none) ∧
    (after (.cellRead 0 []) (ask 0x13 [32, 0, 0, 0, 1] small)).inProgress = none :=
  ⟨⟨small_offers _ _, by decide +kernel⟩, by decide +kernel, by decide +kernel, ⟨rfl, by decide +kernel⟩,
    by decide +kernel⟩

theorem test_witness_YieldQueriesReportCounts :
    ((ask 0x14 [0, 3] small).Offers ⟨0x14, 0x5A, [0, 3]⟩ [] ∧ u8 [(0 : Byte), 3] 0 = 0 ∧
      u8 [(0 : Byte), 3] 1 = (3 : SlotId).val ∧ small.slot 3 = some wafer ∧ wafer.state ≠ .exporting ∧
      small.slot 0 = none ∧ exporting.slotIs 4 .exporting = true ∧ 31 < u8 [(0 : Byte), 32] 1) ∧
    ((ask 0x14 [2, 0] small).Offers ⟨0x14, 0x5A, [2, 0]⟩ [] ∧ 1 < u8 [(2 : Byte), 0] 0) ∧
    (ask 0x14 (1 :: lotIdBytes [0x41]) small).Offers ⟨0x14, 0x5A, 1 :: lotIdBytes [0x41]⟩ [] ∧
    (lotIdField (1 :: lotIdBytes [0x41]) 1 = some [0x41] ∧ small.findLot [0x41] = some 5 ∧
      small.lots[5] = some lot) :=
  ⟨⟨small_offers _ _, by decide +kernel⟩, ⟨small_offers _ _, by decide⟩, small_offers _ _, by decide +kernel⟩

theorem test_witness_ExportRequestsByState :
    ((ask 0x1A [4, 1, 65] small).Offers ⟨0x1A, 0x5A, [4, 1, 65]⟩ [] ∧ 31 < u8 [(32 : Byte)] 0 ∧
      1 < u8 [(0 : Byte), 2] 1 ∧ u8 [(4 : Byte), 1] 0 = (4 : SlotId).val ∧
      Detail.ofCode (u8 [(4 : Byte), 1] 1) = some .full ∧ small.mex = none ∧ exporting.mex ≠ none ∧
      small.slotIs 3 .closed = false ∧ small.slot 4 = some closedWafer ∧ closedWafer.state = .closed) ∧
    (ask 0x1B [0] exporting).Offers ⟨0x1B, 0x5A, [0]⟩ [] ∧
    (ask 0x1C [] exporting).Offers ⟨0x1C, 0x5A, []⟩ [] ∧
    (exporting.mex = some ⟨false, 4, .brief, 1, 0, 2, none⟩ ∧
      exporting.slot 4 = some { closedWafer with state := .exporting } ∧ exporting.hostLine = none) ∧
    ((ask 0x1C [] sending).Offers ⟨0x1C, 0x5A, []⟩ [] ∧
      sending.mex = some ⟨false, 4, .brief, 3, 1, 2, none⟩ ∧
      sending.slot 4 = some { closedWafer with state := .exporting } ∧
      sending.hostLine = some ⟨0xA1, 0, [4]⟩ ∧ (Frame.kind ⟨0xA1, 0, [4]⟩) = 0xA1) ∧
    stopping.rst = false ∧ stopping.inProgress = some (.stopping 9) ∧
    stopping.mex = some ⟨false, 4, .brief, 3, 1, 2, none⟩ ∧
    stopping.slot 4 = some { closedWafer with state := .exporting } :=
  ⟨⟨small_offers _ _, by decide +kernel⟩, exporting_offers _ _, exporting_offers _ _, by decide +kernel,
    ⟨ask_offers _ _ _ rfl rfl (by decide +kernel), by decide +kernel⟩, by decide +kernel⟩

theorem test_witness_ExportFramesCarryTheMap :
    (exporting.rst = false ∧ exporting.mex = some ⟨false, 4, .brief, 1, 0, 2, none⟩ ∧
      exporting.inProgress = none ∧ closedWafer.spans[0]? = some ⟨0, 0, 0⟩ ∧ (exporting.cellWord 4 0).health = .clean) ∧
    (exported.mex = some ⟨false, 4, .brief, 1, 1, 1, none⟩ ∧ exporting.ready ≠ [] ∧ exported.ready = []) ∧
    (∃ f, (after .exportEndBuild exported).mex.bind Mex.offered = some (.finish f)) ∧
    ∃ f, (after (.mapSegmentBuild []) exporting).mex.bind Mex.offered = some (.segment f) :=
  ⟨by decide +kernel, by decide +kernel, ⟨_, rfl⟩, ⟨_, rfl⟩⟩

/-- For EveryStepKeepsOrderAndRanges, -BindingLaw, -SlotLaw, -LotLaw, -AlarmLaw and -AccountLaw: all the laws at
once, and a step, at a state with a commit to come. -/
theorem test_witness_EveryStepKeepsItsLaw :
    let s : State := { sends 2 0x45 [0, 7] small with pending := [.tdClose [] []] }
    s.Lawful ∧ (∃ t, step s = .next t) ∧ step s = exec (.tdClose [] []) { s with pending := [] } :=
  ⟨by refine ⟨?_, ?_, ?_, ?_, ?_, ?_, ?_, ?_⟩ <;> decide +kernel, ⟨_, rfl⟩, rfl⟩

theorem test_witness_ClosedMapOnlyTurnsDamaged :
    let s : State :=
      { ask 0x13 [4, 0, 0, 0, 1] small with pending := [.cellRead 1 [⟨4, 0, .uncorrectable⟩]] }
    s.Lawful ∧ (∃ t, step s = .next t) ∧ s.slot 4 = some closedWafer ∧
    closedWafer.state = .closed ∧ s.cellRecord 4 0 = .tested 0 0 1 0 2 ∧
    (after (.cellRead 1 [⟨4, 0, .uncorrectable⟩]) s).cellRecord 4 0 = .damaged ∧
    (after (.cellRead 1 [⟨4, 0, .uncorrectable⟩]) s).slot 4 ≠ none :=
  ⟨by refine ⟨?_, ?_, ?_, ?_, ?_, ?_, ?_, ?_⟩ <;> decide +kernel, ⟨_, rfl⟩, by decide +kernel⟩

theorem test_witness_RowsChangeOnlyWhatIsTheirs :
    small.BindingLaw ∧ (sends 2 0x42 [] small).BindingLaw ∧ (sends 2 0x42 [] small).grant = some 2 ∧
    (5 : StationId) ≠ 2 ∧ (∃ t, exec .waferEnd (sends 2 0x42 [] small) = .next t) ∧
    Instr.waferEnd ≠ .resetFull ∧ Instr.waferEnd ∈ (recordRowsWith [] [] []).map Prod.fst :=
  ⟨by decide +kernel, by decide +kernel, by decide +kernel, by decide, ⟨_, rfl⟩, by decide, by decide⟩

end Sys2Proof.Tests
end

section
/-! PROOF. The ratio yield of R118: when it is absent, the one integer it can be, and from that its order
and its range. -/

namespace Sys2Proof.Machine

@[simp] theorem ratioYield_zero_right (n : Nat) : ratioYield n 0 = none := if_pos rfl

theorem ratioYield_of_pos (n : Nat) {d : Nat} (hd : 0 < d) :
    ratioYield n d = some ((20000 * n + d) / (2 * d)) := if_neg hd.ne'

theorem ratioYield_eq_none_iff {n d : Nat} : ratioYield n d = none ↔ d = 0 := by
  rcases d.eq_zero_or_pos with rfl | hd
  · simp
  · simp [ratioYield_of_pos n hd, hd.ne']

/-- Rounding to the nearest integer, halves up, with the halves cleared: y - 1/2 ≤ 10000 × n / d < y + 1/2,
each side plus 1/2 and then times 2 × d. -/
theorem ratioYield_eq_some_iff {n d y : Nat} (hd : 0 < d) :
    ratioYield n d = some y ↔ 2 * y * d ≤ 20000 * n + d ∧ 20000 * n + d < 2 * (y + 1) * d := by
  rw [ratioYield_of_pos n hd, Option.some_inj, Nat.div_eq_iff (Nat.mul_pos two_pos hd),
    show y * (2 * d) = 2 * y * d by ring, show 2 * (y + 1) * d = 2 * y * d + 2 * d by ring]
  omega

theorem ratioYield_mono {n m d y z : Nat} (hnm : n ≤ m) (hy : ratioYield n d = some y)
    (hz : ratioYield m d = some z) : y ≤ z := by
  rcases d.eq_zero_or_pos with rfl | hd
  · simp at hy
  · rw [ratioYield_of_pos _ hd, Option.some_inj] at hy hz
    subst hy hz
    exact Nat.div_le_div_right (by omega)

theorem ratioYield_zero_left {d : Nat} (hd : 0 < d) : ratioYield 0 d = some 0 :=
  (ratioYield_eq_some_iff hd).2 (by omega)

theorem ratioYield_self {d : Nat} (hd : 0 < d) : ratioYield d d = some 10000 :=
  (ratioYield_eq_some_iff hd).2 (by omega)

/-- A yield is at most 100 %: it rises with the numerator, and with all the denominator passed it is
10000. -/
theorem ratioYield_le {n d y : Nat} (hd : 0 < d) (hnd : n ≤ d) (hy : ratioYield n d = some y) :
    y ≤ 10000 :=
  ratioYield_mono hnd hy (ratioYield_self hd)

/-- Settles O48: the range and the ends follow from the order and from the one integer that the rounding
bounds allow. -/
theorem ratioYieldRoundsToNearest : Obligations.RatioYieldRoundsToNearest := by
  intro n m d
  refine ⟨ratioYield_eq_none_iff, ratioYield_of_pos n, ?_,
    fun hd => ⟨ratioYield_zero_left hd, ratioYield_self hd⟩⟩
  intro hnm hmd hd
  have hy := ratioYield_of_pos n hd
  have hz := ratioYield_of_pos m hd
  exact ⟨_, _, hy, hz, ratioYield_mono hnm hy hz, ratioYield_le hd hmd hz,
    (ratioYield_eq_some_iff hd).1 hy⟩

end Sys2Proof.Machine
end

section
/-! PROOF. IDENTIFY (R178): the request is taken, and its one effect is the reply OK with the part's fixed
fields. -/

namespace Sys2Proof.Machine

@[simp] theorem ofKind_eq_true_iff {k : Byte} {r : Frame} : ofKind k r = true ↔ r.kind = k := decide_eq_true_iff

/-- The reply OK joins the ready list behind the frames that wait there, and nothing else changes (R171,
R172). -/
theorem State.ok_eq (r : Frame) (body : List Byte) (s : State) :
    s.ok r body = { s with ready := s.ready ++ [answerTo r .ok body] } := rfl

theorem exec_identify (s : State) :
    exec .identify s = .next (s.takeRequest (ofKind Code.identify) fun r s => s.ok r identity) := rfl

/-- Settles O9: the request offered is of IDENTIFY's kind, so it is taken, and carrying it out only
replies. -/
theorem identifyReportsPart : Obligations.IdentifyReportsPart := by
  intro s r rest hoffers hkind
  have haccepts : ofKind Code.identify r = true := ofKind_eq_true_iff.2 hkind
  rw [exec_identify, State.takeRequest_of_offers hoffers haccepts, State.ok_eq]
  rfl

end Sys2Proof.Machine
end

section
/-! PROOF. The moves of the part: what a step is made of. Every step is a run of the moves below, each of
which is lawful by itself, so a law that every move keeps is kept by every step. -/

namespace Sys2Proof.Machine

/-! ## The work in hand -/

/-- What the Collation Engine has in hand in the midst of a step: nothing, or work for a station. Bytes that
arrive meanwhile may have faulted the station (R48); a record that is carried out owes its REPLY (R42); and from the
start of a commit on the work knows which entries of the group are still to be committed (R69). -/
inductive Hand where
  | idle
  | busy (i : StationId) (faulting owes : Bool) (left : Option (List Entry))

/-- The station in hand has been faulted, and the rest of its entry to FAULTED follows the work (R48). -/
def Hand.faults (h : Hand) (i : StationId) : Prop := ∃ o l, h = .busy i true o l

/-- The work in hand, if any, is for station i. -/
def Hand.isFor (h : Hand) (i : StationId) : Prop := ∀ j f o l, h = .busy j f o l → j = i

/-- The hand after the group has ended: no entry is left to be committed. -/
def Hand.cleared : Hand → Hand
  | .idle => .idle
  | .busy i f o _ => .busy i f o none

/-- The entries of a group that are still to be committed. -/
def Hand.entries (h : Hand) (i : StationId) (g : Group) : List Entry :=
  match h with
  | .busy j _ _ (some es) => if i = j then es else g.entries
  | .busy _ _ _ none => g.entries
  | .idle => g.entries

@[simp] theorem Hand.not_faults_idle (i : StationId) : ¬ Hand.idle.faults i := by
  rintro ⟨o, l, h⟩; cases h

@[simp] theorem Hand.faults_busy {i j : StationId} {f o : Bool} {l : Option (List Entry)} :
    (Hand.busy j f o l).faults i ↔ j = i ∧ f = true := by
  constructor
  · rintro ⟨o', l', h⟩; cases h; exact ⟨rfl, rfl⟩
  · rintro ⟨rfl, rfl⟩; exact ⟨o, l, rfl⟩

@[simp] theorem Hand.idle_isFor (i : StationId) : Hand.idle.isFor i := by
  intro j f o l h; cases h

@[simp] theorem Hand.busy_isFor {i j : StationId} {f o : Bool} {l : Option (List Entry)} :
    (Hand.busy j f o l).isFor i ↔ j = i :=
  ⟨fun h => h j f o l rfl, by rintro rfl _ _ _ _ h; cases h; rfl⟩

@[simp] theorem Hand.faults_cleared {h : Hand} {i : StationId} : h.cleared.faults i ↔ h.faults i := by
  cases h <;> simp [Hand.cleared]

@[simp] theorem Hand.entries_idle (i : StationId) (g : Group) : Hand.idle.entries i g = g.entries := rfl

@[simp] theorem Hand.entries_busy_none (i j : StationId) (f o : Bool) (g : Group) :
    (Hand.busy j f o none).entries i g = g.entries := rfl

@[simp] theorem Hand.entries_busy_some (i j : StationId) (f o : Bool) (es : List Entry) (g : Group) :
    (Hand.busy j f o (some es)).entries i g = if i = j then es else g.entries := rfl

@[simp] theorem Hand.entries_cleared (h : Hand) (i : StationId) (g : Group) :
    h.cleared.entries i g = g.entries := by
  cases h <;> rfl

/-! ## What a move may rest on -/

/-- The cell index lies in the grid, on the wafer (R32). -/
def Wafer.holds (w : Wafer) (k : Nat) : Prop :=
  k < w.cols * w.rows ∧ onWafer w.spans (k % w.cols) (k / w.cols) = true

/-- The record of the station changes without a word of its binding, its group, its settings and its intake
state; its queue grows only where it may (R37, R43). -/
structure Station.Quiet (x y : Station) : Prop where
  binding : y.binding = x.binding
  group : y.group = x.group
  intake : y.intake = x.intake
  priority : y.priority = x.priority
  timingClass : y.timingClass = x.timingClass
  staging : y.staging = x.staging ∨ (x.intake ≠ .held ∧ x.intake ≠ .faulted)
  ranges : x.Ranges → y.Ranges
  transmit : x.transmit.length ≤ 15 → y.transmit.length ≤ 15

/-- The intake state follows an action of Table 3.7; binding, group, queue and settings stay. -/
structure Station.Controlled (x y : Station) : Prop where
  binding : y.binding = x.binding
  group : y.group = x.group
  priority : y.priority = x.priority
  timingClass : y.timingClass = x.timingClass
  staging : y.staging = x.staging
  ranges : x.Ranges → y.Ranges
  awake : x.intake = .running ∨ x.intake = .stopping ∨ x.intake = .halted → x.group.isSome = true →
    y.intake = .running ∨ y.intake = .stopping ∨ y.intake = .halted
  stopping : y.intake = .stopping → x.group.isSome = true
  notHeld : y.intake ≠ .held ∧ y.intake ≠ .faulted

/-- The reads that the part makes: of the next cell of the CELL_READ in progress (R103), of a cell that the
transform gave (R66), of the cell of an entry in hand (R69), and of a cell of the span at the position of the
Map Export Unit (R157). -/
inductive Reads (h : Hand) (s : State) (n : SlotId) (k : Nat) : Prop where
  | inFlight {tag : Byte} {row first base count : Nat} {cells : List CellRecord}
      (hp : s.inProgress = some (.reading tag n row first base count cells))
      (hc : cells.length < count) (hk : k = base + cells.length)
  | arrival {w : Wafer} (hw : s.slot n = some w) (hk : w.holds k)
  | commit {i : StationId} {f o : Bool} {es : List Entry} {b : Binding} {g : Group} {e : Entry}
      (hh : h = .busy i f o (some es)) (hb : (s.station i).binding = some b) (hn : b.slot = n)
      (hg : (s.station i).group = some g) (he : e ∈ es) (hk : e.cell = k)
  | segment {m : Mex} {w : Wafer} {x : Span} {c : Nat} (hm : s.mex = some m) (hn : m.slot = n)
      (hw : s.slot n = some w) (hx : w.spans[m.position]? = some x) (hc : c < x.cells)
      (hk : k = x.row * w.cols + x.first + c)

/-! ## The moves -/

/-- The Host Link Controller: its receiver, queues, causes and request in progress. -/
inductive HostMove : State → State → Prop where
  | bytes (s : State) (x : List Byte) : HostMove s { s with hostRx := x }
  | joins (s : State) (f : Frame) (h : s.requests.length < 4) :
      HostMove s { s with requests := s.requests ++ [f] }
  | immediate (s : State) (f : Frame) : HostMove s (s.immediate f)
  | takes (s : State) (r : Frame) (rest : List Frame) (h : s.requests = r :: rest) :
      HostMove s { s with requests := rest }
  | replies (s : State) (f : Frame) (h : s.inProgress = none) (hw : s.carriedWaiting < 8) :
      HostMove s (s.makeReady (.reply false f))
  | sends (s : State) (f : ReadyFrame) (rest : List ReadyFrame) (h : s.ready = f :: rest) :
      HostMove s { s with ready := rest }
  | line (s : State) (x : Option Frame) : HostMove s { s with hostLine := x }
  | grants (s : State) (i : StationId) : HostMove s { s with lastGranted := i }
  | resetKind (s : State) (k : ResetKind) : HostMove s { s with lastReset := k }
  | addCause (s : State) (c : Cause) : HostMove s (s.addCause c)
  | dropCause (s : State) (c : Cause) : HostMove s (s.dropCause c)
  | restartWaits (s : State) (tag : Byte) (h : s.inProgress = none) (hw : s.carriedWaiting < 8) :
      HostMove s { s with inProgress := some (.restarting tag) }
  | readBegins (s : State) (tag : Byte) (n : SlotId) (w : Wafer) (row first count : Nat)
      (h : s.inProgress = none) (hw : s.carriedWaiting < 8) (hs : s.slot n = some w)
      (hr : row < w.rows) (hf : first < w.cols) :
      HostMove s
        { s with
          inProgress := some (.reading tag n row first (row * w.cols + first)
            (cellCount w.cols first count) []) }
  | readOn (s : State) (tag : Byte) (n : SlotId) (row first base count : Nat) (cells : List CellRecord)
      (c : CellRecord) (h : s.inProgress = some (.reading tag n row first base count cells))
      (hc : cells.length < count) :
      HostMove s { s with inProgress := some (.reading tag n row first base count (cells ++ [c])) }
  | completes (s : State) (p : InProgress) (f : Frame) (h : s.inProgress = some p)
      (hp : ∀ tag n, p ≠ .opening tag n) :
      HostMove s (({ s with inProgress := none } : State).makeReady (.reply false f))

/-- The Station Link Controllers, while nothing of a binding, a group or an intake state changes. -/
inductive LinkMove : State → State → Prop where
  | quiet (s : State) (i : StationId) (f : Station → Station)
      (h : (s.station i).Quiet (f (s.station i))) : LinkMove s (s.modStation i f)
  | arms (s : State) (which : Watch → Bool) : LinkMove s (s.arm which)

/-- The Collation Engine's work for a station. -/
inductive EngineMove : Hand → State → Hand → State → Prop where
  | takes (s : State) (i : StationId) (r : Frame) (rest : List Frame)
      (h : (s.station i).staging = r :: rest) (ht : (s.station i).transmit.length < 14) :
      EngineMove .idle s (.busy i false true none) (s.modStation i fun x => { x with staging := rest })
  | picks (s : State) (i : StationId) : EngineMove .idle s (.busy i false false none) s
  | lays (s : State) (i : StationId) (o : Bool) : EngineMove (.busy i false o none) s .idle s
  | faults (s : State) (i : StationId) (h : Hand) (hh : h = .idle ∨ ∃ o, h = .busy i false o none)
      (hf : (s.station i).intake.faultable = true) :
      EngineMove h s (.busy i true false none) (s.modStation i Station.fault)
  | faulted (s : State) (i : StationId) (hg : (s.station i).group = none) :
      EngineMove (.busy i true false none) s .idle (s.unbind i)
  | ends (s : State) (i : StationId) (h : Hand) (hh : h.isFor i) :
      EngineMove h s h.cleared (s.endGroup i)
  | delivers (s : State) (i : StationId) (y : StationReply) :
      EngineMove (.busy i false true none) s .idle (s.deliver i y)
  | discards (s : State) (i : StationId) (y : StationReply) :
      EngineMove (.busy i true false none) s (.busy i true false none) (s.deliver i y)
  | binds (s : State) (i : StationId) (f o : Bool) (n : SlotId) (q : Fin 4)
      (hb : (s.station i).binding = none) (hn : s.slotIs n .opened = true) (hf : s.boundStation n = none) :
      EngineMove (.busy i f o none) s (.busy i f o none)
        (s.modStation i fun x => { x with binding := some ⟨n, q⟩ })
  | unbinds (s : State) (i : StationId) (f o : Bool) (hg : (s.station i).group = none) :
      EngineMove (.busy i f o none) s (.busy i f o none) (s.unbind i)
  | opens (s : State) (i : StationId) (f o : Bool) (g : Group) (hb : (s.station i).binding.isSome = true)
      (hg : (s.station i).group = none) (hi : (s.station i).intake = .running ∨ f = true)
      (ha : g.active ≠ 0) (he : g.entries = [])
      (ht : g.timer = s.classes[(s.station i).timingClass].timeout) :
      EngineMove (.busy i f o none) s (.busy i f o none) (s.modStation i fun x => { x with group := some g })
  | joins (s : State) (i : StationId) (f o : Bool) (b : Binding) (g : Group) (w : Wafer) (e : Entry)
      (hb : (s.station i).binding = some b) (hg : (s.station i).group = some g)
      (hw : s.slot b.slot = some w) (hs : g.hasSite e.site = true) (hn : g.holdsSite e.site = false)
      (hc : g.holdsCell e.cell = false) (hk : w.holds e.cell)
      (hu : (s.planOf w.lot).cls e.bin ≠ .unused) (hd : s.cellRecord b.slot e.cell ≠ .damaged)
      (hl : limitCheck (s.planOf w.lot) e.bin (s.cellRecord b.slot e.cell) = none) :
      EngineMove (.busy i f o none) s (.busy i f o none) (s.modStation i (Station.join e))
  | begins (s : State) (i : StationId) (f o : Bool) (g : Group) (es : List Entry)
      (hg : (s.station i).group = some g) (hp : es.Perm g.entries) :
      EngineMove (.busy i f o none) s (.busy i f o (some es)) s
  | passes (s : State) (i : StationId) (f o : Bool) (e : Entry) (es : List Entry) :
      EngineMove (.busy i f o (some (e :: es))) s (.busy i f o (some es)) s

/-- The steps of a restart that touch the stations and close what is left to close (R182). -/
inductive RestartMove : State → State → Prop where
  | stations (s : State) (h : ∀ i : StationId, (s.station i).group = none) :
      RestartMove s s.restartStations
  | closes (s : State) (n : SlotId) (h : ∀ i : StationId, (s.station i).group = none) :
      RestartMove s (s.finishClosing n)

/-- The counts of a commit and of an expiry. -/
inductive AccountMove : Hand → State → Hand → State → Prop where
  | voids (s : State) (i : StationId) (f o : Bool) (l : Option (List Entry)) (b : Binding) (k : SiteId)
      (hb : (s.station i).binding = some b) :
      AccountMove (.busy i f o l) s (.busy i f o l) (s.voidItem b.slot i k)
  | first (s : State) (i : StationId) (f o : Bool) (e : Entry) (es : List Entry) (b : Binding) (g : Group)
      (hb : (s.station i).binding = some b) (hg : (s.station i).group = some g)
      (hr : (s.slotPlan b.slot).isResult e.bin = true) (hc : s.cellRecord b.slot e.cell = .untested) :
      AccountMove (.busy i f o (some (e :: es))) s (.busy i f o (some es))
        (s.applyItem b.slot i (s.slotPlan b.slot) e (.tested e.bin e.bin 1 e.site i)
          (Acc.first (s.slotPlan b.slot) e.bin))
  | retest (s : State) (i : StationId) (f o : Bool) (e : Entry) (es : List Entry) (b : Binding) (g : Group)
      (final first : Bin) (count : Nat) (k : SiteId) (st : StationId)
      (hb : (s.station i).binding = some b) (hg : (s.station i).group = some g)
      (hr : (s.slotPlan b.slot).isResult e.bin = true)
      (hc : s.cellRecord b.slot e.cell = .tested final first count k st) :
      AccountMove (.busy i f o (some (e :: es))) s (.busy i f o (some es))
        (s.applyItem b.slot i (s.slotPlan b.slot) e
          (.tested ((s.slotPlan b.slot).finalBin final e.bin) first (count + 1) e.site i)
          (Acc.retest (s.slotPlan b.slot) final ((s.slotPlan b.slot).finalBin final e.bin)))
  | timeout (s : State) (i : StationId) (f o : Bool) (l : Option (List Entry)) (b : Binding)
      (hb : (s.station i).binding = some b) :
      AccountMove (.busy i f o l) s (.busy i f o l) (s.modAcc b.slot Acc.timeout)

/-- The map memory: errors that strike it, and reads of cells. -/
inductive CellMove : Hand → State → State → Prop where
  | upset (h : Hand) (s : State) (us : List Upset) : CellMove h s (s.upset us)
  | read (h : Hand) (s : State) (n : SlotId) (k : Nat) (hr : Reads h s n k) :
      CellMove h s (s.readCell n k).1

/-- The alarm is one that work for station i may record: of a station kind for the station, or of a slot kind
for the slot bound to it (R148). -/
def Alarm.concerns (a : Alarm) (i : StationId) (s : State) : Prop :=
  (a.slot = none → a.station = i) ∧
  ∀ n, a.slot = some n → (s.station i).binding.map Binding.slot = some n

/-- The Excursion Monitor. -/
inductive AlarmMove : Hand → State → State → Prop where
  | judges (h : Hand) (s : State) (w : Watch) (f : Finding) (a : Alarm) (hs : a.state = .pending)
      (hr : a.repeats = 1) (hh : ∀ i g o l, h = .busy i g o l → a.concerns i s) :
      AlarmMove h s (s.judge w f a)
  | acknowledges (h : Hand) (s : State) (level : Nat) : AlarmMove h s (s.acknowledge level)
  | clears (h : Hand) (s : State) :
      AlarmMove h s
        { s with alarms := s.alarms.filter fun e => decide (e.state ≠ .acked), overflow := false }

/-- The settings that the server gives. -/
inductive PlanMove : State → State → Prop where
  | loads (s : State) (k : Fin 4) (p : Plan) (h : s.planInUse k = false) (hl : 1 ≤ p.limit ∧ p.limit ≤ 15)
      (hr : ∀ b : Bin, p.bins[b].rank ≤ 63) : PlanMove s { s with plans := s.plans.set k p }

/-- CLASS_SET (R62). -/
inductive ClassMove : State → State → Prop where
  | sets (s : State) (k : Fin 4) (c : TimingClass) (h : 1 ≤ c.timeout ∧ c.timeout ≤ 255) :
      ClassMove s { s with classes := s.classes.set k c }

/-- RULE_SET (R132). -/
inductive RuleMove : State → State → Prop where
  | sets (s : State) (k : Fin 16) (r : Rule) (ht : r.threshold ≤ 1000000)
      (hm : 1 ≤ r.minSample ∧ r.minSample ≤ 65535) (hb : r.kind ≠ .binCeiling → r.bin = 0) :
      RuleMove s { s with rules := s.rules.set k r }

/-- STATION_SET (R50). -/
inductive SettingMove : State → State → Prop where
  | sets (s : State) (i : StationId) (p : Nat) (c : Fin 4) (h : p ≤ 15) :
      SettingMove s (s.modStation i fun x => { x with priority := p, timingClass := c })

/-- The Lot Table. -/
inductive LotMove : State → State → Prop where
  | opens (s : State) (e : Fin 16) (id : LotId) (k : Fin 4) (n : Nat) (hi : LotId.wf id = true)
      (hn : 1 ≤ n ∧ n ≤ 50) (hf : s.findLot id = none) (he : s.lots[e] = none) :
      LotMove s (s.setLot e (some (Lot.new id k n)))
  | closes (s : State) (e : Fin 16) (l : Lot) (hl : s.lots[e] = some l) (ho : l.state = .opened)
      (ha : l.active = 0) : LotMove s (s.setLot e (some { l with state := .closed }))
  | waits (s : State) (e : Fin 16) (l : Lot) (hl : s.lots[e] = some l) (ho : l.state = .opened)
      (ha : l.active ≠ 0) : LotMove s (s.setLot e (some { l with state := .closing }))
  | frees (s : State) (e : Fin 16) (l : Lot) (hl : s.lots[e] = some l) (hc : l.state = .closed)
      (hs : s.lotHasSlot l.id = false) : LotMove s (s.setLot e none)

/-- The slots: the requests of Section 1.3 but WAFER_OPEN. -/
inductive SlotMove : State → State → Prop where
  | initialised (s : State) (tag : Byte) (n : SlotId) (f : Frame)
      (h : s.inProgress = some (.opening tag n)) :
      SlotMove s ((({ s with inProgress := none } : State).modWafer n fun w =>
        { w with state := .opened }).makeReady (.reply false f))
  | closes (s : State) (n : SlotId) (ho : s.slotIs n .opened = true) (hg : s.slotGroupOpen n = false) :
      SlotMove s (s.completeClose n false)
  | waits (s : State) (n : SlotId) (ho : s.slotIs n .opened = true) (hg : s.slotGroupOpen n = true) :
      SlotMove s (s.modWafer n fun w => { w with state := .closing })
  | reopens (s : State) (n : SlotId) (w : Wafer) (e : Fin 16) (hw : s.slot n = some w)
      (hc : w.state = .closed) (he : s.findLot w.lot = some e)
      (hl : s.lots[e].map Lot.state ≠ some .closed) : SlotMove s (s.reopen n w e)
  | frees (s : State) (n : SlotId) (hc : s.slotIs n .closed = true) (hp : s.inProgress = none) :
      SlotMove s (s.setSlot n none)

/-- WAFER_OPEN, accepted (R18, R19). -/
inductive OpenMove : State → State → Prop where
  | takes (s : State) (n : SlotId) (e : Fin 16) (l : Lot) (tag : Byte) (p : List Byte)
      (hp : s.inProgress = none) (hw : s.carriedWaiting < 8) (he : s.findLot l.id = some e)
      (hl : s.lots[e] = some l) (ho : l.state = .opened) (hg : gridValid l p = true)
      (hx : s.waferExists l (u8 p 13) = false) (hv : outlineValid p = true) (hn : s.slot n = none) :
      OpenMove s (s.takeSlot n e tag (Wafer.new l.id p))

/-- The Map Export Unit. -/
inductive MexMove : State → State → Prop where
  | starts (s : State) (n : SlotId) (w : Wafer) (d : Detail) (k : Nat) (hm : s.mex = none)
      (hw : s.slot n = some w) (hc : w.state = .closed) (hk : k ≤ 64) :
      MexMove s (({ s with mex := some ⟨false, n, d, w.spans.length, 0, k, none⟩ } : State).setSlot n
        (some { w with state := .exporting }))
  | refills (s : State) (m : Mex) (k : Nat) (hm : s.mex = some m) (hp : s.inProgress = none)
      (hk : k ≤ 64) : MexMove s { s with mex := some { m with waiting := false, window := k } }
  | stopWaits (s : State) (m : Mex) (tag : Byte) (hm : s.mex = some m) (hp : s.inProgress = none)
      (hw : s.carriedWaiting < 8) (hs : 0 < m.position) :
      MexMove s { s with mex := some { m with offered := none }, inProgress := some (.stopping tag) }
  | halts (s : State) (hp : ∀ tag, s.inProgress ≠ some (.stopping tag)) : MexMove s s.haltExport
  | stops (s : State) (tag : Byte) (f : Frame) (h : s.inProgress = some (.stopping tag)) :
      MexMove s (({ s with inProgress := none } : State).haltExport.makeReady (.reply false f))
  | offersSegment (s : State) (m : Mex) (f : Frame) (hm : s.mex = some m) (hb : m.mayBuild = true)
      (hp : s.exportStops = false) : MexMove s { s with mex := some { m with offered := some (.segment f) } }
  | offersEnd (s : State) (m : Mex) (f : Frame) (hm : s.mex = some m) (hw : m.waiting = false)
      (hp : s.exportStops = false) : MexMove s { s with mex := some { m with offered := some (.finish f) } }
  | segmentTaken (s : State) (m : Mex) (f : Frame) (hm : s.mex = some m)
      (ho : m.offered = some (.segment f)) : MexMove s { s with mex := some m.taken }
  | endTaken (s : State) (m : Mex) (f : Frame) (hm : s.mex = some m)
      (ho : m.offered = some (.finish f)) : MexMove s s.endExport

/-- A full or power-on reset (R180, R181). -/
inductive ResetMove : State → State → Prop where
  | resets (s : State) (b : Bool) (k : ResetKind) :
      ResetMove s { State.reset with pending := s.pending, rst := b, lastReset := k }

/-- The parts of the hardware that a move belongs to. -/
inductive Domain where
  | host | link | control | tick | engine | restart | accounts | cells | alarms | plans | classes | rules
  | settings | lots | slots | opens | mex | reset
  deriving DecidableEq

/-- One move, of a part of the hardware, from one hand and state to another. -/
inductive Move : Domain → Hand → State → Hand → State → Prop where
  | host {s t : State} (h : Hand) : HostMove s t → Move .host h s h t
  | link {s t : State} (h : Hand) : LinkMove s t → Move .link h s h t
  | control (s : State) (i : StationId) (f : Station → Station)
      (h : (s.station i).Controlled (f (s.station i))) : Move .control .idle s .idle (s.modStation i f)
  | tick (s : State) :
      Move .tick .idle s .idle { s with stations := Vector.ofFn fun i => s.stations[i].tick }
  | engine {h h' : Hand} {s t : State} : EngineMove h s h' t → Move .engine h s h' t
  | restart {s t : State} : RestartMove s t → Move .restart .idle s .idle t
  | accounts {h h' : Hand} {s t : State} : AccountMove h s h' t → Move .accounts h s h' t
  | cells {h : Hand} {s t : State} : CellMove h s t → Move .cells h s h t
  | alarms {h : Hand} {s t : State} : AlarmMove h s t → Move .alarms h s h t
  | plans {s t : State} : PlanMove s t → Move .plans .idle s .idle t
  | classes {s t : State} : ClassMove s t → Move .classes .idle s .idle t
  | rules {s t : State} : RuleMove s t → Move .rules .idle s .idle t
  | settings {s t : State} : SettingMove s t → Move .settings .idle s .idle t
  | lots {s t : State} : LotMove s t → Move .lots .idle s .idle t
  | slots {s t : State} : SlotMove s t → Move .slots .idle s .idle t
  | opens {s t : State} : OpenMove s t → Move .opens .idle s .idle t
  | mex {s t : State} : MexMove s t → Move .mex .idle s .idle t
  | reset {s t : State} : ResetMove s t → Move .reset .idle s .idle t

/-! ## Runs of moves -/

/-- One move of a part of the hardware in a set. -/
def MoveIn (D : List Domain) (x y : Hand × State) : Prop := ∃ d ∈ D, Move d x.1 x.2 y.1 y.2

/-- A run of moves of the parts of the hardware in a set. -/
def Run (D : List Domain) (h : Hand) (s : State) (h' : Hand) (t : State) : Prop :=
  Relation.ReflTransGen (MoveIn D) (h, s) (h', t)

theorem Run.refl (D : List Domain) (h : Hand) (s : State) : Run D h s h s := Relation.ReflTransGen.refl

theorem Run.trans {D : List Domain} {h₁ h₂ h₃ : Hand} {s t u : State} (a : Run D h₁ s h₂ t)
    (b : Run D h₂ t h₃ u) : Run D h₁ s h₃ u := Relation.ReflTransGen.trans a b

theorem Run.of_move {D : List Domain} {d : Domain} {h h' : Hand} {s t : State} (m : Move d h s h' t)
    (hd : d ∈ D) : Run D h s h' t := Relation.ReflTransGen.single ⟨d, hd, m⟩

/-- What every move in the set keeps, a run of them keeps. -/
theorem Run.keeps {D : List Domain} {P : Hand → State → Prop}
    (hP : ∀ d ∈ D, ∀ h s h' t, Move d h s h' t → P h s → P h' t) {h h' : Hand} {s t : State}
    (r : Run D h s h' t) (hs : P h s) : P h' t := by
  have key : ∀ y, Relation.ReflTransGen (MoveIn D) (h, s) y → P y.1 y.2 := by
    intro y hy
    induction hy with
    | refl => exact hs
    | tail _ hm ih =>
      obtain ⟨d, hd, hm⟩ := hm
      exact hP d hd _ _ _ _ hm ih
  exact key _ r

/-- A fold of runs, over states with a property that the folded function keeps. -/
theorem Run.foldl {α : Type} {D : List Domain} {h : Hand} {P : State → Prop} {f : State → α → State}
    (hf : ∀ s a, P s → Run D h s h (f s a) ∧ P (f s a)) (l : List α) (s : State) (hs : P s) :
    Run D h s h (l.foldl f s) ∧ P (l.foldl f s) := by
  induction l generalizing s with
  | nil => exact ⟨.refl D h s, hs⟩
  | cons a l ih =>
    obtain ⟨h1, h2⟩ := hf s a hs
    obtain ⟨h3, h4⟩ := ih (f s a) h2
    exact ⟨h1.trans h3, h4⟩

end Sys2Proof.Machine
end

section
/-! PROOF. Every request of the server, and every row of the Host Link Controller, is a run of moves. -/

namespace Sys2Proof.Machine

/-! ## What leaves the replies waiting as they are -/

/-- Adding a cause leaves every field but the set and the ready list (R174, R175). -/
theorem State.addCause_keeps {α : Type} (p : State → α)
    (hp : ∀ (s : State) cs r, p { s with causes := cs, ready := r } = p s) (c : Cause) (s : State) :
    p (s.addCause c) = p s := by
  obtain ⟨cs, r, h, -⟩ := State.addCause_form c s
  rw [h, hp]

@[simp] theorem State.addCause_pending (c : Cause) (s : State) : (s.addCause c).pending = s.pending :=
  State.addCause_keeps State.pending (fun _ _ _ => rfl) c s
@[simp] theorem State.addCause_rst (c : Cause) (s : State) : (s.addCause c).rst = s.rst :=
  State.addCause_keeps State.rst (fun _ _ _ => rfl) c s
@[simp] theorem State.addCause_hostRx (c : Cause) (s : State) : (s.addCause c).hostRx = s.hostRx :=
  State.addCause_keeps State.hostRx (fun _ _ _ => rfl) c s
@[simp] theorem State.addCause_requests (c : Cause) (s : State) : (s.addCause c).requests = s.requests :=
  State.addCause_keeps State.requests (fun _ _ _ => rfl) c s
@[simp] theorem State.addCause_inProgress (c : Cause) (s : State) : (s.addCause c).inProgress = s.inProgress :=
  State.addCause_keeps State.inProgress (fun _ _ _ => rfl) c s
@[simp] theorem State.addCause_hostLine (c : Cause) (s : State) : (s.addCause c).hostLine = s.hostLine :=
  State.addCause_keeps State.hostLine (fun _ _ _ => rfl) c s
@[simp] theorem State.addCause_lastReset (c : Cause) (s : State) : (s.addCause c).lastReset = s.lastReset :=
  State.addCause_keeps State.lastReset (fun _ _ _ => rfl) c s
@[simp] theorem State.addCause_lots (c : Cause) (s : State) : (s.addCause c).lots = s.lots :=
  State.addCause_keeps State.lots (fun _ _ _ => rfl) c s
@[simp] theorem State.addCause_plans (c : Cause) (s : State) : (s.addCause c).plans = s.plans :=
  State.addCause_keeps State.plans (fun _ _ _ => rfl) c s
@[simp] theorem State.addCause_slots (c : Cause) (s : State) : (s.addCause c).slots = s.slots :=
  State.addCause_keeps State.slots (fun _ _ _ => rfl) c s
@[simp] theorem State.addCause_classes (c : Cause) (s : State) : (s.addCause c).classes = s.classes :=
  State.addCause_keeps State.classes (fun _ _ _ => rfl) c s
@[simp] theorem State.addCause_stations (c : Cause) (s : State) : (s.addCause c).stations = s.stations :=
  State.addCause_keeps State.stations (fun _ _ _ => rfl) c s
@[simp] theorem State.addCause_lastGranted (c : Cause) (s : State) : (s.addCause c).lastGranted = s.lastGranted :=
  State.addCause_keeps State.lastGranted (fun _ _ _ => rfl) c s
@[simp] theorem State.addCause_mem (c : Cause) (s : State) : (s.addCause c).mem = s.mem :=
  State.addCause_keeps State.mem (fun _ _ _ => rfl) c s
@[simp] theorem State.addCause_corrected (c : Cause) (s : State) : (s.addCause c).corrected = s.corrected :=
  State.addCause_keeps State.corrected (fun _ _ _ => rfl) c s
@[simp] theorem State.addCause_rules (c : Cause) (s : State) : (s.addCause c).rules = s.rules :=
  State.addCause_keeps State.rules (fun _ _ _ => rfl) c s
@[simp] theorem State.addCause_tripped (c : Cause) (s : State) : (s.addCause c).tripped = s.tripped :=
  State.addCause_keeps State.tripped (fun _ _ _ => rfl) c s
@[simp] theorem State.addCause_alarms (c : Cause) (s : State) : (s.addCause c).alarms = s.alarms :=
  State.addCause_keeps State.alarms (fun _ _ _ => rfl) c s
@[simp] theorem State.addCause_cal (c : Cause) (s : State) : (s.addCause c).cal = s.cal :=
  State.addCause_keeps State.cal (fun _ _ _ => rfl) c s
@[simp] theorem State.addCause_overflow (c : Cause) (s : State) : (s.addCause c).overflow = s.overflow :=
  State.addCause_keeps State.overflow (fun _ _ _ => rfl) c s
@[simp] theorem State.addCause_mex (c : Cause) (s : State) : (s.addCause c).mex = s.mex :=
  State.addCause_keeps State.mex (fun _ _ _ => rfl) c s
@[simp] theorem State.addCause_station (c : Cause) (s : State) (j : StationId) :
    (s.addCause c).station j = s.station j :=
  State.addCause_keeps (fun s => s.station j) (fun _ _ _ => rfl) c s
@[simp] theorem State.addCause_slot (c : Cause) (s : State) (n : SlotId) : (s.addCause c).slot n = s.slot n :=
  State.addCause_keeps (fun s => s.slot n) (fun _ _ _ => rfl) c s

/-- A NOTICE is no reply: adding a cause leaves the replies that wait as they are (R173). -/
theorem State.addCause_countP (c : Cause) (s : State) (p : ReadyFrame → Bool) (hp : p .notice = false) :
    (s.addCause c).ready.countP p = s.ready.countP p := by
  unfold State.addCause
  split
  · rfl
  · dsimp only
    split <;> simp [hp]

@[simp] theorem State.addCause_carriedWaiting (c : Cause) (s : State) :
    (s.addCause c).carriedWaiting = s.carriedWaiting :=
  State.addCause_countP c s _ rfl

@[simp] theorem State.addCause_immediateWaiting (c : Cause) (s : State) :
    (s.addCause c).immediateWaiting = s.immediateWaiting :=
  State.addCause_countP c s _ rfl

/-- The replies that wait depend on the ready list alone. -/
theorem State.carriedWaiting_congr {s t : State} (h : t.ready = s.ready) :
    t.carriedWaiting = s.carriedWaiting := by
  unfold State.carriedWaiting
  rw [h]

theorem State.releaseActive_carriedWaiting (id : LotId) (s : State) :
    (s.releaseActive id).carriedWaiting = s.carriedWaiting := by
  unfold State.releaseActive
  split
  · rfl
  · split
    · rfl
    · split
      · rw [State.addCause_carriedWaiting]; rfl
      · rfl

theorem State.unbindSlot_carriedWaiting (n : SlotId) (s : State) :
    (s.unbindSlot n).carriedWaiting = s.carriedWaiting := by
  unfold State.unbindSlot
  split <;> rfl

theorem State.completeClose_inProgress (n : SlotId) (deferred : Bool) (s : State) :
    (s.completeClose n deferred).inProgress = s.inProgress := by
  obtain ⟨st, sl, l, cs, r, h⟩ := State.completeClose_ended n deferred s
  rw [h]

theorem State.completeClose_carriedWaiting (n : SlotId) (deferred : Bool) (s : State) :
    (s.completeClose n deferred).carriedWaiting = s.carriedWaiting := by
  unfold State.completeClose
  split
  · rfl
  · rename_i w _
    rw [State.releaseActive_carriedWaiting]
    have h1 := State.unbindSlot_carriedWaiting n s
    split
    · rw [State.addCause_carriedWaiting]
      split <;> exact h1
    · split <;> exact h1

/-! ## Requests -/

variable {D : List Domain}

theorem Run.host {s t : State} {h : Hand} (m : HostMove s t) (hD : Domain.host ∈ D) : Run D h s h t :=
  .of_move (.host h m) hD

theorem State.answer_run (hD : Domain.host ∈ D) (kind tag : Byte) (st : Status) (body : List Byte) {s : State}
    (h : s.inProgress = none) (hw : s.carriedWaiting < 8) :
    Run D .idle s .idle (s.answer kind tag st body) :=
  .host (.replies s _ h hw) hD

theorem State.ok_run (hD : Domain.host ∈ D) (r : Frame) (body : List Byte) {s : State}
    (h : s.inProgress = none) (hw : s.carriedWaiting < 8) : Run D .idle s .idle (s.ok r body) :=
  State.answer_run hD _ _ _ _ h hw

theorem State.status_run (hD : Domain.host ∈ D) (r : Frame) (st : Status) {s : State}
    (h : s.inProgress = none) (hw : s.carriedWaiting < 8) : Run D .idle s .idle (s.status r st) :=
  State.answer_run hD _ _ _ _ h hw

/-- A request row runs as what it carries out, which stands where no request is in progress and a reply has its
place (R171). -/
theorem State.takeRequest_run (hD : Domain.host ∈ D) {accepts : Frame → Bool}
    {carry : Frame → State → State}
    (hc : ∀ r s, s.inProgress = none → s.carriedWaiting < 8 → Run D .idle s .idle (carry r s))
    (s : State) : Run D .idle s .idle (s.takeRequest accepts carry) := by
  rcases State.takeRequest_cases accepts carry s with ⟨r, rest, ⟨-, hp, hw, hr⟩, -, h⟩ | h
  · rw [h]
    exact (Run.host (.takes s r rest hr) hD).trans (hc r _ hp hw)
  · rw [h]
    exact .refl _ _ _

/-- A number below the bound is found by `inRange`. -/
theorem inRange_eq_some {n m : Nat} {k : Fin n} : inRange n m = some k ↔ m = k.val := by
  unfold inRange
  split
  · rw [Option.some_inj]
    constructor
    · rintro rfl; rfl
    · rintro rfl; rfl
  · rename_i h
    simp only [reduceCtorEq, false_iff]
    rintro rfl
    exact h k.isLt

theorem inRange_eq_none {n m : Nat} : inRange n m = none ↔ n ≤ m := by
  unfold inRange
  split <;> simp <;> omega

theorem clamp_le {low high n : Nat} (h : low ≤ high) : clamp low high n ≤ high := by
  unfold clamp
  split
  · omega
  · split <;> omega

theorem le_clamp {low high n : Nat} (h : low ≤ high) : low ≤ clamp low high n := by
  unfold clamp
  split
  · omega
  · split <;> omega

/-! ## Requests that reply alone -/

section Replies
variable (hD : Domain.host ∈ D) (r : Frame) {s : State} (h : s.inProgress = none)
  (hw : s.carriedWaiting < 8)
include hD h hw

theorem State.reportStatus_run : Run D .idle s .idle (s.reportStatus r) := by
  have h1 : Run D .idle s .idle s.dropTop := by
    unfold State.dropTop
    split
    · exact .refl _ _ _
    · exact .host (.dropCause s _) hD
  refine h1.trans (State.ok_run hD r _ ?_ ?_)
  · unfold State.dropTop; split <;> exact h
  · unfold State.dropTop; split <;> exact hw

theorem State.withLot_run {offset : Nat} {go : Fin 16 → Lot → State → State}
    (hgo : ∀ e l id, lotIdField r.payload offset = some id → s.findLot id = some e → s.lots[e] = some l →
      Run D .idle s .idle (go e l s)) : Run D .idle s .idle (s.withLot offset r go) := by
  unfold State.withLot
  split
  · exact State.status_run hD r _ h hw
  · rename_i id hid
    split
    · exact State.status_run hD r _ h hw
    · rename_i e he
      split
      · exact State.status_run hD r _ h hw
      · rename_i l hl
        exact hgo e l id hid he hl

theorem State.withSlot_run {go : SlotId → State → State} (hgo : ∀ n, Run D .idle s .idle (go n s)) :
    Run D .idle s .idle (s.withSlot r go) := by
  unfold State.withSlot
  split
  · exact State.status_run hD r _ h hw
  · exact hgo _

theorem State.stationQuery_run : Run D .idle s .idle (s.stationQuery r) := by
  unfold State.stationQuery
  split
  · exact State.status_run hD r _ h hw
  · exact State.ok_run hD r _ h hw

theorem State.planRead_run : Run D .idle s .idle (s.planRead r) := by
  unfold State.planRead
  split
  · exact State.ok_run hD r _ h hw
  · exact State.status_run hD r _ h hw

theorem State.ruleRead_run : Run D .idle s .idle (s.ruleRead r) := by
  unfold State.ruleRead
  split
  · exact State.ok_run hD r _ h hw
  · exact State.status_run hD r _ h hw

theorem State.alarmList_run : Run D .idle s .idle (s.alarmList r) := by
  unfold State.alarmList
  dsimp only
  split
  · exact State.status_run hD r _ h hw
  · exact State.ok_run hD r _ h hw

theorem State.waferQuery_run : Run D .idle s .idle (s.waferQuery r) := by
  refine State.withSlot_run hD r h hw fun n => ?_
  split
  · exact State.ok_run hD r _ h hw
  · exact State.ok_run hD r _ h hw

theorem State.yieldSlot_run : Run D .idle s .idle (s.yieldSlot r) := by
  unfold State.yieldSlot
  split
  · exact State.status_run hD r _ h hw
  · split
    · exact State.status_run hD r _ h hw
    · split
      · exact State.status_run hD r _ h hw
      · exact State.ok_run hD r _ h hw

theorem State.resetCollation_run :
    Run D .idle s .idle
      (if resetKnown r then { s with inProgress := some (.restarting r.tag) }
        else s.status r .badField) := by
  split
  · exact .host (.restartWaits s r.tag h hw) hD
  · exact State.status_run hD r _ h hw

theorem State.cellRead_run : Run D .idle s .idle (s.cellRead r) := by
  refine State.withSlot_run hD r h hw fun n => ?_
  split
  · exact State.status_run hD r _ h hw
  · rename_i w hs
    dsimp only
    split
    · exact State.status_run hD r _ h hw
    · rename_i hv
      exact .host (.readBegins s r.tag n w _ _ _ h hw hs (by omega) (by omega)) hD

end Replies

/-! ## Requests that set something -/

/-- A plan that PLAN_LOAD takes is clamped (R12). -/
theorem planFields_clamped {p : List Byte} {x : Plan} (hx : planFields p = some x) :
    (1 ≤ x.limit ∧ x.limit ≤ 15) ∧ ∀ b : Bin, x.bins[b].rank ≤ 63 := by
  unfold planFields at hx
  split at hx
  · split at hx
    · obtain rfl := Option.some_inj.1 hx
      refine ⟨⟨le_clamp (by decide), clamp_le (by decide)⟩, fun b => ?_⟩
      simp only [Fin.getElem_fin, Vector.getElem_ofFn]
      unfold binField
      cases BinClass.ofCode (u8 p (4 + 2 * b.val)) with
      | none => exact Nat.le_refl 63
      | some c => exact clamp_le (low := 0) (high := 63) (by decide)
    · cases hx
  · cases hx

/-- A rule that RULE_SET takes is clamped (R132). -/
theorem ruleFields_clamped {p : List Byte} {x : Rule} (hx : ruleFields p = some x) :
    x.threshold ≤ 1000000 ∧ (1 ≤ x.minSample ∧ x.minSample ≤ 65535) ∧
      (x.kind ≠ .binCeiling → x.bin = 0) := by
  unfold ruleFields at hx
  split at hx
  · rename_i kind _ _ _ _ _ _ _ _
    split at hx
    · cases hx
    · obtain rfl := Option.some_inj.1 hx
      refine ⟨?_, ?_, fun hk => if_neg hk⟩
      · cases kind with
        | yieldFloor | siteSkew => exact (clamp_le (low := 0) (high := 10000) (by decide)).trans (Nat.le_of_ble_eq_true rfl)
        | binCeiling => exact clamp_le (low := 0) (high := 1000000) (by decide)
        | groupTimeouts => exact (clamp_le (low := 1) (high := 65535) (by decide)).trans (Nat.le_of_ble_eq_true rfl)
        | consecFail | consecVoid | linkSilent =>
          exact (clamp_le (low := 1) (high := 255) (by decide)).trans (Nat.le_of_ble_eq_true rfl)
      · cases kind with
        | yieldFloor | siteSkew | binCeiling => exact ⟨le_clamp (by decide), clamp_le (by decide)⟩
        | groupTimeouts | consecFail | consecVoid | linkSilent => exact ⟨Nat.le_refl 1, Nat.le_of_ble_eq_true rfl⟩
  · cases hx

theorem State.raise_inProgress (k : Nat) (s : State) : (s.raise k).inProgress = s.inProgress := by
  obtain ⟨es, c, cs, rd, h⟩ := State.raise_form k s
  rw [h]

theorem State.raise_carriedWaiting (k : Nat) (s : State) :
    (s.raise k).carriedWaiting = s.carriedWaiting := by
  unfold State.raise
  split
  · rfl
  · split
    · rw [State.addCause_carriedWaiting]; rfl
    · rfl

section Settings
variable (hD : Domain.host ∈ D) (r : Frame) {s : State} (h : s.inProgress = none)
  (hw : s.carriedWaiting < 8)
include hD h hw

theorem State.resetFull_run (hR : Domain.reset ∈ D) :
    Run D .idle s .idle (if resetKnown r then s.fullReset else s.status r .badField) := by
  split
  · exact .of_move (.reset (.resets s false .full)) hR
  · exact State.status_run hD r _ h hw

theorem State.stationSet_run (hS : Domain.settings ∈ D) : Run D .idle s .idle (s.stationSet r) := by
  unfold State.stationSet
  split
  · rename_i i c _ _
    split
    · have m := SettingMove.sets s i (clamp 0 15 (u8 r.payload 1)) c (clamp_le (by decide))
      exact (Run.of_move (.settings m) hS).trans (State.ok_run hD r _ h hw)
    · exact State.status_run hD r _ h hw
  · exact State.status_run hD r _ h hw

theorem State.classSet_run (hC : Domain.classes ∈ D) : Run D .idle s .idle (s.classSet r) := by
  unfold State.classSet
  split
  · rename_i c m _ _
    split
    · exact State.status_run hD r _ h hw
    · have mv := ClassMove.sets s c ⟨clamp 1 255 (u8 r.payload 1), m⟩
        ⟨le_clamp (by decide), clamp_le (by decide)⟩
      exact (Run.of_move (.classes mv) hC).trans (State.ok_run hD r _ h hw)
  · exact State.status_run hD r _ h hw

theorem State.planLoad_run (hP : Domain.plans ∈ D) : Run D .idle s .idle (s.planLoad r) := by
  unfold State.planLoad
  split
  · rename_i k p _ hp
    split
    · exact State.status_run hD r _ h hw
    · rename_i hu
      obtain ⟨hl, hr⟩ := planFields_clamped hp
      exact (Run.of_move (.plans (.loads s k p (by simpa using hu) hl hr)) hP).trans
        (State.ok_run hD r _ h hw)
  · exact State.status_run hD r _ h hw

theorem State.ruleSet_run (hR : Domain.rules ∈ D) (hL : Domain.link ∈ D) :
    Run D .idle s .idle (s.ruleSet r) := by
  unfold State.ruleSet
  split
  · rename_i k x _ hx
    obtain ⟨ht, hm, hb⟩ := ruleFields_clamped hx
    have m1 := Run.of_move (.rules (.sets s k x ht hm hb)) hR
    exact (m1.trans (.of_move (.link .idle (.arms _ (Watch.ofRule k))) hL)).trans
      (State.ok_run hD r _ h hw)
  · exact State.status_run hD r _ h hw

theorem State.alarmAck_run (hA : Domain.alarms ∈ D) : Run D .idle s .idle (s.alarmAck r) := by
  refine (Run.of_move (.alarms (.acknowledges .idle s (u8 r.payload 0))) hA).trans
    (State.ok_run hD r _ ?_ ?_)
  · unfold State.acknowledge
    dsimp only
    split
    · exact h
    · rw [State.raise_inProgress]; exact h
  · unfold State.acknowledge
    dsimp only
    split
    · exact hw
    · rw [State.raise_carriedWaiting]; exact hw

theorem State.alarmClear_run (hA : Domain.alarms ∈ D) : Run D .idle s .idle (s.alarmClear r) :=
  (Run.of_move (.alarms (.clears .idle s)) hA).trans (State.ok_run hD r _ h hw)

end Settings

/-! ## STATION_CTRL -/

/-- A record that only the intake state of a station without a group changes. -/
theorem Station.controlled_of_not_awake {x y : Station} (hb : y.binding = x.binding)
    (hg : y.group = x.group) (hp : y.priority = x.priority) (ht : y.timingClass = x.timingClass)
    (hs : y.staging = x.staging) (hr : x.Ranges → y.Ranges)
    (hx : ¬(x.intake = .running ∨ x.intake = .stopping ∨ x.intake = .halted))
    (hy : y.intake = .stopped ∨ y.intake = .running) : x.Controlled y where
  binding := hb
  group := hg
  priority := hp
  timingClass := ht
  staging := hs
  ranges := hr
  awake h := absurd h hx
  stopping h := by rcases hy with hy | hy <;> simp [hy] at h
  notHeld := by rcases hy with hy | hy <;> simp [hy]

/-- The counters at 0 are in their ranges. -/
theorem Station.ranges_start {x : Station} (h : x.Ranges) :
    ({ x with
        intake := .running
        consecFail := Vector.replicate 16 0
        consecVoid := Vector.replicate 16 0 } : Station).Ranges := by
  obtain ⟨h1, h2, h3, h4, h5, -, -⟩ := h
  exact ⟨h1, h2, h3, h4, h5, fun k => by simp, fun k => by simp⟩

/-- A HALT or RESUME has its place on the transmit list (R41). -/
theorem Station.order_ranges {f : StationFrame} {x : Station} (h : x.Ranges) : (x.order f).Ranges := by
  unfold Station.order
  split
  · rename_i ht
    obtain ⟨h1, -, h3⟩ := h
    refine ⟨h1, ?_, h3⟩
    simp only [Station.push, List.length_append, List.length_singleton]
    omega
  · exact h

theorem Station.order_form (f : StationFrame) (x : Station) :
    ∃ tr, x.order f = { x with transmit := tr } := by
  unfold Station.order
  split <;> exact ⟨_, rfl⟩

theorem Station.stop_controlled {x y : Station} (h : x.stop = some y) : x.Controlled y := by
  unfold Station.stop at h
  split at h
  case h_1 hx | h_2 hx =>
    obtain rfl := Option.some_inj.1 h
    by_cases hg : x.group.isSome = true
    · rw [if_pos hg]
      exact ⟨rfl, rfl, rfl, rfl, rfl, id, fun _ _ => .inr (.inl rfl), fun _ => hg, by simp⟩
    · rw [if_neg hg]
      exact ⟨rfl, rfl, rfl, rfl, rfl, id, fun _ hs => absurd hs hg, fun h => by simp at h, by simp⟩
  case h_3 hx =>
    obtain rfl := Option.some_inj.1 h
    refine Station.controlled_of_not_awake rfl rfl rfl rfl rfl ?_ (by simp [hx]) (.inl rfl)
    rintro ⟨h1, h2, -, h4, h5⟩
    exact ⟨h1, h2, Nat.zero_le _, h4, h5⟩
  all_goals cases h

section Control
variable (hD : Domain.host ∈ D) (r : Frame) {s : State} (h : s.inProgress = none)
  (hw : s.carriedWaiting < 8)
include hD h hw

/-- STATION_CTRL runs as its action and its reply. -/
theorem State.control_run {action : StationId → State → Option State}
    (ha : ∀ i t, action i s = some t →
      Run D .idle s .idle t ∧ t.inProgress = s.inProgress ∧ t.ready = s.ready) :
    Run D .idle s .idle (s.control action r) := by
  unfold State.control
  split
  · exact State.status_run hD r _ h hw
  · split
    · exact State.status_run hD r _ h hw
    · split
      · exact State.status_run hD r _ h hw
      · rename_i t ht
        obtain ⟨hr, hp, hq⟩ := ha _ t ht
        refine hr.trans (State.ok_run hD r _ (hp.trans h) ?_)
        rw [State.carriedWaiting_congr hq]
        exact hw

theorem State.release_run (hC : Domain.control ∈ D) :
    Run D .idle s .idle (s.control State.release r) := by
  refine State.control_run hD r h hw fun i t ht => ?_
  unfold State.release at ht
  split at ht
  · rename_i hx
    obtain rfl := Option.some_inj.1 ht
    refine ⟨.of_move (.control s i _ ?_) hC, rfl, rfl⟩
    exact Station.controlled_of_not_awake rfl rfl rfl rfl rfl id (by simp [hx]) (.inl rfl)
  · cases ht

theorem State.start_run (hC : Domain.control ∈ D) (hL : Domain.link ∈ D) :
    Run D .idle s .idle (s.control State.start r) := by
  refine State.control_run hD r h hw fun i t ht => ?_
  unfold State.start at ht
  split at ht
  · rename_i hx
    obtain rfl := Option.some_inj.1 ht
    refine ⟨Run.trans (.of_move (.control s i _ ?_) hC)
      (.of_move (.link .idle (.arms _ (Watch.probeOf i))) hL), rfl, rfl⟩
    exact Station.controlled_of_not_awake rfl rfl rfl rfl rfl Station.ranges_start (by simp [hx])
      (.inr rfl)
  · cases ht

theorem State.stop_run (hC : Domain.control ∈ D) : Run D .idle s .idle (s.control State.stop r) := by
  refine State.control_run hD r h hw fun i t ht => ?_
  obtain ⟨y, hy, rfl⟩ := Option.map_eq_some_iff.1 ht
  exact ⟨.of_move (.control s i _ (Station.stop_controlled hy)) hC, rfl, rfl⟩

theorem State.resume_run (hC : Domain.control ∈ D) :
    Run D .idle s .idle (s.control State.resume r) := by
  refine State.control_run hD r h hw fun i t ht => ?_
  unfold State.resume at ht
  split at ht
  · rename_i hx
    obtain rfl := Option.some_inj.1 ht
    refine ⟨.of_move (.control s i _ ?_) hC, rfl, rfl⟩
    obtain ⟨tr, he⟩ := Station.order_form .resume { s.station i with intake := .running }
    have hr : (s.station i).Ranges →
        (Station.order .resume { s.station i with intake := .running }).Ranges :=
      fun hr => Station.order_ranges hr
    rw [he] at hr ⊢
    exact ⟨rfl, rfl, rfl, rfl, rfl, hr, fun _ _ => .inl rfl, fun h => by simp at h, by simp⟩
  · cases ht

end Control

/-! ## Lots and wafers -/

/-- A field that is read as a lot id has the form of R2. -/
theorem lotIdField_wf {p : List Byte} {i : Nat} {id : LotId} (h : lotIdField p i = some id) :
    LotId.wf id = true := by
  unfold lotIdField at h
  dsimp only at h
  split at h
  · rename_i hc
    obtain rfl := Option.some_inj.1 h
    exact hc.2.2
  · cases h

/-- The entry found for an id holds a lot of that id (R2). -/
theorem State.findLot_spec {s : State} {id : LotId} {e : Fin 16} (h : s.findLot id = some e) :
    s.lots[e].map Lot.id = some id := by
  simpa using List.find?_some h

theorem State.findLot_id {s : State} {id : LotId} {e : Fin 16} {l : Lot} (h : s.findLot id = some e)
    (hl : s.lots[e] = some l) : l.id = id := by
  simpa [hl] using State.findLot_spec h

section Lots
variable (hD : Domain.host ∈ D) (r : Frame) {s : State} (h : s.inProgress = none)
  (hw : s.carriedWaiting < 8)
include hD h hw

theorem State.lotOpen_run (hL : Domain.lots ∈ D) : Run D .idle s .idle (s.lotOpen r) := by
  unfold State.lotOpen
  split
  · rename_i id k hid hk
    dsimp only
    split
    · exact State.status_run hD r _ h hw
    · rename_i hn
      split
      · exact State.status_run hD r _ h hw
      · exact State.status_run hD r _ h hw
      · rename_i e hf he
        have he' : s.lots[e] = none := by simpa using List.find?_some he
        have m := LotMove.opens s e id k (u8 r.payload 14) (lotIdField_wf hid) (by omega) hf he'
        exact (Run.of_move (.lots m) hL).trans (State.ok_run hD r _ h hw)
  · exact State.status_run hD r _ h hw

theorem State.lotClose_run (hL : Domain.lots ∈ D) : Run D .idle s .idle (s.lotClose r) := by
  refine State.withLot_run hD r h hw fun e l id _ _ hl => ?_
  split
  · rename_i ho
    split
    · rename_i ha
      exact (Run.of_move (.lots (.closes s e l hl ho ha)) hL).trans (State.ok_run hD r _ h hw)
    · rename_i ha
      exact (Run.of_move (.lots (.waits s e l hl ho ha)) hL).trans (State.status_run hD r _ h hw)
  · exact State.status_run hD r _ h hw
  · exact State.status_run hD r _ h hw

theorem State.lotRelease_run (hL : Domain.lots ∈ D) : Run D .idle s .idle (s.lotRelease r) := by
  refine State.withLot_run hD r h hw fun e l id _ _ hl => ?_
  split
  · rename_i hc
    exact (Run.of_move (.lots (.frees s e l hl hc.1 hc.2)) hL).trans (State.ok_run hD r _ h hw)
  · exact State.status_run hD r _ h hw

theorem State.lotQuery_run : Run D .idle s .idle (s.lotQuery r) :=
  State.withLot_run hD r h hw fun _ _ _ _ _ _ => State.ok_run hD r _ h hw

theorem State.yieldLot_run : Run D .idle s .idle (s.yieldLot r) :=
  State.withLot_run hD r h hw fun _ _ _ _ _ _ => State.ok_run hD r _ h hw

theorem State.waferOpen_run (hO : Domain.opens ∈ D) : Run D .idle s .idle (s.waferOpen r) := by
  refine State.withLot_run hD r h hw fun e l id _ he hl => ?_
  split
  · exact State.status_run hD r _ h hw
  · rename_i ho
    split
    · exact State.status_run hD r _ h hw
    · rename_i hg
      split
      · exact State.status_run hD r _ h hw
      · rename_i hx
        split
        · exact State.status_run hD r _ h hw
        · rename_i hv
          split
          · exact State.status_run hD r _ h hw
          · rename_i n hn
            have hn' : s.slot n = none := by simpa using List.find?_some hn
            have he' : s.findLot l.id = some e := by rw [State.findLot_id he hl]; exact he
            exact .of_move (.opens (.takes s n e l r.tag r.payload h hw he' hl (by simpa using ho)
              (by simpa using hg) (by simpa using hx) (by simpa using hv) hn')) hO

theorem State.waferClose_run (hS : Domain.slots ∈ D) : Run D .idle s .idle (s.waferClose r) := by
  refine State.withSlot_run hD r h hw fun n => ?_
  split
  · rename_i ho
    split
    · rename_i hg
      exact (Run.of_move (.slots (.waits s n ho hg)) hS).trans (State.status_run hD r _ h hw)
    · rename_i hg
      refine (Run.of_move (.slots (.closes s n ho (by simpa using hg))) hS).trans
        (State.ok_run hD r _ ?_ ?_)
      · rw [State.completeClose_inProgress]; exact h
      · rw [State.completeClose_carriedWaiting]; exact hw
  · split
    · exact State.status_run hD r _ h hw
    · exact State.status_run hD r _ h hw

theorem State.waferReopen_run (hS : Domain.slots ∈ D) : Run D .idle s .idle (s.waferReopen r) := by
  refine State.withSlot_run hD r h hw fun n => ?_
  split
  · exact State.status_run hD r _ h hw
  · rename_i w hs
    split
    · exact State.status_run hD r _ h hw
    · rename_i e he
      split
      · rename_i hc
        exact (Run.of_move (.slots (.reopens s n w e hs hc.1 he hc.2)) hS).trans
          (State.ok_run hD r _ h hw)
      · exact State.status_run hD r _ h hw

theorem State.waferRelease_run (hS : Domain.slots ∈ D) : Run D .idle s .idle (s.waferRelease r) := by
  refine State.withSlot_run hD r h hw fun n => ?_
  split
  · rename_i hc
    exact (Run.of_move (.slots (.frees s n hc h)) hS).trans (State.ok_run hD r _ h hw)
  · exact State.status_run hD r _ h hw

end Lots

/-! ## The Map Export Unit -/

theorem Mex.refill_active {m : Mex} (h : m.waiting = false) (k : Nat) :
    ({ m with waiting := false, window := k } : Mex) = { m with window := k } := by
  rw [← h]

theorem State.sendsSegment_position {s : State} {m : Mex} (h : s.sendsSegment m = true) :
    0 < m.position := by
  unfold State.sendsSegment at h
  cases hl : s.hostLine with
  | none => simp [hl] at h
  | some f =>
    simp only [hl, Option.any_some, decide_eq_true_eq] at h
    exact h.2

section Mex
variable (hD : Domain.host ∈ D) (hM : Domain.mex ∈ D)
include hD hM

theorem State.stopExport_run (tag : Byte) {s : State} (h : s.inProgress = none)
    (hw : s.carriedWaiting < 8) : Run D .idle s .idle (s.stopExport tag) := by
  unfold State.stopExport
  split
  · exact State.answer_run hD _ _ _ _ h hw
  · obtain ⟨m, sl, c, hf⟩ := State.haltExport_form s
    have m1 : Run D .idle s .idle s.haltExport :=
      .of_move (.mex (.halts s (by simp [h]))) hM
    refine m1.trans (State.answer_run hD _ _ _ _ ?_ ?_)
    · rw [hf]; exact h
    · rw [hf]; exact hw

/-- The end of an EXPORT_STOP that waited (R163, R171). -/
theorem State.stopSent_run (s : State) : Run D .idle s .idle s.stopSent := by
  unfold State.stopSent
  split
  · rename_i tag hp
    unfold State.stopExport
    split
    · exact .host (.completes s _ _ hp (by simp)) hD
    · exact .of_move (.mex (.stops s tag _ hp)) hM
  · exact .refl _ _ _

variable (r : Frame) {s : State} (h : s.inProgress = none) (hw : s.carriedWaiting < 8)
include h hw

theorem State.exportStart_run : Run D .idle s .idle (s.exportStart r) := by
  unfold State.exportStart
  split
  · rename_i n d _ _
    split
    · exact State.status_run hD r _ h hw
    · rename_i hm
      split
      · exact State.status_run hD r _ h hw
      · rename_i w hs
        split
        · rename_i hc
          have m := MexMove.starts s n w d (clamp 1 64 (u8 r.payload 2)) hm hs hc (clamp_le (by decide))
          exact (Run.of_move (.mex m) hM).trans (State.ok_run hD r _ h hw)
        · exact State.status_run hD r _ h hw
  · exact State.status_run hD r _ h hw

theorem State.exportMore_run : Run D .idle s .idle (s.exportMore r) := by
  unfold State.exportMore
  dsimp only
  split
  · exact State.status_run hD r _ h hw
  · rename_i m hm
    split
    · have mv := MexMove.refills s m (clamp 1 64 (u8 r.payload 0)) hm h (clamp_le (by decide))
      exact ((Run.of_move (.mex mv) hM).trans (.host (.dropCause _ .exportWaiting) hD)).trans
        (State.ok_run hD r _ h hw)
    · rename_i hf
      have mv := MexMove.refills s m (min 64 (m.window + clamp 1 64 (u8 r.payload 0))) hm h
        (Nat.min_le_left _ _)
      rw [Mex.refill_active (by simpa using hf)] at mv
      exact (Run.of_move (.mex mv) hM).trans (State.ok_run hD r _ h hw)

theorem State.exportStop_run : Run D .idle s .idle (s.exportStop r) := by
  unfold State.exportStop
  split
  · exact State.stopExport_run hD hM r.tag h hw
  · rename_i m hm
    split
    · rename_i hs
      exact .of_move (.mex (.stopWaits s m r.tag hm h hw (State.sendsSegment_position hs))) hM
    · exact State.stopExport_run hD hM r.tag h hw

end Mex

/-! ## The frames of the host link -/

theorem State.hostGood_run (hD : Domain.host ∈ D) (f : Frame) (s : State) :
    Run D .idle s .idle (s.hostGood f) := by
  unfold State.hostGood
  split
  · exact .host (.immediate s _) hD
  · split
    · exact .host (.immediate s _) hD
    · split
      · rename_i hq
        exact .host (.joins s f hq) hD
      · exact .host (.immediate s _) hD

theorem State.hostReceive_run (hD : Domain.host ∈ D) (k : Nat) (bytes : List Byte) (s : State) :
    Run D .idle s .idle (State.hostReceive k bytes s) := by
  induction k generalizing bytes s with
  | zero => exact .host (.bytes s bytes) hD
  | succ k ih =>
    unfold State.hostReceive
    split
    · exact .host (.bytes s _) hD
    · exact Run.trans (.host (.immediate s _) hD) (ih _ _)
    · exact (State.hostGood_run hD _ s).trans (ih _ _)

end Sys2Proof.Machine
end

section
/-! PROOF. What the station-side operations make of a station's binding, group and intake state, of a slot's
plan, and of the cell that is read. -/

namespace Sys2Proof.Machine

/-! ## A read of a cell -/

/-- A read leaves every slot's record as it is but for the damaged count (R98). -/
theorem State.readCell_slot (n m : SlotId) (k : Nat) (s : State) :
    ∃ d : Wafer → Nat, (s.readCell n k).1.slot m =
      (s.slot m).map fun w => { w with acc := { w.acc with damaged := d w } } := by
  unfold State.readCell
  split
  · exact ⟨fun w => w.acc.damaged, by simp⟩
  · exact ⟨fun w => w.acc.damaged, by simp [State.correct, State.slot, State.writeCell]⟩
  · by_cases hm : n = m
    · exact ⟨fun w => bump topCount w.acc.damaged, by
        simp [State.damage, State.modAcc, State.slot_modWafer, hm]⟩
    · exact ⟨fun w => w.acc.damaged, by simp [State.damage, State.modAcc, State.slot_modWafer, hm]⟩

/-- A read of a word that is not clean writes the word back, clean, with the record that is handed to the user
(R97, R98). -/
theorem State.readCell_mem_of_not_clean {n : SlotId} {k : Nat} {s : State}
    (h : (s.cellWord n k).health ≠ .clean) :
    (s.readCell n k).1.mem = s.mem.write (cellAddress n k) ⟨(s.readCell n k).2, .clean⟩ := by
  unfold State.readCell
  split
  · rename_i hc; exact absurd hc h
  · rfl
  · simp [State.damage]

theorem State.readCell_of_clean {n : SlotId} {k : Nat} {s : State}
    (h : (s.cellWord n k).health = .clean) : s.readCell n k = (s, s.cellRecord n k) := by
  simp only [State.readCell, h]
  rfl

/-- After a read the word is clean and holds the record that was handed to the user. -/
theorem State.readCell_cellWord (n : SlotId) (k : Nat) (s : State) :
    (s.readCell n k).1.cellWord n k = ⟨(s.readCell n k).2, .clean⟩ := by
  by_cases hc : (s.cellWord n k).health = .clean
  · rw [State.readCell_of_clean hc, ← hc]
    rfl
  · rw [State.cellWord, State.readCell_mem_of_not_clean hc, Mem.word_write_self]

theorem State.readCell_cellRecord (n : SlotId) (k : Nat) (s : State) :
    (s.readCell n k).1.cellRecord n k = (s.readCell n k).2 := by
  rw [State.cellRecord, State.readCell_cellWord]

/-- A read leaves every other word as it is. -/
theorem State.readCell_word_ne (n : SlotId) (k : Nat) (s : State) {a : Nat} (h : a ≠ cellAddress n k) :
    (s.readCell n k).1.mem.word a = s.mem.word a := by
  by_cases hc : (s.cellWord n k).health = .clean
  · rw [State.readCell_of_clean hc]
  · rw [State.readCell_mem_of_not_clean hc, Mem.word_write_ne _ h]

/-! ## The plan of a slot -/

/-- The plan of a slot hangs on the lot that the slot names, the Lot Table and the plans alone. -/
theorem State.slotPlan_congr {s t : State} {n : SlotId}
    (hs : (t.slot n).map Wafer.lot = (s.slot n).map Wafer.lot) (hl : t.lots = s.lots)
    (hp : t.plans = s.plans) : t.slotPlan n = s.slotPlan n := by
  have hplan : ∀ id, t.planOf id = s.planOf id := by
    intro id
    unfold State.planOf State.lotOf State.findLot
    rw [hl, hp]
  unfold State.slotPlan
  cases hx : s.slot n with
  | none =>
    rw [hx, Option.map_none, Option.map_eq_none_iff] at hs
    rw [hs]
  | some w =>
    rw [hx, Option.map_some, Option.map_eq_some_iff] at hs
    obtain ⟨v, hv, hvw⟩ := hs
    rw [hv]
    dsimp only
    rw [hvw]
    exact hplan w.lot

theorem State.readCell_frame (n : SlotId) (k : Nat) (s : State) :
    (s.readCell n k).1.stations = s.stations ∧ (s.readCell n k).1.lots = s.lots ∧
      (s.readCell n k).1.plans = s.plans ∧ (s.readCell n k).1.inProgress = s.inProgress := by
  obtain ⟨m, sl, co, cs, r, h⟩ := State.readCell_read n k s
  rw [h]
  exact ⟨rfl, rfl, rfl, rfl⟩

theorem State.readCell_station (n : SlotId) (k : Nat) (s : State) (j : StationId) :
    (s.readCell n k).1.station j = s.station j := by
  unfold State.station
  rw [(State.readCell_frame n k s).1]

theorem State.readCell_slotPlan (n m : SlotId) (k : Nat) (s : State) :
    (s.readCell n k).1.slotPlan m = s.slotPlan m := by
  obtain ⟨-, hl, hp, -⟩ := State.readCell_frame n k s
  obtain ⟨d, hd⟩ := State.readCell_slot n m k s
  refine State.slotPlan_congr ?_ hl hp
  rw [hd]
  cases s.slot m <;> rfl

theorem State.readOne_station (s : State) (j : StationId) : s.readOne.station j = s.station j := by
  obtain ⟨_, _, _, _, _, _, h⟩ := State.readOne_readOn s
  rw [h]
  rfl

theorem State.readOne_slotPlan (s : State) (m : SlotId) : s.readOne.slotPlan m = s.slotPlan m := by
  unfold State.readOne
  split
  · split
    · exact State.readCell_slotPlan _ m _ s
    · rfl
  · rfl

theorem State.readAhead_station (k : Nat) (s : State) (j : StationId) :
    (State.readAhead k s).station j = s.station j := by
  obtain ⟨_, _, _, _, _, _, h⟩ := State.readAhead_readOn k s
  rw [h]
  rfl

theorem State.readAhead_slotPlan (k : Nat) (s : State) (m : SlotId) :
    (State.readAhead k s).slotPlan m = s.slotPlan m := by
  induction k generalizing s with
  | zero => rfl
  | succ k ih => rw [State.readAhead, ih, State.readOne_slotPlan]

/-! ## Bindings and groups past an update -/

@[simp] theorem Station.applied_binding (k : SiteId) (p : Bool) (x : Station) :
    (x.applied k p).binding = x.binding := rfl
@[simp] theorem Station.applied_group (k : SiteId) (p : Bool) (x : Station) :
    (x.applied k p).group = x.group := rfl
@[simp] theorem Station.voided_binding (k : SiteId) (x : Station) : (x.voided k).binding = x.binding := rfl
@[simp] theorem Station.voided_group (k : SiteId) (x : Station) : (x.voided k).group = x.group := rfl

/-- An update of a station that keeps a field keeps it at every station. -/
theorem State.modStation_keeps {α : Type} (p : Station → α) (i : StationId) {f : Station → Station}
    (s : State) (hf : p (f (s.station i)) = p (s.station i)) (j : StationId) :
    p ((s.modStation i f).station j) = p (s.station j) := by
  rw [State.station_modStation]
  split
  · rename_i h; subst h; exact hf
  · rfl

/-- A hold touches the intake state and the transmit list (R47). -/
theorem Station.hold_form (k : Fin 16) (l : Fin 8) (x : Station) :
    ∃ it tr, x.hold k l = { x with intake := it, transmit := tr } := by
  unfold Station.hold
  split
  · obtain ⟨tr, h⟩ := Station.order_form (.halt k l) { x with intake := .halted }
    exact ⟨_, _, h⟩
  · exact ⟨_, _, rfl⟩

theorem State.act_keeps {α : Type} (p : Station → α) (hp : ∀ k l x, p (Station.hold k l x) = p x)
    (a : Alarm) (s : State) (j : StationId) : p ((s.act a).station j) = p (s.station j) := by
  unfold State.act
  split
  · rfl
  · split
    · rfl
    · exact State.modStation_keeps p _ s (hp _ _ _) j

theorem State.raise_station (k : Nat) (s : State) (j : StationId) :
    (s.raise k).station j = s.station j := by
  obtain ⟨es, c, cs, r, h⟩ := State.raise_form k s
  rw [h]
  rfl

theorem State.record_keeps {α : Type} (p : Station → α) (hp : ∀ k l x, p (Station.hold k l x) = p x)
    (a : Alarm) (s : State) (j : StationId) : p ((s.record a).station j) = p (s.station j) := by
  unfold State.record
  dsimp only
  rw [State.act_keeps p hp]
  split
  · rfl
  · rw [State.raise_station]
    rfl

/-- An evaluation leaves of every station what a hold leaves. -/
theorem State.judge_keeps {α : Type} (p : Station → α) (hp : ∀ k l x, p (Station.hold k l x) = p x)
    (w : Watch) (f : Finding) (a : Alarm) (s : State) (j : StationId) :
    p ((s.judge w f a).station j) = p (s.station j) := by
  unfold State.judge
  split
  · split <;> rfl
  · split
    · rw [State.record_keeps p hp]
      rfl
    · rfl

theorem State.judge_binding (w : Watch) (f : Finding) (a : Alarm) (s : State) (j : StationId) :
    ((s.judge w f a).station j).binding = (s.station j).binding :=
  State.judge_keeps Station.binding
    (fun k l x => by obtain ⟨it, tr, h⟩ := Station.hold_form k l x; rw [h]) w f a s j

theorem State.judge_group (w : Watch) (f : Finding) (a : Alarm) (s : State) (j : StationId) :
    ((s.judge w f a).station j).group = (s.station j).group :=
  State.judge_keeps Station.group
    (fun k l x => by obtain ⟨it, tr, h⟩ := Station.hold_form k l x; rw [h]) w f a s j

/-! ## The end of a group -/

theorem State.releaseActive_stations (id : LotId) (s : State) :
    (s.releaseActive id).stations = s.stations := by
  unfold State.releaseActive
  split
  · rfl
  · split
    · rfl
    · split
      · rw [State.addCause_stations]; rfl
      · rfl

/-- A close completion touches, of the stations, the binding that is dropped alone (R21 step 1). -/
theorem State.completeClose_stations (n : SlotId) (deferred : Bool) (s : State) :
    (s.completeClose n deferred).stations = s.stations ∨
      (s.completeClose n deferred).stations = (s.unbindSlot n).stations := by
  unfold State.completeClose
  split
  · exact .inl rfl
  · refine .inr ?_
    rename_i w _
    rw [State.releaseActive_stations]
    split
    · rw [State.addCause_stations, State.setSlot_stations]
      split <;> rfl
    · rw [State.setSlot_stations]
      split <;> rfl

theorem State.unbindSlot_keeps {α : Type} (p : Station → α)
    (hp : ∀ x : Station, p { x with binding := none, silenceEnds := true } = p x) (n : SlotId) (s : State)
    (j : StationId) : p ((s.unbindSlot n).station j) = p (s.station j) := by
  unfold State.unbindSlot
  split
  · rfl
  · exact State.modStation_keeps p _ s (hp _) j

/-- A close completion leaves of every station what the drop of a binding leaves. -/
theorem State.completeClose_keeps {α : Type} (p : Station → α)
    (hp : ∀ x : Station, p { x with binding := none, silenceEnds := true } = p x) (n : SlotId)
    (deferred : Bool) (s : State) (j : StationId) :
    p ((s.completeClose n deferred).station j) = p (s.station j) := by
  rcases State.completeClose_stations n deferred s with h | h
  · unfold State.station
    rw [h]
  · rw [← State.unbindSlot_keeps p hp n s j]
    unfold State.station
    rw [h]

theorem State.finishClosing_keeps {α : Type} (p : Station → α)
    (hp : ∀ x : Station, p { x with binding := none, silenceEnds := true } = p x) (n : SlotId) (s : State)
    (j : StationId) : p ((s.finishClosing n).station j) = p (s.station j) := by
  unfold State.finishClosing
  split
  · exact State.completeClose_keeps p hp n true s j
  · rfl

theorem State.finishClosing_group (n : SlotId) (s : State) (j : StationId) :
    ((s.finishClosing n).station j).group = (s.station j).group :=
  State.finishClosing_keeps Station.group (fun _ => rfl) n s j

@[simp] theorem Station.finishStop_group (x : Station) : x.finishStop.group = x.group := by
  unfold Station.finishStop
  split <;> rfl

/-- The end of a group empties the station's place and no other (R73). -/
theorem State.endGroup_group (i : StationId) (s : State) (j : StationId) :
    ((s.endGroup i).station j).group = if i = j then none else (s.station j).group := by
  unfold State.endGroup
  dsimp only
  rw [State.modStation_keeps Station.group i _ (Station.finishStop_group _) j]
  have hset : ((s.modStation i fun x => { x with group := none }).station j).group =
      if i = j then none else (s.station j).group := by
    rw [State.station_modStation]
    split <;> rfl
  split
  · exact hset
  · rw [State.finishClosing_group, hset]

theorem State.discardGroup_group (i : StationId) (s : State) (j : StationId) :
    ((s.discardGroup i).station j).group = if i = j then none else (s.station j).group := by
  unfold State.discardGroup
  split
  · exact State.endGroup_group i s j
  · rename_i h
    split
    · rename_i hij
      subst hij
      simpa using h
    · rfl

/-! ## The transform -/

/-- A cell that the transform gives lies in the grid, on the wafer (R30, R32). -/
theorem transform_holds {w : Wafer} {q : Fin 4} {sx sy : Int} {k : Nat}
    (h : transform w q sx sy = .cell k) : w.holds k := by
  unfold transform at h
  dsimp only at h
  generalize place w (rotate q sx sy) = uv at h
  obtain ⟨col, row⟩ := uv
  dsimp only at h
  split at h
  · cases h
  · rename_i hb
    push Not at hb
    obtain ⟨h1, h2, h3, h4⟩ := hb
    split at h
    · rename_i hon
      obtain rfl := Transformed.cell.inj h
      have hc : col.toNat < w.cols := by omega
      have hr : row.toNat < w.rows := by omega
      refine ⟨?_, ?_⟩
      · calc row.toNat * w.cols + col.toNat < row.toNat * w.cols + w.cols := by omega
          _ = (row.toNat + 1) * w.cols := by ring
          _ ≤ w.rows * w.cols := Nat.mul_le_mul_right _ hr
          _ = w.cols * w.rows := Nat.mul_comm _ _
      · have e1 : (row.toNat * w.cols + col.toNat) % w.cols = col.toNat := by
          rw [Nat.mul_comm, Nat.mul_add_mod, Nat.mod_eq_of_lt hc]
        have e2 : (row.toNat * w.cols + col.toNat) / w.cols = row.toNat := by
          rw [Nat.mul_comm, Nat.mul_add_div (by omega), Nat.div_eq_of_lt hc, Nat.add_zero]
        rw [e1, e2]
        exact hon
    · cases h

end Sys2Proof.Machine
end

section
/-! PROOF. Every row of the stations, the timers and the resets is a run of moves, and so every step is. -/

namespace Sys2Proof.Machine

variable {D : List Domain}

theorem Run.engine {h h' : Hand} {s t : State} (m : EngineMove h s h' t) (hE : Domain.engine ∈ D) :
    Run D h s h' t := .of_move (.engine m) hE

theorem Run.link {h : Hand} {s t : State} (m : LinkMove s t) (hL : Domain.link ∈ D) : Run D h s h t :=
  .of_move (.link h m) hL

/-! ## The receiver of a station -/

/-- A reply that the Station Link Controller makes at once touches the transmit list, in its range (R41). -/
theorem Station.answer_form (r : StationReply) (x : Station) :
    ∃ tr, x.answer r = { x with transmit := tr } ∧
      (tr.length ≤ x.transmit.length ∨ tr.length ≤ 15) := by
  unfold Station.answer
  split
  · rename_i h
    exact ⟨_, rfl, .inr (by simp only [List.length_append, List.length_singleton]; omega)⟩
  · exact ⟨_, rfl, .inl (Nat.le_refl _)⟩

/-- A change of the queues, the counts and the receiver within their ranges is quiet. -/
theorem Station.quiet_of_fields {x : Station} {st : List Frame} {tr : List StationFrame} {bf si : Nat}
    {ln : Option StationFrame} {rx : List Byte}
    (hst : st = x.staging ∨ st.length ≤ 8 ∧ x.intake ≠ .held ∧ x.intake ≠ .faulted)
    (htr : tr.length ≤ x.transmit.length ∨ tr.length ≤ 15) (hbf : x.badFrames ≤ 16 → bf ≤ 16)
    (hsi : x.silence ≤ 65535 → si ≤ 65535) :
    x.Quiet { x with
      staging := st, transmit := tr, badFrames := bf, silence := si, line := ln, rx := rx } where
  binding := rfl
  group := rfl
  intake := rfl
  priority := rfl
  timingClass := rfl
  staging := hst.imp id fun h => h.2
  ranges := by
    rintro ⟨h1, h2, h3, h4, h5⟩
    refine ⟨?_, ?_, hbf h3, hsi h4, h5⟩
    · rcases hst with rfl | hst
      · exact h1
      · exact hst.1
    · dsimp only
      omega
  transmit := by dsimp only; omega

theorem bump_le {top n : Nat} (h : n ≤ top) : bump top n ≤ top := by
  unfold bump
  split <;> omega

/-- The examination of a good frame is quiet in every state but FAULTED, where none is examined (R37 to R40). -/
theorem Station.examine_quiet (f : Frame) {x : Station} (hx : x.intake ≠ .faulted) :
    x.Quiet (({ x with badFrames := 0, silence := 0 } : Station).examine f) := by
  have hanswer : ∀ r, x.Quiet (({ x with badFrames := 0, silence := 0 } : Station).answer r) := by
    intro r
    obtain ⟨tr, h, htr⟩ := Station.answer_form r { x with badFrames := 0, silence := 0 }
    rw [h]
    exact Station.quiet_of_fields (.inl rfl) htr (fun _ => Nat.zero_le _) (fun _ => Nat.zero_le _)
  unfold Station.examine
  split
  · exact hanswer _
  · exact hanswer _
  · split
    · exact hanswer _
    · split
      · exact hanswer _
      · rename_i hi
        push Not at hi
        split
        · rename_i hs
          refine Station.quiet_of_fields (.inr ⟨?_, hi.1, hx⟩) (.inl (Nat.le_refl _))
            (fun _ => Nat.zero_le _) (fun _ => Nat.zero_le _)
          simp only [List.length_append, List.length_singleton]
          exact hs
        · exact hanswer _

theorem State.modStation_rx_run (hL : Domain.link ∈ D) (h : Hand) (i : StationId) (rx : List Byte)
    (s : State) : Run D h s h (s.modStation i fun x => { x with rx := rx }) :=
  .link (.quiet s i _ (Station.quiet_of_fields (.inl rfl) (.inl (Nat.le_refl _)) id id)) hL

/-- In FAULTED every byte is discarded (R40). -/
theorem State.stationReceive_of_faulted {i : StationId} {s : State}
    (h : (s.station i).intake = .faulted) (k : Nat) (bytes : List Byte) :
    ∃ rx, State.stationReceive i k bytes s = s.modStation i fun x => { x with rx := rx } := by
  cases k with
  | zero => exact ⟨_, rfl⟩
  | succ k => exact ⟨[], by rw [State.stationReceive, if_pos h]⟩

/-- What the receiver leaves of the station while the Collation Engine has its work in hand (R48): binding and
group stay, and where the bytes have not faulted the station, its intake state. -/
structure State.StillHolds (s t : State) (i : StationId) (faulting : Bool) : Prop where
  binding : (t.station i).binding = (s.station i).binding
  group : (t.station i).group = (s.station i).group
  awake : faulting = false → (t.station i).intake = (s.station i).intake
  faulted : faulting = true → (s.station i).intake ≠ .faulted ∧ (t.station i).intake = .faulted

theorem State.StillHolds.refl (s : State) (i : StationId) : s.StillHolds s i false :=
  ⟨rfl, rfl, fun _ => rfl, fun h => by cases h⟩

theorem State.StillHolds.modStation {s t : State} {i : StationId} {f : Bool} (h : s.StillHolds t i f)
    {g : Station → Station} (hb : (g (t.station i)).binding = (t.station i).binding)
    (hg : (g (t.station i)).group = (t.station i).group)
    (hi : (g (t.station i)).intake = (t.station i).intake) : s.StillHolds (t.modStation i g) i f where
  binding := by rw [State.station_modStation_self, hb, h.binding]
  group := by rw [State.station_modStation_self, hg, h.group]
  awake hf := by rw [State.station_modStation_self, hi, h.awake hf]
  faulted hf := ⟨(h.faulted hf).1, by rw [State.station_modStation_self, hi, (h.faulted hf).2]⟩

theorem State.StillHolds.arm {s t : State} {i : StationId} {f : Bool} (h : s.StillHolds t i f)
    (which : Watch → Bool) : s.StillHolds (t.arm which) i f := ⟨h.binding, h.group, h.awake, h.faulted⟩

theorem State.StillHolds.of_eq {s u t : State} {i : StationId} {f : Bool} (h : u.StillHolds t i f)
    (hb : (u.station i).binding = (s.station i).binding) (hg : (u.station i).group = (s.station i).group)
    (hi : (u.station i).intake = (s.station i).intake) : s.StillHolds t i f where
  binding := h.binding.trans hb
  group := h.group.trans hg
  awake hf := (h.awake hf).trans hi
  faulted hf := ⟨by rw [← hi]; exact (h.faulted hf).1, (h.faulted hf).2⟩

/-- The hand after bytes: work that a fault has overtaken, or the hand as it was. -/
def Hand.after (h : Hand) (i : StationId) (faulting : Bool) : Hand :=
  if faulting then .busy i true false none else h

/-- The bytes on a station's line are a run of moves, which ends with the station faulted or not. -/
theorem State.stationReceive_run (hL : Domain.link ∈ D) (hE : Domain.engine ∈ D) (i : StationId) {h : Hand}
    (hh : h = .idle ∨ ∃ o, h = .busy i false o none) (k : Nat) (bytes : List Byte) (s : State) :
    ∃ f, Run D h s (h.after i f) (State.stationReceive i k bytes s) ∧
      s.StillHolds (State.stationReceive i k bytes s) i f := by
  have hrx : ∀ rx, ∃ f, Run D h s (h.after i f) (s.modStation i fun x => { x with rx := rx }) ∧
      s.StillHolds (s.modStation i fun x => { x with rx := rx }) i f := fun rx =>
    ⟨false, State.modStation_rx_run hL h i rx s, (State.StillHolds.refl s i).modStation rfl rfl rfl⟩
  induction k generalizing bytes s with
  | zero => exact hrx bytes
  | succ k ih =>
    have hnext : ∀ (t : State) rest, Run D h s h t → s.StillHolds t i false →
        ∃ f, Run D h s (h.after i f) (State.stationReceive i k rest t) ∧
          s.StillHolds (State.stationReceive i k rest t) i f := by
      intro t rest hr hk
      obtain ⟨f, h1, h2⟩ := ih rest t fun rx =>
        ⟨false, State.modStation_rx_run hL h i rx t, (State.StillHolds.refl t i).modStation rfl rfl rfl⟩
      exact ⟨f, hr.trans h1, h2.of_eq hk.binding hk.group (hk.awake rfl)⟩
    unfold State.stationReceive
    split
    · exact hrx []
    · rename_i hx
      split
      · exact hrx _
      · rename_i rest _
        obtain ⟨tr, he, htr⟩ := Station.answer_form (.refuse 0 .badFrame) (s.station i)
        have hq : (s.station i).Quiet { (s.station i).answer (.refuse 0 .badFrame) with
            badFrames := bump 16 (s.station i).badFrames } := by
          rw [he]
          exact Station.quiet_of_fields (.inl rfl) htr bump_le id
        have h1 := Run.link (D := D) (h := h) (.quiet s i (fun x =>
          { x.answer (.refuse 0 .badFrame) with badFrames := bump 16 x.badFrames }) hq) hL
        have hk := (State.StillHolds.refl s i).modStation (g := fun x =>
          { x.answer (.refuse 0 .badFrame) with badFrames := bump 16 x.badFrames })
          hq.binding hq.group hq.intake
        unfold State.badFrame
        dsimp only
        split
        · rename_i hf
          obtain ⟨rx, hr⟩ := State.stationReceive_of_faulted (i := i)
            (s := (s.modStation i fun x =>
              { x.answer (.refuse 0 .badFrame) with badFrames := bump 16 x.badFrames }).modStation i
              Station.fault) (by simp [Station.fault]) k rest
          rw [hr]
          refine ⟨true, (h1.trans (.engine (.faults _ i h hh hf.2) hE)).trans
            (State.modStation_rx_run hL _ i rx _), ?_⟩
          constructor
          · rw [State.station_modStation_self, State.station_modStation_self]
            exact hk.binding
          · rw [State.station_modStation_self, State.station_modStation_self]
            exact hk.group
          · exact fun h => by cases h
          · exact fun _ => ⟨hx, by rw [State.station_modStation_self, State.station_modStation_self]; rfl⟩
        · exact hnext _ rest h1 hk
      · rename_i f rest _
        have hq := Station.examine_quiet f hx
        exact hnext _ rest ((Run.link (.quiet s i _ hq) hL).trans
          (.link (.arms _ (Watch.linkOf i)) hL))
          (((State.StillHolds.refl s i).modStation (g := fun x =>
            ({ x with badFrames := 0, silence := 0 } : Station).examine f)
            hq.binding hq.group hq.intake).arm _)

/-! ## Work in hand -/

/-- Steps 3 to 5 of the entry to FAULTED (R48). -/
theorem State.finishFault_run (hE : Domain.engine ∈ D) (hH : Domain.host ∈ D) (i : StationId) (s : State) :
    Run D (.busy i true false none) s .idle (s.finishFault i) := by
  unfold State.finishFault
  have h1 : Run D (.busy i true false none) s (.busy i true false none) (s.discardGroup i) := by
    unfold State.discardGroup
    split
    · exact .engine (.ends s i _ (by simp)) hE
    · exact .refl _ _ _
  have hg : ((s.discardGroup i).station i).group = none := by
    rw [State.discardGroup_group, if_pos rfl]
  exact (h1.trans (.engine (.faulted _ i hg) hE)).trans (.host (.addCause _ .stationFault) hH)

/-- Whether the bytes faulted the station, as `State.receiving` tells it. -/
theorem State.StillHolds.faulting_iff {s t : State} {i : StationId} {f : Bool} (h : s.StillHolds t i f) :
    ((s.station i).intake ≠ .faulted ∧ (t.station i).intake = .faulted) ↔ f = true := by
  cases f with
  | true => exact ⟨fun _ => rfl, fun _ => h.faulted rfl⟩
  | false =>
    rw [h.awake rfl]
    exact ⟨fun hx => absurd hx.2 hx.1, fun hx => by cases hx⟩

/-- Bytes that arrive while nothing is in hand (R36 to R40, R48). -/
theorem State.stationBytes_run (hL : Domain.link ∈ D) (hE : Domain.engine ∈ D) (hH : Domain.host ∈ D)
    (i : StationId) (bytes : List Byte) (s : State) : Run D .idle s .idle (s.stationBytes i bytes) := by
  unfold State.stationBytes
  split
  · exact .refl _ _ _
  · unfold State.receiving
    obtain ⟨f, hr, hk⟩ := State.stationReceive_run hL hE i (.inl rfl)
      (((s.station i).rx ++ bytes).length + 1) ((s.station i).rx ++ bytes) s
    dsimp only
    rw [if_congr hk.faulting_iff rfl rfl]
    cases f with
    | true => exact hr.trans (State.finishFault_run hE hH i _)
    | false => exact hr

/-- Work for a station, with bytes arriving meanwhile, is a run of moves where the work is one, overtaken by a
fault or not. -/
theorem State.during_run (hL : Domain.link ∈ D) (hE : Domain.engine ∈ D) (hH : Domain.host ∈ D)
    {i : StationId} {o : Bool} {arriving : List Byte} {work : State → State} {s : State}
    (hw : ∀ f t, s.StillHolds t i f →
      Run D ((Hand.busy i false o none).after i f) t (Hand.idle.after i f) (work t)) :
    Run D (.busy i false o none) s .idle (s.during i arriving work) := by
  unfold State.during
  split
  · exact hw false s (.refl s i)
  · unfold State.receiving
    obtain ⟨f, hr, hk⟩ := State.stationReceive_run hL hE i (.inr ⟨o, rfl⟩)
      (((s.station i).rx ++ arriving).length + 1) ((s.station i).rx ++ arriving) s
    dsimp only
    rw [if_congr hk.faulting_iff rfl rfl]
    cases f with
    | true => exact (hr.trans (hw true _ hk)).trans (State.finishFault_run hE hH i _)
    | false => exact hr.trans (hw false _ hk)

/-- The hand of a record that is carried out: its REPLY is owed until a fault overtakes it (R48). -/
abbrev Hand.record (i : StationId) (f : Bool) : Hand := (Hand.busy i false true none).after i f

theorem Hand.record_eq (i : StationId) (f : Bool) : Hand.record i f = .busy i f (!f) none := by
  cases f <;> rfl

/-- The REPLY ends the work, or a fault discards it (R41, R48). -/
theorem State.deliver_run (hE : Domain.engine ∈ D) (i : StationId) (f : Bool) (y : StationReply)
    (s : State) : Run D (.record i f) s (Hand.idle.after i f) (s.deliver i y) := by
  cases f with
  | true => exact .engine (.discards s i y) hE
  | false => exact .engine (.delivers s i y) hE

theorem State.refuse_run (hE : Domain.engine ∈ D) (i : StationId) (f : Bool) (tag : Byte) (why : Reason)
    (s : State) : Run D (.record i f) s (Hand.idle.after i f) (s.refuse i tag why) :=
  State.deliver_run hE i f _ s

/-- A record row runs as what it carries out. -/
theorem State.takeRecord_run (hE : Domain.engine ∈ D) (hH : Domain.host ∈ D) {k : Byte}
    {carry : StationId → Frame → State → State}
    (hc : ∀ i r s, r.kind = k → Run D (.busy i false true none) s .idle (carry i r s)) (s : State) :
    Run D .idle s .idle (s.takeRecord k carry) := by
  rcases State.takeRecord_cases k carry s with ⟨i, r, rest, ⟨-, -, -, hg, hs⟩, hk, h⟩ | h
  · rw [h]
    have ht : (s.station i).transmit.length < 14 := by
      have hw := State.grant_waits hg
      simp only [Station.waits, Bool.and_eq_true, decide_eq_true_eq] at hw
      exact hw.2
    exact ((Run.host (.grants s i) hH).trans
      (.engine (.takes { s with lastGranted := i } i r rest hs ht) hE)).trans (hc i r _ hk)
  · rw [h]
    exact .refl _ _ _

/-- A record that passes the state check runs as what carries it out (R43). -/
theorem State.checked_run (hL : Domain.link ∈ D) (hE : Domain.engine ∈ D) (hH : Domain.host ∈ D)
    {i : StationId} {r : Frame} {arriving : List Byte} {carry : State → State} {s : State}
    (hc : stateCheck r.kind (s.station i).intake = none → ∀ f t, s.StillHolds t i f →
      Run D (.record i f) t (Hand.idle.after i f) (carry t)) :
    Run D (.busy i false true none) s .idle (s.checked i r arriving carry) := by
  unfold State.checked
  refine State.during_run hL hE hH fun f t hk => ?_
  cases h : stateCheck r.kind (s.station i).intake with
  | some why => exact State.refuse_run hE i f _ _ t
  | none => exact hc h f t hk

/-! ## The records -/

theorem u8_lt (p : List Byte) (k : Nat) : u8 p k < 256 := BitVec.isLt _

theorem u16_lt (p : List Byte) (k : Nat) : u16 p k < 65536 := by
  have h1 := u8_lt p k
  have h2 := u8_lt p (k + 1)
  unfold u16
  omega

/-- The slot that is found holds the wafer in one of the states sought (R55 step 3). -/
theorem State.findWafer_spec {s : State} {states : List WaferState} {id : LotId} {number : Nat}
    {n : SlotId} (h : s.findWafer states id number = some n) :
    ∃ w, s.slot n = some w ∧ w.state ∈ states ∧ w.lot = id ∧ w.number = number := by
  have hf := List.find?_some h
  cases hs : s.slot n with
  | none => simp [hs] at hf
  | some w =>
    simp only [hs, Bool.and_eq_true, decide_eq_true_eq] at hf
    exact ⟨w, rfl, hf.1.1, hf.1.2, hf.2⟩

theorem State.slotIs_iff {s : State} {n : SlotId} {x : WaferState} :
    s.slotIs n x = true ↔ ∃ w, s.slot n = some w ∧ w.state = x := by
  simp [State.slotIs]

theorem State.slotIs_of_slot {s : State} {n : SlotId} {w : Wafer} (h : s.slot n = some w)
    (x : WaferState) : s.slotIs n x = decide (w.state = x) := by
  simp [State.slotIs, h]

section Records
variable (hE : Domain.engine ∈ D) (i : StationId) (r : Frame) (f : Bool) (s : State)
include hE

theorem State.waferStart_run :
    Run D (.record i f) s (Hand.idle.after i f) (s.waferStart i r) := by
  unfold State.waferStart
  split
  · rename_i id q _ _
    dsimp only
    split
    · exact State.refuse_run hE i f _ _ s
    · split
      · exact State.refuse_run hE i f _ _ s
      · rename_i hb
        split
        · exact State.refuse_run hE i f _ _ s
        · rename_i n hn
          obtain ⟨w, hw, hst, -, -⟩ := State.findWafer_spec hn
          split
          · exact State.deliver_run hE i f _ s
          · rename_i h1
            split
            · exact State.refuse_run hE i f _ _ s
            · rename_i h2
              split
              · exact State.refuse_run hE i f _ _ s
              · rename_i h3
                have ho : s.slotIs n .opened = true := by
                  rw [State.slotIs_of_slot hw] at h1 h2 ⊢
                  simp only [List.mem_cons, List.not_mem_nil, or_false] at hst
                  simp only [decide_eq_true_eq] at h1 h2 ⊢
                  tauto
                have m := EngineMove.binds s i f (!f) n q (by simpa using hb) ho (by simpa using h3)
                rw [← Hand.record_eq] at m
                exact (Run.engine m hE).trans (State.deliver_run hE i f _ _)
  · exact State.refuse_run hE i f _ _ s

theorem State.waferEnd_run : Run D (.record i f) s (Hand.idle.after i f) (s.waferEnd i r) := by
  unfold State.waferEnd
  split
  · exact State.refuse_run hE i f _ _ s
  · split
    · exact State.refuse_run hE i f _ _ s
    · rename_i hg
      have m := EngineMove.unbinds s i f (!f) (by simpa using hg)
      rw [← Hand.record_eq] at m
      exact (Run.engine m hE).trans (State.deliver_run hE i f _ _)

end Records

end Sys2Proof.Machine
end

section
/-! PROOF. The work on a touchdown group, the timers and the restart as runs of moves; and from all of it, that
every command runs as moves of the parts of the hardware it works in. -/

namespace Sys2Proof.Machine

variable {D : List Domain}

/-! ## Touchdowns -/

/-- TD_OPEN passes the state check in RUNNING alone (Table 3.6). -/
theorem stateCheck_tdOpen {x : Intake} (h : stateCheck Code.tdOpen x = none) : x = .running := by
  cases x <;> simp [stateCheck] at h ⊢

section Records
variable (hE : Domain.engine ∈ D) (i : StationId) (r : Frame) (f : Bool) (s : State)
include hE

theorem State.tdOpen_run (hi : (s.station i).intake = .running ∨ f = true) :
    Run D (.record i f) s (Hand.idle.after i f) (s.tdOpen i r) := by
  unfold State.tdOpen
  split
  · exact State.refuse_run hE i f _ _ s
  · rename_i b hb
    split
    · exact State.refuse_run hE i f _ _ s
    · split
      · exact State.refuse_run hE i f _ _ s
      · rename_i hg
        split
        · exact State.refuse_run hE i f _ _ s
        · rename_i ha
          have hz : (Group.new s.classes[(s.station i).timingClass] r.payload).active ≠ 0 := by
            intro h
            have := congrArg BitVec.toNat h
            simp only [Group.new, BitVec.toNat_ofNat] at this
            have hlt := u16_lt r.payload 2
            simp at this
            omega
          have m := EngineMove.opens s i f (!f) _ (by simp [hb]) (by simpa using hg) hi hz rfl rfl
          rw [← Hand.record_eq] at m
          exact (Run.engine m hE).trans (State.deliver_run hE i f _ _)

theorem State.withGroup_run {go : Group → State → State}
    (hgo : ∀ g, (s.station i).group = some g →
      Run D (.record i f) s (Hand.idle.after i f) (go g s)) :
    Run D (.record i f) s (Hand.idle.after i f) (s.withGroup i r go) := by
  unfold State.withGroup
  split
  · exact State.refuse_run hE i f _ _ s
  · rename_i g hg
    split
    · exact hgo g hg
    · exact State.refuse_run hE i f _ _ s

theorem State.endGroup_record_run : Run D (.record i f) s (.record i f) (s.endGroup i) := by
  have m := EngineMove.ends s i (.record i f) (by simp [Hand.record_eq])
  have hc : (Hand.record i f).cleared = .record i f := by rw [Hand.record_eq]; rfl
  rw [hc] at m
  exact .engine m hE

theorem State.tdAbort_run : Run D (.record i f) s (Hand.idle.after i f) (s.tdAbort i r) :=
  State.withGroup_run hE i r f s fun _ _ =>
    (State.endGroup_record_run hE i f s).trans (State.deliver_run hE i f _ _)

end Records

/-! ## Result entries -/

/-- The steps of Table 4.2 that read no cell: what they have found of an entry that passes them. -/
theorem screenEntry_ok {w : Wafer} {q : Fin 4} {p : Plan} {g : Group} {x : Result} {e : Entry}
    (h : screenEntry w q p g x = .ok e) :
    g.hasSite e.site = true ∧ g.holdsSite e.site = false ∧ g.holdsCell e.cell = false ∧
      w.holds e.cell ∧ p.cls e.bin ≠ .unused := by
  unfold screenEntry at h
  split at h
  · cases h
  · split at h
    · cases h
    · rename_i hs
      split at h
      · cases h
      · rename_i hn
        split at h
        · cases h
        · cases h
        · rename_i k hk
          split at h
          · cases h
          · rename_i hc
            split at h
            · cases h
            · split at h
              · cases h
              · rename_i hu
                cases h
                exact ⟨by simpa using hs, by simpa using hn, by simpa using hc, transform_holds hk, hu⟩

theorem Wafer.holds_congr {v w : Wafer} (hc : v.cols = w.cols) (hr : v.rows = w.rows)
    (hs : v.spans = w.spans) (k : Nat) : v.holds k ↔ w.holds k := by
  unfold Wafer.holds
  rw [hc, hr, hs]

/-- The plan that an id names hangs on the Lot Table and the plans alone. -/
theorem State.planOf_congr {s t : State} (hl : t.lots = s.lots) (hp : t.plans = s.plans) (id : LotId) :
    t.planOf id = s.planOf id := by
  unfold State.planOf State.lotOf State.findLot
  rw [hl, hp]

theorem State.readCell_planOf (n : SlotId) (k : Nat) (s : State) (id : LotId) :
    (s.readCell n k).1.planOf id = s.planOf id := by
  obtain ⟨-, hl, hp, -⟩ := State.readCell_frame n k s
  exact State.planOf_congr hl hp id

/-- A slot that holds a record still holds it after a read, with the same outline and lot. -/
theorem State.readCell_slot_some {n m : SlotId} {k : Nat} {s : State} {w : Wafer}
    (h : s.slot m = some w) :
    ∃ d, (s.readCell n k).1.slot m = some { w with acc := { w.acc with damaged := d } } := by
  obtain ⟨d, hd⟩ := State.readCell_slot n m k s
  exact ⟨d w, by rw [hd, h]; rfl⟩

theorem Run.read (hC : Domain.cells ∈ D) {h : Hand} {s : State} {n : SlotId} {k : Nat}
    (hr : Reads h s n k) : Run D h s h (s.readCell n k).1 :=
  .of_move (.cells (.read h s n k hr)) hC

theorem Station.join_binding (e : Entry) (x : Station) : (x.join e).binding = x.binding := rfl

theorem State.checkEntry_run (hE : Domain.engine ∈ D) (hC : Domain.cells ∈ D) (i : StationId) (f o : Bool)
    (b : Binding) (x : Result) {s : State} (hb : (s.station i).binding = some b) :
    Run D (.busy i f o none) s (.busy i f o none) (s.checkEntry i b x).1 ∧
      ((s.checkEntry i b x).1.station i).binding = some b := by
  unfold State.checkEntry
  split
  · rename_i w g hw hg
    split
    · exact ⟨.refl _ _ _, hb⟩
    · rename_i e he
      obtain ⟨hs, hn, hc, hk, hu⟩ := screenEntry_ok he
      have hread : Run D (.busy i f o none) s (.busy i f o none) (s.readCell b.slot e.cell).1 :=
        .read hC (.arrival hw hk)
      have hb' : ((s.readCell b.slot e.cell).1.station i).binding = some b := by
        rw [State.readCell_station]; exact hb
      dsimp only
      split
      · exact ⟨hread, hb'⟩
      · rename_i hd
        split
        · exact ⟨hread, hb'⟩
        · rename_i hl
          obtain ⟨d, hw'⟩ := State.readCell_slot_some (n := b.slot) (k := e.cell) hw
          have hg' : ((s.readCell b.slot e.cell).1.station i).group = some g := by
            rw [State.readCell_station]; exact hg
          rw [← State.readCell_planOf b.slot e.cell s] at hu hl
          rw [← State.readCell_cellRecord] at hd hl
          have m := EngineMove.joins _ i f o b g _ e hb' hg' hw' hs hn hc
            ((Wafer.holds_congr rfl rfl rfl _).2 hk) hu hd hl
          refine ⟨hread.trans (.engine m hE), ?_⟩
          rw [State.station_modStation_self, Station.join_binding]
          exact hb'
  · exact ⟨.refl _ _ _, hb⟩

theorem State.checkEntries_run (hE : Domain.engine ∈ D) (hC : Domain.cells ∈ D) (i : StationId) (f o : Bool)
    (b : Binding) (xs : List Result) {s : State} (hb : (s.station i).binding = some b) :
    Run D (.busy i f o none) s (.busy i f o none) (s.checkEntries i b xs).1 := by
  induction xs generalizing s with
  | nil => exact .refl _ _ _
  | cons x xs ih =>
    obtain ⟨h1, h2⟩ := State.checkEntry_run hE hC i f o b x hb
    exact h1.trans (ih h2)

theorem State.tdResults_run (hE : Domain.engine ∈ D) (hC : Domain.cells ∈ D) (i : StationId) (r : Frame)
    (f : Bool) (s : State) : Run D (.record i f) s (Hand.idle.after i f) (s.tdResults i r) := by
  refine State.withGroup_run hE i r f s fun g hg => ?_
  split
  · exact State.refuse_run hE i f _ _ s
  · rename_i b hb
    refine Run.trans ?_ (State.deliver_run hE i f _ _)
    rw [Hand.record_eq]
    exact State.checkEntries_run hE hC i f (!f) b _ hb

/-! ## A CELL_READ in flight -/

theorem State.readOne_run (hH : Domain.host ∈ D) (hC : Domain.cells ∈ D) (h : Hand) (s : State) :
    Run D h s h s.readOne := by
  unfold State.readOne
  split
  · rename_i tag n row first base count cells hp
    split
    · rename_i hc
      have hp' : (s.readCell n (base + cells.length)).1.inProgress =
          some (.reading tag n row first base count cells) := by
        rw [(State.readCell_frame n _ s).2.2.2]; exact hp
      exact (Run.read hC (.inFlight hp hc rfl)).trans
        (.host (.readOn _ tag n row first base count cells _ hp' hc) hH)
    · exact .refl _ _ _
  · exact .refl _ _ _

theorem State.readAhead_run (hH : Domain.host ∈ D) (hC : Domain.cells ∈ D) (h : Hand) (k : Nat)
    (s : State) : Run D h s h (State.readAhead k s) := by
  induction k generalizing s with
  | zero => exact .refl _ _ _
  | succ k ih => exact (State.readOne_run hH hC h s).trans (ih _)

/-! ## The items of a commit -/

/-- The entry that an item of a commit stands for, if any. -/
def Item.entries : Item → List Entry
  | .entry e => [e]
  | .missing _ => []

/-- A list split by a key that is in a finite range is the list, in another order. -/
theorem perm_flatMap_filter {α : Type} {n : Nat} (key : α → Fin n) [DecidableEq α] (l : List α) :
    ((List.finRange n).flatMap fun i => l.filter fun e => decide (key e = i)).Perm l := by
  rw [List.perm_iff_count]
  intro a
  rw [List.count_flatMap]
  have h : (List.count a ∘ fun i => l.filter fun e => decide (key e = i)) =
      fun i => if key a = i then List.count a l else 0 := by
    funext i
    simp only [Function.comp]
    split
    · rename_i hk
      rw [List.count_filter (by simpa using hk)]
    · rename_i hk
      rw [List.count_eq_zero]
      simp [hk]
  rw [h, ← Fin.sum_univ_def]
  simp

/-- The entries of the group, in the order of the commit. -/
def Group.sorted (g : Group) : List Entry :=
  (List.finRange 16).flatMap fun i => g.entries.filter fun e => decide (e.site = i)

theorem Group.sorted_perm (g : Group) : g.sorted.Perm g.entries := perm_flatMap_filter Entry.site g.entries

/-- The sites of the active set that no entry holds, in ascending order. -/
def Group.missing (g : Group) : List SiteId := (List.finRange 16).filter fun i => g.hasSite i && !g.holdsSite i

theorem Group.items_eq (g : Group) :
    g.items = g.sorted.map Item.entry ++ g.missing.map Item.missing := by
  unfold Group.items Group.sorted Group.missing
  rw [List.map_flatMap]

theorem flatMap_entries_entry (es : List Entry) : (es.map Item.entry).flatMap Item.entries = es := by
  induction es with
  | nil => rfl
  | cons e es ih => simpa [Item.entries] using ih

theorem flatMap_entries_missing (ks : List SiteId) : (ks.map Item.missing).flatMap Item.entries = [] := by
  induction ks with
  | nil => rfl
  | cons k ks ih => simp [Item.entries]

theorem Group.items_entries (g : Group) : g.items.flatMap Item.entries = g.sorted := by
  rw [Group.items_eq, List.flatMap_append, flatMap_entries_entry, flatMap_entries_missing, List.append_nil]

/-- What the items of a commit leave: the station's binding and group, and every slot's plan. -/
structure State.Commits (s t : State) (i : StationId) : Prop where
  binding : (t.station i).binding = (s.station i).binding
  group : (t.station i).group = (s.station i).group
  plan : ∀ n, t.slotPlan n = s.slotPlan n

theorem State.Commits.trans {s t u : State} {i : StationId} (h : s.Commits t i) (h' : t.Commits u i) :
    s.Commits u i :=
  ⟨h'.binding.trans h.binding, h'.group.trans h.group, fun n => (h'.plan n).trans (h.plan n)⟩

theorem State.modAcc_lot (n m : SlotId) (f : Acc → Acc) (s : State) :
    ((s.modAcc n f).slot m).map Wafer.lot = (s.slot m).map Wafer.lot := by
  rw [State.modAcc, State.slot_modWafer]
  split
  · rename_i h
    subst h
    cases s.slot n <;> rfl
  · rfl

theorem State.voidItem_commits (n : SlotId) (i : StationId) (k : SiteId) (s : State) :
    s.Commits (s.voidItem n i k) i where
  binding := by rw [State.voidItem, State.station_modStation_self]; rfl
  group := by rw [State.voidItem, State.station_modStation_self]; rfl
  plan m := State.slotPlan_congr (State.modAcc_lot n m _ s) rfl rfl

theorem State.applyItem_commits (n : SlotId) (i : StationId) (p : Plan) (e : Entry) (c : CellRecord)
    (g : Acc → Acc) (s : State) : s.Commits (s.applyItem n i p e c g) i where
  binding := by rw [State.applyItem, State.station_modStation_self]; rfl
  group := by rw [State.applyItem, State.station_modStation_self]; rfl
  plan m := State.slotPlan_congr (by
    rw [State.applyItem, State.modStation_slot, State.modAcc_lot, State.modAcc_lot]
    rfl) rfl rfl

theorem State.readCell_commits (n : SlotId) (k : Nat) (i : StationId) (s : State) :
    s.Commits (s.readCell n k).1 i where
  binding := by rw [State.readCell_station]
  group := by rw [State.readCell_station]
  plan m := State.readCell_slotPlan n m k s

theorem State.readAhead_commits (k : Nat) (i : StationId) (s : State) :
    s.Commits (State.readAhead k s) i where
  binding := by rw [State.readAhead_station]
  group := by rw [State.readAhead_station]
  plan m := State.readAhead_slotPlan k s m

section Commit
variable (hA : Domain.accounts ∈ D) (hE : Domain.engine ∈ D) (hC : Domain.cells ∈ D) (i : StationId)
  (f o : Bool) {b : Binding} {g : Group} {s : State} (hb : (s.station i).binding = some b)
  (hg : (s.station i).group = some g)
include hA hb

theorem State.voidItem_run (l : Option (List Entry)) (k : SiteId) :
    Run D (.busy i f o l) s (.busy i f o l) (s.voidItem b.slot i k) :=
  .of_move (.accounts (.voids s i f o l b k hb)) hA

include hE

theorem State.voidEntry_run (e : Entry) (es : List Entry) :
    Run D (.busy i f o (some (e :: es))) s (.busy i f o (some es)) (s.voidItem b.slot i e.site) :=
  (State.voidItem_run hA i f o hb _ e.site).trans (.engine (.passes _ i f o e es) hE)

include hC hg

theorem State.mergeItem_run (e : Entry) (es : List Entry) (hr : (s.slotPlan b.slot).isResult e.bin = true) :
    Run D (.busy i f o (some (e :: es))) s (.busy i f o (some es))
        (s.mergeItem b.slot i (s.slotPlan b.slot) e).1 ∧
      s.Commits (s.mergeItem b.slot i (s.slotPlan b.slot) e).1 i := by
  have hread : Run D (.busy i f o (some (e :: es))) s (.busy i f o (some (e :: es)))
      (s.readCell b.slot e.cell).1 :=
    .read hC (.commit rfl hb rfl hg (List.mem_cons_self ..) rfl)
  have hk := State.readCell_commits b.slot e.cell i s
  have hb' := hk.binding.trans hb
  have hg' := hk.group.trans hg
  have hrec := State.readCell_cellRecord b.slot e.cell s
  unfold State.mergeItem
  dsimp only
  rw [← hk.plan b.slot] at hr ⊢
  split
  · rename_i hc
    exact ⟨hread.trans (.of_move (.accounts (.first _ i f o e es b g hb' hg' hr (hrec.trans hc))) hA),
      hk.trans (State.applyItem_commits _ _ _ _ _ _ _)⟩
  · rename_i hc
    exact ⟨hread.trans (.of_move (.accounts (.retest _ i f o e es b g _ _ _ _ _ hb' hg' hr
      (hrec.trans hc))) hA), hk.trans (State.applyItem_commits _ _ _ _ _ _ _)⟩
  · exact ⟨hread.trans (State.voidEntry_run hA hE i f o hb' e es),
      hk.trans (State.voidItem_commits _ _ _ _)⟩
  · exact ⟨hread.trans (State.voidEntry_run hA hE i f o hb' e es),
      hk.trans (State.voidItem_commits _ _ _ _)⟩

theorem State.commitItem_run (x : Item) (es : List Entry) :
    Run D (.busy i f o (some (x.entries ++ es))) s (.busy i f o (some es))
        (State.commitItem b.slot i (s.slotPlan b.slot) x s).1 ∧
      s.Commits (State.commitItem b.slot i (s.slotPlan b.slot) x s).1 i := by
  unfold State.commitItem
  split
  · exact ⟨State.voidItem_run hA i f o hb _ _, State.voidItem_commits _ _ _ _⟩
  · rename_i e
    split
    · rename_i hr
      exact State.mergeItem_run hA hE hC i f o hb hg e es hr
    · exact ⟨State.voidEntry_run hA hE i f o hb e es, State.voidItem_commits _ _ _ _⟩

theorem State.commitItems_run (hH : Domain.host ∈ D) (xs : List Item) (reads : List Nat) :
    Run D (.busy i f o (some (xs.flatMap Item.entries))) s (.busy i f o (some []))
        (State.commitItems b.slot i (s.slotPlan b.slot) xs reads s).1 ∧
      s.Commits (State.commitItems b.slot i (s.slotPlan b.slot) xs reads s).1 i := by
  induction xs generalizing s reads with
  | nil => exact ⟨.refl _ _ _, rfl, rfl, fun _ => rfl⟩
  | cons x xs ih =>
    have h1 := State.readAhead_run hH hC (.busy i f o (some ((x :: xs).flatMap Item.entries)))
      (reads.headD 0) s
    have k1 := State.readAhead_commits (reads.headD 0) i s
    obtain ⟨h2, k2⟩ := State.commitItem_run hA hE hC i f o (k1.binding.trans hb) (k1.group.trans hg) x
      (xs.flatMap Item.entries)
    rw [k1.plan] at h2 k2
    have k3 := k1.trans k2
    obtain ⟨h4, k4⟩ := ih (k3.binding.trans hb) (k3.group.trans hg) reads.tail
    rw [k3.plan] at h4 k4
    exact ⟨(h1.trans h2).trans h4, k3.trans k4⟩

end Commit

/-! ## The evaluations -/

/-- The work in hand, if any, is for station st, bound to slot n. -/
def Hand.bound (h : Hand) (n : SlotId) (st : StationId) (s : State) : Prop :=
  ∀ i f o l, h = .busy i f o l → i = st ∧ (s.station i).binding.map Binding.slot = some n

theorem Hand.bound.judge {h : Hand} {n : SlotId} {st : StationId} {s : State} (hb : h.bound n st s)
    (w : Watch) (f : Finding) (a : Alarm) : h.bound n st (s.judge w f a) := by
  intro i g o l hh
  rw [State.judge_binding]
  exact hb i g o l hh

theorem State.judge_run (hA : Domain.alarms ∈ D) {h : Hand} {n : SlotId} {st : StationId} {s : State}
    (hb : h.bound n st s) (w : Watch) (f : Finding) (r : Rule) (k : Fin 16) {sl : Option SlotId}
    (hsl : sl = none ∨ sl = some n) (site : Option SiteId) (observed : Nat) :
    Run D h s h (s.judge w f (r.alarm k sl st site observed)) ∧
      h.bound n st (s.judge w f (r.alarm k sl st site observed)) := by
  refine ⟨.of_move (.alarms (.judges h s w f _ rfl rfl ?_)) hA, hb.judge _ _ _⟩
  intro i g o l hh
  obtain ⟨rfl, hm⟩ := hb i g o l hh
  refine ⟨fun _ => rfl, fun m hsm => ?_⟩
  rcases hsl with rfl | rfl
  · cases hsm
  · rw [hm]; exact hsm

section Evaluation
variable (hA : Domain.alarms ∈ D) {h : Hand} {n : SlotId} {st : StationId} {s : State}
  (hb : h.bound n st s)
include hA hb

theorem State.commitRule_run (k : Fin 16) :
    Run D h s h (State.commitRule n st s k) ∧ h.bound n st (State.commitRule n st s k) := by
  have hprobe : ∀ c, Run D h s h (s.judgeProbe k st c) ∧ h.bound n st (s.judgeProbe k st c) := fun c =>
    Run.foldl (P := h.bound n st) (fun s i hs => State.judge_run hA hs _ _ _ k (.inl rfl) _ _) _ s hb
  have hskew : Run D h s h (s.judgeSkew k n st) ∧ h.bound n st (s.judgeSkew k n st) :=
    Run.foldl (P := h.bound n st) (fun s i hs => State.judge_run hA hs _ _ _ k (.inr rfl) _ _) _ s hb
  have hslot : ∀ c, Run D h s h (s.judgeSlot k n st c) ∧ h.bound n st (s.judgeSlot k n st c) := fun c =>
    State.judge_run hA hb _ _ _ k (.inr rfl) _ _
  unfold State.commitRule
  split
  · split
    · exact hslot _
    · exact hslot _
    · exact hskew
    · exact ⟨.refl _ _ _, hb⟩
    · exact hprobe _
    · exact hprobe _
    · exact ⟨.refl _ _ _, hb⟩
  · exact ⟨.refl _ _ _, hb⟩

theorem State.evalCommit_run : Run D h s h (s.evalCommit n st) ∧ h.bound n st (s.evalCommit n st) :=
  Run.foldl (P := h.bound n st) (fun _ k hs => State.commitRule_run hA hs k) _ s hb

theorem State.evalTimeouts_run : Run D h s h (s.evalTimeouts n st) :=
  (Run.foldl (P := h.bound n st) (fun s k hs => by
    unfold State.timeoutRule
    split
    · exact State.judge_run hA hs _ _ _ k (.inr rfl) _ _
    · exact ⟨.refl _ _ _, hs⟩) _ s hb).1

end Evaluation

theorem State.evalSilence_run (hA : Domain.alarms ∈ D) (s : State) (st : StationId) :
    Run D .idle s .idle (s.evalSilence st) := by
  refine (Run.foldl (P := fun _ => True) (fun s k _ => ⟨?_, trivial⟩) _ s trivial).1
  unfold State.silenceRule
  split
  · exact (State.judge_run hA (n := 0) (fun _ _ _ _ h => by cases h) _ _ _ k (.inl rfl) _ _).1
  · exact .refl _ _ _

/-! ## The commit and the expiry -/

/-- A commit is its items and then the evaluation (R69). -/
theorem State.commit_eq (n : SlotId) (st : StationId) (g : Group) (reads : List Nat) (s : State) :
    s.commit n st g reads =
      ((State.commitItems n st (s.slotPlan n) g.items reads s).1.evalCommit n st,
        (State.commitItems n st (s.slotPlan n) g.items reads s).2) := by
  unfold State.commit
  generalize State.commitItems n st (s.slotPlan n) g.items reads s = x
  rfl

section Work
variable (hA : Domain.accounts ∈ D) (hE : Domain.engine ∈ D) (hC : Domain.cells ∈ D)
  (hH : Domain.host ∈ D) (hM : Domain.alarms ∈ D) (i : StationId) (f o : Bool) {b : Binding} {g : Group}
  {s : State} (hb : (s.station i).binding = some b) (hg : (s.station i).group = some g)
include hA hE hC hH hM hb hg

theorem State.commit_run (reads : List Nat) :
    Run D (.busy i f o none) s (.busy i f o (some [])) (s.commit b.slot i g reads).1 ∧
      (Hand.busy i f o (some [])).bound b.slot i (s.commit b.slot i g reads).1 := by
  have hbegin : Run D (.busy i f o none) s (.busy i f o (some g.sorted)) s :=
    .engine (.begins s i f o g g.sorted hg g.sorted_perm) hE
  obtain ⟨h1, k1⟩ := State.commitItems_run hA hE hC i f o hb hg hH g.items reads
  rw [Group.items_entries] at h1
  have hbound : (Hand.busy i f o (some [])).bound b.slot i
      (State.commitItems b.slot i (s.slotPlan b.slot) g.items reads s).1 := by
    intro j f' o' l hh
    obtain ⟨rfl, -, -, -⟩ := Hand.busy.inj hh
    exact ⟨rfl, by rw [k1.binding, hb]; rfl⟩
  obtain ⟨h2, h3⟩ := State.evalCommit_run hM hbound
  rw [State.commit_eq]
  dsimp only
  exact ⟨(hbegin.trans h1).trans h2, h3⟩

/-- The four steps of an expiry, with the group still in its place. -/
theorem State.expire_run (reads : List Nat) :
    Run D (.busy i f o none) s (.busy i f o none) (s.expire i b g reads) := by
  have h1 : Run D (.busy i f o none) s (.busy i f o none) (s.modAcc b.slot Acc.timeout) :=
    .of_move (.accounts (.timeout s i f o none b hb)) hA
  have hend : ∀ (l : Option (List Entry)) (t : State), (Hand.busy i f o l).bound b.slot i t →
      Run D (.busy i f o l) t (.busy i f o none) ((t.evalTimeouts b.slot i).endGroup i) := fun l t ht =>
    (State.evalTimeouts_run hM ht).trans (.engine (.ends _ i (.busy i f o l) (by simp)) hE)
  unfold State.expire
  dsimp only
  split
  · obtain ⟨h2, h3⟩ := State.commit_run hA hE hC hH hM i f o (s := s.modAcc b.slot Acc.timeout) hb hg reads
    exact (h1.trans h2).trans (hend _ _ h3)
  · refine h1.trans (hend _ _ ?_)
    intro j f' o' l hh
    obtain ⟨rfl, -, -, -⟩ := Hand.busy.inj hh
    exact ⟨rfl, by rw [State.modAcc_station, hb]; rfl⟩

end Work

section Rows
variable (hA : Domain.accounts ∈ D) (hE : Domain.engine ∈ D) (hC : Domain.cells ∈ D)
  (hH : Domain.host ∈ D) (hM : Domain.alarms ∈ D) (hL : Domain.link ∈ D)
include hA hE hC hH hM

theorem State.tdClose_run (reads : List Nat) (i : StationId) (r : Frame) (f : Bool) (s : State) :
    Run D (.record i f) s (Hand.idle.after i f) (s.tdClose reads i r) := by
  refine State.withGroup_run hE i r f s fun g hg => ?_
  split
  · exact State.refuse_run hE i f _ _ s
  · rename_i b hb
    have hcommit := (State.commit_run hA hE hC hH hM i f (!f) hb hg reads).1
    generalize s.commit b.slot i g reads = c at hcommit ⊢
    obtain ⟨t, refused⟩ := c
    refine Run.trans ?_ (State.deliver_run hE i f _ _)
    rw [Hand.record_eq]
    exact hcommit.trans (.engine (.ends _ i (.busy i f (!f) (some [])) (by simp)) hE)

include hL

/-- GROUP_EXPIRY's work for the station whose group has expired (R72). -/
theorem State.expiry_run (reads : List Nat) (arriving : List Byte) (i : StationId) (s : State) :
    Run D .idle s .idle
      (s.during i arriving
        (match (s.station i).binding, (s.station i).group with
        | some b, some g => State.expire i b g reads
        | _, _ => State.endGroup i)) := by
  have hlay : ∀ f t, Run D ((Hand.busy i false false none).after i f) t (Hand.idle.after i f) t := by
    intro f t
    cases f with
    | true => exact .refl _ _ _
    | false => exact .engine (.lays t i false) hE
  have hafter : ∀ f, (Hand.busy i false false none).after i f = .busy i f false none := by
    intro f; cases f <;> rfl
  refine Run.trans (.engine (.picks s i) hE) (State.during_run hL hE hH fun f t hk => ?_)
  refine Run.trans ?_ (hlay f _)
  rw [hafter]
  have hend : Run D (.busy i f false none) t (.busy i f false none) (t.endGroup i) :=
    .engine (.ends t i (.busy i f false none) (by simp)) hE
  cases hb : (s.station i).binding with
  | none => exact hend
  | some b =>
    cases hg : (s.station i).group with
    | none => exact hend
    | some g =>
      exact State.expire_run hA hE hC hH hM i f false (hk.binding.trans hb) (hk.group.trans hg) reads

end Rows

/-! ## The restart -/

/-- Every group is discarded, and no group is left. -/
theorem State.discardGroups_run (hE : Domain.engine ∈ D) (s : State) :
    Run D .idle s .idle s.discardGroups ∧ ∀ i : StationId, (s.discardGroups.station i).group = none := by
  have hone : ∀ (s : State) i, Run D .idle s .idle (s.discardGroup i) := by
    intro s i
    unfold State.discardGroup
    split
    · exact .engine (.ends s i .idle (by simp)) hE
    · exact .refl _ _ _
  have hall : ∀ (l : List StationId) (s : State) (i : StationId),
      (i ∈ l ∨ (s.station i).group = none) →
      ((l.foldl (fun s i => s.discardGroup i) s).station i).group = none := by
    intro l
    induction l with
    | nil => simp
    | cons j l ih =>
      intro s i h
      refine ih (s.discardGroup j) i ?_
      rw [State.discardGroup_group]
      by_cases hij : j = i
      · simp [hij]
      · rw [if_neg hij]
        rcases h with h | h
        · rcases List.mem_cons.1 h with h | h
          · exact absurd h.symm hij
          · exact .inl h
        · exact .inr h
  exact ⟨(Run.foldl (P := fun _ => True) (fun s i _ => ⟨hone s i, trivial⟩) _ s trivial).1,
    fun i => hall _ s i (.inl (List.mem_finRange i))⟩

theorem State.restartStations_inProgress (s : State) : s.restartStations.inProgress = s.inProgress := rfl

theorem State.restartStations_group (s : State) (i : StationId) :
    (s.restartStations.station i).group = (s.station i).group := by
  unfold State.restartStations
  rw [State.arm_station]
  simp [State.station, Station.restart]

theorem State.finishSlots_run (hR : Domain.restart ∈ D) {s : State}
    (h : ∀ i : StationId, (s.station i).group = none) : Run D .idle s .idle s.finishSlots :=
  (Run.foldl (P := fun s => ∀ i : StationId, (s.station i).group = none)
    (fun s n hs => ⟨.of_move (.restart (.closes s n hs)) hR,
      fun i => by rw [State.finishClosing_group]; exact hs i⟩) _ s h).1

/-- The steps of a restart up to the Map Export Unit leave the request in progress. -/
theorem State.finishSlots_inProgress (s : State) : s.finishSlots.inProgress = s.inProgress := by
  unfold State.finishSlots
  generalize List.finRange 32 = l
  induction l generalizing s with
  | nil => rfl
  | cons n l ih =>
    rw [List.foldl_cons, ih]
    obtain ⟨_, _, _, _, _, h⟩ := State.finishClosing_ended n s
    rw [h]

theorem State.discardGroups_inProgress (s : State) : s.discardGroups.inProgress = s.inProgress := by
  unfold State.discardGroups
  generalize List.finRange 8 = l
  induction l generalizing s with
  | nil => rfl
  | cons n l ih =>
    rw [List.foldl_cons, ih]
    obtain ⟨_, _, _, _, _, h⟩ := State.discardGroup_ended n s
    rw [h]

/-- The last steps of a restart: the running one stops, and RESTARTED joins the set (R182 steps 4 and 7). -/
theorem State.restartEnds_run (hX : Domain.mex ∈ D) (hH : Domain.host ∈ D) {s : State} {tag : Byte}
    (hp : s.inProgress = some (.restarting tag)) :
    Run D .idle s .idle (State.addCause .restarted { s.haltExport with lastReset := .collation }) ∧
      (State.addCause .restarted { s.haltExport with lastReset := .collation }).inProgress =
        some (.restarting tag) := by
  have h1 : Run D .idle s .idle s.haltExport := .of_move (.mex (.halts _ (by simp [hp]))) hX
  obtain ⟨m, sl, c, hf⟩ := State.haltExport_form s
  refine ⟨(h1.trans (.host (.resetKind _ .collation) hH)).trans (.host (.addCause _ .restarted) hH), ?_⟩
  rw [State.addCause_inProgress, hf]
  exact hp

theorem State.restart_run (hE : Domain.engine ∈ D) (hR : Domain.restart ∈ D) (hX : Domain.mex ∈ D)
    (hH : Domain.host ∈ D) {s : State} {tag : Byte} (hp : s.inProgress = some (.restarting tag)) :
    Run D .idle s .idle s.restart ∧ s.restart.inProgress = some (.restarting tag) := by
  obtain ⟨h1, hg⟩ := State.discardGroups_run hE s
  have h2 : Run D .idle s.discardGroups .idle s.discardGroups.restartStations :=
    .of_move (.restart (.stations _ hg)) hR
  have h3 := State.finishSlots_run (D := D) hR (s := s.discardGroups.restartStations)
    (fun i => by rw [State.restartStations_group]; exact hg i)
  have hp3 : s.discardGroups.restartStations.finishSlots.inProgress = some (.restarting tag) := by
    rw [State.finishSlots_inProgress, State.restartStations_inProgress, State.discardGroups_inProgress, hp]
  obtain ⟨h4, hp4⟩ := State.restartEnds_run hX hH hp3
  exact ⟨((h1.trans h2).trans h3).trans h4, hp4⟩

/-! ## The Map Export Unit's reads -/

theorem State.readRun_slot_some {n : SlotId} {base : Nat} {s : State} {w : Wafer} (h : s.slot n = some w)
    (k : Nat) : ∃ d, (s.readRun n base k).1.slot n = some { w with acc := { w.acc with damaged := d } } := by
  induction k with
  | zero => exact ⟨w.acc.damaged, h⟩
  | succ k ih =>
    obtain ⟨d, hd⟩ := ih
    obtain ⟨d', hd'⟩ := State.readCell_slot_some (n := n) (k := base + k) hd
    exact ⟨d', hd'⟩

theorem State.readRun_frame (n : SlotId) (base k : Nat) (s : State) :
    (s.readRun n base k).1.mex = s.mex ∧ (s.readRun n base k).1.inProgress = s.inProgress := by
  obtain ⟨m, sl, co, cs, r, h⟩ := State.readRun_read n base k s
  rw [h]
  exact ⟨rfl, rfl⟩

/-- The cells of a span are read one after another (R157). -/
theorem State.readRun_run (hC : Domain.cells ∈ D) {s : State} {m : Mex} {w : Wafer} {x : Span}
    (hm : s.mex = some m) (hw : s.slot m.slot = some w) (hx : w.spans[m.position]? = some x) (k : Nat)
    (hk : k ≤ x.cells) :
    Run D .idle s .idle (s.readRun m.slot (x.row * w.cols + x.first) k).1 := by
  induction k with
  | zero => exact .refl _ _ _
  | succ k ih =>
    obtain ⟨d, hd⟩ := State.readRun_slot_some (base := x.row * w.cols + x.first) hw k
    have hm' := (State.readRun_frame m.slot (x.row * w.cols + x.first) k s).1.trans hm
    exact (ih (by omega)).trans (.read hC (.segment hm' rfl hd hx (c := k) (by omega) rfl))

theorem State.buildSegment_run (hC : Domain.cells ∈ D) (hX : Domain.mex ∈ D) {s : State} {m : Mex}
    {w : Wafer} {x : Span} (hm : s.mex = some m) (hw : s.slot m.slot = some w)
    (hx : w.spans[m.position]? = some x) (hb : m.mayBuild = true) (hp : s.exportStops = false) :
    Run D .idle s .idle (s.buildSegment m w x) := by
  obtain ⟨hm', hp'⟩ := State.readRun_frame m.slot (x.row * w.cols + x.first) x.cells s
  have hstops : (s.readRun m.slot (x.row * w.cols + x.first) x.cells).1.exportStops = false := by
    unfold State.exportStops
    rw [hp']
    exact hp
  exact (State.readRun_run hC hm hw hx x.cells (Nat.le_refl _)).trans
    (.of_move (.mex (.offersSegment _ m _ (hm'.trans hm) hb hstops)) hX)

theorem State.buildsFor_some {s : State} {m : Mex} (h : s.buildsFor = some m) :
    s.mex = some m ∧ s.exportStops = false := by
  unfold State.buildsFor at h
  split at h
  · cases h
  · rename_i hs
    exact ⟨h, by simpa using hs⟩

end Sys2Proof.Machine
end

section
/-! PROOF. Every command is a run of moves of the parts of the hardware it works in. -/

namespace Sys2Proof.Machine

/-- The parts of the hardware in which a command works. -/
def domainsOf : Instr → List Domain
  | .hostFrameReceive _ | .identify | .status | .resetCollation | .stationQuery | .planRead | .lotQuery
  | .waferQuery | .yieldQuerySlot | .yieldQueryLot | .ruleRead | .alarmList => [.host]
  | .resetFull => [.host, .reset]
  | .rstAssert | .rstRelease => [.reset]
  | .collationRestart => [.host, .engine, .restart, .mex]
  | .stationSet => [.host, .settings]
  | .stationCtrlRelease | .stationCtrlStart | .stationCtrlStop | .stationCtrlResume =>
    [.host, .control, .link]
  | .classSet => [.host, .classes]
  | .planLoad => [.host, .plans]
  | .ruleSet => [.host, .rules, .link]
  | .lotOpen | .lotClose | .lotRelease => [.host, .lots]
  | .waferOpen => [.host, .opens]
  | .initialisationComplete => [.slots]
  | .waferClose | .waferReopen | .waferRelease => [.host, .slots]
  | .cellRead _ _ | .cellReadComplete _ => [.host, .cells]
  | .alarmAck | .alarmClear => [.host, .alarms]
  | .exportStart | .exportMore | .exportStop | .mapSegmentTaken | .exportEndTaken | .noticeTaken
  | .hostReplyTaken => [.host, .mex]
  | .mapSegmentBuild _ => [.cells, .mex]
  | .exportEndBuild => [.mex]
  | .badFrame _ _ | .stationFrameReceive _ _ _ _ | .linkCheck _ _ | .waferStart _ | .waferEnd _
  | .tdOpen _ | .tdAbort _ => [.host, .link, .engine]
  | .tdResults _ _ => [.host, .link, .engine, .cells]
  | .tdClose _ _ _ | .groupExpiry _ _ _ => [.host, .link, .engine, .cells, .accounts, .alarms]
  | .timerTick => [.tick, .alarms]
  | .stationTransmit _ => [.link]

theorem State.upset_run {D : List Domain} (hC : Domain.cells ∈ D) (h : Hand) (us : List Upset) (s : State) :
    Run D h s h (s.upset us) := .of_move (.cells (.upset h s us)) hC

/-- While RST is asserted nothing comes about; otherwise the row runs (R181). -/
theorem Run.unless_rst {D : List Domain} {s t : State} (h : Run D .idle s .idle t) :
    Run D .idle s .idle (if s.rst then s else t) := by
  split
  · exact .refl _ _ _
  · exact h

theorem finishRead_run {D : List Domain} (hH : Domain.host ∈ D) (s : State) :
    Run D .idle s .idle s.finishRead := by
  unfold State.finishRead
  split
  · rename_i hp
    exact .host (.completes s _ _ hp (by simp)) hH
  · exact .refl _ _ _

theorem Station.boundary_quiet (x : Station) : x.Quiet x.boundary :=
  Station.quiet_of_fields (.inl rfl) (.inl (by simp)) id id

section Rows
variable (s : State)

theorem collationRestart_run :
    ∃ t, exec .collationRestart s = .next t ∧ Run (domainsOf .collationRestart) .idle s .idle t := by
  refine ⟨_, rfl, ?_⟩
  split
  · rename_i tag hp
    split
    · obtain ⟨h1, hp1⟩ := State.restart_run (D := domainsOf .collationRestart) (by decide) (by decide)
        (by decide) (by decide) hp
      exact h1.trans (.host (.completes _ _ _ hp1 (by simp)) (by decide))
    · exact .refl _ _ _
  · exact .refl _ _ _

theorem initialisationComplete_run :
    ∃ t, exec .initialisationComplete s = .next t ∧
      Run (domainsOf .initialisationComplete) .idle s .idle t := by
  refine ⟨_, rfl, ?_⟩
  split
  · rename_i tag n hp
    split
    · exact .refl _ _ _
    · exact .of_move (.slots (.initialised s tag n _ hp)) (by decide)
  · exact .refl _ _ _

theorem cellRead_run (cells : Nat) (us : List Upset) :
    ∃ t, exec (.cellRead cells us) s = .next t ∧ Run (domainsOf (.cellRead cells us)) .idle s .idle t := by
  refine ⟨_, rfl, Run.unless_rst ?_⟩
  refine (State.upset_run (by simp [domainsOf]) .idle us s).trans
    (Run.trans ?_ (State.readAhead_run (by simp [domainsOf]) (by simp [domainsOf]) .idle cells _))
  split
  · exact .refl _ _ _
  · exact State.takeRequest_run (by simp [domainsOf])
      (fun r _ => State.cellRead_run (by simp [domainsOf]) r) _

theorem cellReadComplete_run (us : List Upset) :
    ∃ t, exec (.cellReadComplete us) s = .next t ∧
      Run (domainsOf (.cellReadComplete us)) .idle s .idle t := by
  refine ⟨_, rfl, Run.unless_rst ?_⟩
  exact ((State.upset_run (by simp [domainsOf]) .idle us s).trans
    (State.readAhead_run (by simp [domainsOf]) (by simp [domainsOf]) .idle _ _)).trans
    (finishRead_run (by simp [domainsOf]) _)

theorem exportStop_run :
    ∃ t, exec .exportStop s = .next t ∧ Run (domainsOf .exportStop) .idle s .idle t := by
  refine ⟨_, rfl, ?_⟩
  split
  · refine Run.unless_rst ?_
    exact (Run.host (.line s none) (by decide)).trans (State.stopSent_run (by decide) (by decide) _)
  · exact State.takeRequest_run (by decide)
      (fun r _ => State.exportStop_run (by decide) (by decide) r) s

theorem mapSegmentBuild_run (us : List Upset) :
    ∃ t, exec (.mapSegmentBuild us) s = .next t ∧
      Run (domainsOf (.mapSegmentBuild us)) .idle s .idle t := by
  refine ⟨_, rfl, Run.unless_rst ?_⟩
  refine (State.upset_run (by simp [domainsOf]) .idle us s).trans ?_
  dsimp only
  split
  · exact .refl _ _ _
  · rename_i m hb
    obtain ⟨hm, hp⟩ := State.buildsFor_some hb
    split
    · exact .refl _ _ _
    · rename_i w hw
      split
      · exact .refl _ _ _
      · rename_i x hx
        split
        · rename_i hmay
          exact State.buildSegment_run (by simp [domainsOf]) (by simp [domainsOf]) hm hw hx hmay hp
        · exact .refl _ _ _

theorem exportEndBuild_run :
    ∃ t, exec .exportEndBuild s = .next t ∧ Run (domainsOf .exportEndBuild) .idle s .idle t := by
  refine ⟨_, rfl, Run.unless_rst ?_⟩
  split
  · exact .refl _ _ _
  · rename_i m hb
    obtain ⟨hm, hp⟩ := State.buildsFor_some hb
    split
    · exact .refl _ _ _
    · split
      · rename_i hw
        exact .of_move (.mex (.offersEnd s m _ hm hw.1 hp)) (by decide)
      · exact .refl _ _ _

theorem mapSegmentTaken_run :
    ∃ t, exec .mapSegmentTaken s = .next t ∧ Run (domainsOf .mapSegmentTaken) .idle s .idle t := by
  refine ⟨_, rfl, ?_⟩
  split
  · exact .refl _ _ _
  · rename_i m hm
    split
    · rename_i f ho
      split
      · have h1 := (Run.of_move (D := domainsOf .mapSegmentTaken) (.mex (.segmentTaken s m f hm ho))
          (by decide)).trans (.host (.line _ (some f)) (by decide))
        dsimp only
        split
        · exact h1.trans (.host (.addCause _ .exportWaiting) (by decide))
        · exact h1
      · exact .refl _ _ _
    · exact .refl _ _ _

theorem exportEndTaken_run :
    ∃ t, exec .exportEndTaken s = .next t ∧ Run (domainsOf .exportEndTaken) .idle s .idle t := by
  refine ⟨_, rfl, ?_⟩
  split
  · exact .refl _ _ _
  · rename_i m hm
    split
    · rename_i f ho
      split
      · exact ((Run.host (.line s (some f)) (by decide)).trans
          (.of_move (.mex (.endTaken _ m f hm ho)) (by decide))).trans
          (.host (.addCause _ .exportDone) (by decide))
      · exact .refl _ _ _
    · exact .refl _ _ _

theorem noticeTaken_run :
    ∃ t, exec .noticeTaken s = .next t ∧ Run (domainsOf .noticeTaken) .idle s .idle t := by
  refine ⟨_, rfl, ?_⟩
  split
  · rename_i rest hr
    refine Run.unless_rst ?_
    exact ((Run.host (.sends s .notice rest hr) (by decide)).trans
      (State.stopSent_run (by decide) (by decide) _)).trans (.host (.line _ _) (by decide))
  · exact .refl _ _ _

theorem hostReplyTaken_run :
    ∃ t, exec .hostReplyTaken s = .next t ∧ Run (domainsOf .hostReplyTaken) .idle s .idle t := by
  refine ⟨_, rfl, ?_⟩
  split
  · rename_i b f rest hr
    refine Run.unless_rst ?_
    exact ((Run.host (.sends s (.reply b f) rest hr) (by decide)).trans
      (.host (.line _ (some f)) (by decide))).trans (State.stopSent_run (by decide) (by decide) _)
  · exact .refl _ _ _

theorem tdOpen_run (arriving : List Byte) :
    ∃ t, exec (.tdOpen arriving) s = .next t ∧ Run (domainsOf (.tdOpen arriving)) .idle s .idle t := by
  refine ⟨_, rfl, State.takeRecord_run (by simp [domainsOf]) (by simp [domainsOf])
    (fun i r u hr => State.checked_run (by simp [domainsOf]) (by simp [domainsOf]) (by simp [domainsOf])
      fun hc f t hk => State.tdOpen_run (by simp [domainsOf]) i r f t ?_) s⟩
  cases f with
  | true => exact .inr rfl
  | false => exact .inl ((hk.awake rfl).trans (stateCheck_tdOpen (hr ▸ hc)))

theorem groupExpiry_run (reads : List Nat) (us : List Upset) (arriving : List Byte) :
    ∃ t, exec (.groupExpiry reads us arriving) s = .next t ∧
      Run (domainsOf (.groupExpiry reads us arriving)) .idle s .idle t := by
  refine ⟨_, rfl, Run.unless_rst ?_⟩
  refine (State.upset_run (by simp [domainsOf]) .idle us s).trans ?_
  dsimp only
  split
  · exact .refl _ _ _
  · exact State.expiry_run (by simp [domainsOf]) (by simp [domainsOf]) (by simp [domainsOf])
      (by simp [domainsOf]) (by simp [domainsOf]) (by simp [domainsOf]) reads arriving _ _

theorem timerTick_run :
    ∃ t, exec .timerTick s = .next t ∧ Run (domainsOf .timerTick) .idle s .idle t := by
  refine ⟨_, rfl, Run.unless_rst ?_⟩
  exact (Run.of_move (.tick s) (by decide)).trans
    (Run.foldl (P := fun _ => True)
      (fun s i _ => ⟨State.evalSilence_run (by decide) s i, trivial⟩) _ _ trivial).1

end Rows

/-- A request row, from the run of what it carries out. -/
theorem requestRow_run {c : Instr} {accepts : Frame → Bool} {carry : Frame → State → State} {s : State}
    (he : exec c s = .next (s.takeRequest accepts carry)) (hH : Domain.host ∈ domainsOf c)
    (hc : ∀ r s, s.inProgress = none → s.carriedWaiting < 8 →
      Run (domainsOf c) .idle s .idle (carry r s)) :
    ∃ t, exec c s = .next t ∧ Run (domainsOf c) .idle s .idle t :=
  ⟨_, he, State.takeRequest_run hH hc s⟩

/-- A record row, from the run of what carries the record out. -/
theorem recordRow_run {D : List Domain} {k : Byte} {carry : StationId → Frame → State → State}
    {arriving : List Byte} (hH : Domain.host ∈ D) (hL : Domain.link ∈ D) (hE : Domain.engine ∈ D)
    (hc : ∀ i r f t, Run D (.record i f) t (Hand.idle.after i f) (carry i r t)) (s : State) :
    Run D .idle s .idle (s.takeRecord k fun i r s => s.checked i r arriving (carry i r)) :=
  State.takeRecord_run hE hH (fun i r _ _ => State.checked_run hL hE hH fun _ f t _ => hc i r f t) s

/-- Every command is a run of moves of the parts of the hardware it works in. -/
theorem exec_runs (c : Instr) (s : State) :
    ∃ t, exec c s = .next t ∧ Run (domainsOf c) .idle s .idle t := by
  cases c with
  | hostFrameReceive bytes =>
    exact ⟨_, rfl, Run.unless_rst (State.hostReceive_run (by simp [domainsOf]) _ _ s)⟩
  | identify => exact requestRow_run rfl (by decide) fun r _ => State.ok_run (by decide) r _
  | status => exact requestRow_run rfl (by decide) fun r _ => State.reportStatus_run (by decide) r
  | resetFull =>
    exact requestRow_run rfl (by decide) fun r _ h hw =>
      State.resetFull_run (by decide) r h hw (by decide)
  | resetCollation => exact requestRow_run rfl (by decide) fun r _ => State.resetCollation_run (by decide) r
  | collationRestart => exact collationRestart_run s
  | stationSet =>
    exact requestRow_run rfl (by decide) fun r _ h hw =>
      State.stationSet_run (by decide) r h hw (by decide)
  | stationCtrlRelease =>
    exact requestRow_run rfl (by decide) fun r _ h hw =>
      State.release_run (by decide) r h hw (by decide)
  | stationCtrlStart =>
    exact requestRow_run rfl (by decide) fun r _ h hw =>
      State.start_run (by decide) r h hw (by decide) (by decide)
  | stationCtrlStop =>
    exact requestRow_run rfl (by decide) fun r _ h hw =>
      State.stop_run (by decide) r h hw (by decide)
  | stationCtrlResume =>
    exact requestRow_run rfl (by decide) fun r _ h hw =>
      State.resume_run (by decide) r h hw (by decide)
  | stationQuery => exact requestRow_run rfl (by decide) fun r _ => State.stationQuery_run (by decide) r
  | classSet =>
    exact requestRow_run rfl (by decide) fun r _ h hw =>
      State.classSet_run (by decide) r h hw (by decide)
  | planLoad =>
    exact requestRow_run rfl (by decide) fun r _ h hw =>
      State.planLoad_run (by decide) r h hw (by decide)
  | planRead => exact requestRow_run rfl (by decide) fun r _ => State.planRead_run (by decide) r
  | lotOpen =>
    exact requestRow_run rfl (by decide) fun r _ h hw =>
      State.lotOpen_run (by decide) r h hw (by decide)
  | lotClose =>
    exact requestRow_run rfl (by decide) fun r _ h hw =>
      State.lotClose_run (by decide) r h hw (by decide)
  | lotRelease =>
    exact requestRow_run rfl (by decide) fun r _ h hw =>
      State.lotRelease_run (by decide) r h hw (by decide)
  | lotQuery => exact requestRow_run rfl (by decide) fun r _ => State.lotQuery_run (by decide) r
  | waferOpen =>
    exact requestRow_run rfl (by decide) fun r _ h hw =>
      State.waferOpen_run (by decide) r h hw (by decide)
  | initialisationComplete => exact initialisationComplete_run s
  | waferClose =>
    exact requestRow_run rfl (by decide) fun r _ h hw =>
      State.waferClose_run (by decide) r h hw (by decide)
  | waferReopen =>
    exact requestRow_run rfl (by decide) fun r _ h hw =>
      State.waferReopen_run (by decide) r h hw (by decide)
  | waferRelease =>
    exact requestRow_run rfl (by decide) fun r _ h hw =>
      State.waferRelease_run (by decide) r h hw (by decide)
  | waferQuery => exact requestRow_run rfl (by decide) fun r _ => State.waferQuery_run (by decide) r
  | cellRead cells us => exact cellRead_run s cells us
  | yieldQuerySlot =>
    refine requestRow_run rfl (by decide) fun r _ h hw => ?_
    split
    · exact State.yieldSlot_run (by decide) r h hw
    · exact State.status_run (by decide) r _ h hw
  | yieldQueryLot =>
    refine requestRow_run rfl (by decide) fun r _ h hw => ?_
    split
    · exact State.yieldLot_run (by decide) r h hw
    · exact State.status_run (by decide) r _ h hw
  | ruleSet =>
    exact requestRow_run rfl (by decide) fun r _ h hw =>
      State.ruleSet_run (by decide) r h hw (by decide) (by decide)
  | ruleRead => exact requestRow_run rfl (by decide) fun r _ => State.ruleRead_run (by decide) r
  | alarmList => exact requestRow_run rfl (by decide) fun r _ => State.alarmList_run (by decide) r
  | alarmAck =>
    exact requestRow_run rfl (by decide) fun r _ h hw =>
      State.alarmAck_run (by decide) r h hw (by decide)
  | alarmClear =>
    exact requestRow_run rfl (by decide) fun r _ h hw =>
      State.alarmClear_run (by decide) r h hw (by decide)
  | exportStart => exact requestRow_run rfl (by decide) fun r _ =>
      State.exportStart_run (by decide) (by decide) r
  | exportMore => exact requestRow_run rfl (by decide) fun r _ =>
      State.exportMore_run (by decide) (by decide) r
  | exportStop => exact exportStop_run s
  | mapSegmentBuild us => exact mapSegmentBuild_run s us
  | exportEndBuild => exact exportEndBuild_run s
  | mapSegmentTaken => exact mapSegmentTaken_run s
  | exportEndTaken => exact exportEndTaken_run s
  | noticeTaken => exact noticeTaken_run s
  | hostReplyTaken => exact hostReplyTaken_run s
  | badFrame i bytes | stationFrameReceive i kind tag payload | linkCheck i tag =>
    exact ⟨_, rfl, State.stationBytes_run (by simp [domainsOf]) (by simp [domainsOf]) (by simp [domainsOf])
      i _ s⟩
  | waferStart arriving =>
    exact ⟨_, rfl, recordRow_run (by simp [domainsOf]) (by simp [domainsOf]) (by simp [domainsOf])
      (fun i r f t => State.waferStart_run (by simp [domainsOf]) i r f t) s⟩
  | waferEnd arriving =>
    exact ⟨_, rfl, recordRow_run (by simp [domainsOf]) (by simp [domainsOf]) (by simp [domainsOf])
      (fun i r f t => State.waferEnd_run (by simp [domainsOf]) i r f t) s⟩
  | tdOpen arriving => exact tdOpen_run s arriving
  | tdResults us arriving =>
    refine ⟨_, rfl, Run.unless_rst ((State.upset_run (by simp [domainsOf]) .idle us s).trans ?_)⟩
    exact recordRow_run (by simp [domainsOf]) (by simp [domainsOf]) (by simp [domainsOf])
      (fun i r f t => State.tdResults_run (by simp [domainsOf]) (by simp [domainsOf]) i r f t) _
  | tdClose reads us arriving =>
    refine ⟨_, rfl, Run.unless_rst ((State.upset_run (by simp [domainsOf]) .idle us s).trans ?_)⟩
    exact recordRow_run (by simp [domainsOf]) (by simp [domainsOf]) (by simp [domainsOf])
      (fun i r f t => State.tdClose_run (by simp [domainsOf]) (by simp [domainsOf]) (by simp [domainsOf])
        (by simp [domainsOf]) (by simp [domainsOf]) reads i r f t) _
  | tdAbort arriving =>
    exact ⟨_, rfl, recordRow_run (by simp [domainsOf]) (by simp [domainsOf]) (by simp [domainsOf])
      (fun i r f t => State.tdAbort_run (by simp [domainsOf]) i r f t) s⟩
  | timerTick => exact timerTick_run s
  | groupExpiry reads us arriving => exact groupExpiry_run s reads us arriving
  | stationTransmit i =>
    exact ⟨_, rfl, Run.unless_rst
      (.link (.quiet s i _ (Station.boundary_quiet _)) (by simp [domainsOf]))⟩
  | rstAssert => exact ⟨_, rfl, .of_move (.reset (.resets s true .powerOn)) (by decide)⟩
  | rstRelease =>
    refine ⟨_, rfl, ?_⟩
    split
    · exact .of_move (.reset (.resets s false .powerOn)) (by decide)
    · exact .refl _ _ _
  | cellReadComplete us => exact cellReadComplete_run s us

/-- What every move of the parts in which a command works keeps, the command keeps. -/
theorem exec_keeps {P : Hand → State → Prop} {c : Instr} {s t : State}
    (hP : ∀ d ∈ domainsOf c, ∀ h u h' v, Move d h u h' v → P h u → P h' v) (he : exec c s = .next t)
    (hs : P .idle s) : P .idle t := by
  obtain ⟨t', he', hr⟩ := exec_runs c s
  rw [he, Host.Outcome.next.injEq] at he'
  subst he'
  exact hr.keeps hP hs

/-- What every move keeps, every step keeps, where the queue of commands does not matter. -/
theorem step_keeps {P : Hand → State → Prop}
    (hP : ∀ d h u h' v, Move d h u h' v → P h u → P h' v)
    (hq : ∀ (s : State) (q : List Instr), P .idle s → P .idle { s with pending := q }) {s t : State}
    (he : step s = .next t) (hs : P .idle s) : P .idle t := by
  unfold step at he
  split at he
  · cases he; exact hs
  · exact exec_keeps (fun d _ => hP d) he (hq s _ hs)

end Sys2Proof.Machine
end

section
/-! PROOF. What the moves of each part of the hardware can touch. -/

namespace Sys2Proof.Machine

theorem State.addCause_fields (c : Cause) (s : State) :
    ∃ cs r, s.addCause c = { s with causes := cs, ready := r } := by
  obtain ⟨cs, r, h, -⟩ := State.addCause_form c s
  exact ⟨cs, r, h⟩

section Forms
variable {s t : State}

theorem HostMove.form (m : HostMove s t) : ∃ x q p r l c k g,
    t = { s with hostRx := x, requests := q, inProgress := p, ready := r, hostLine := l, causes := c,
                 lastReset := k, lastGranted := g } := by
  cases m with
  | immediate f =>
    obtain ⟨r, h⟩ := State.immediate_form f s
    exact ⟨_, _, _, r, _, _, _, _, h⟩
  | addCause c =>
    obtain ⟨cs, r, h⟩ := State.addCause_fields c s
    exact ⟨_, _, _, r, _, cs, _, _, h⟩
  | _ => exact ⟨_, _, _, _, _, _, _, _, rfl⟩

theorem LinkMove.form (m : LinkMove s t) : ∃ st tr, t = { s with stations := st, tripped := tr } := by
  cases m <;> exact ⟨_, _, rfl⟩

theorem EngineMove.ended {h h' : Hand} (m : EngineMove h s h' t) : s.Ended t := by
  cases m with
  | ends => exact State.endGroup_ended _ _
  | _ => exact ⟨_, _, _, _, _, rfl⟩

theorem RestartMove.form (m : RestartMove s t) : ∃ st sl l cs r tr,
    t = { s with stations := st, slots := sl, lots := l, causes := cs, ready := r, tripped := tr } := by
  cases m with
  | stations h => exact ⟨_, _, _, _, _, _, rfl⟩
  | closes n h =>
    obtain ⟨st, sl, l, cs, r, e⟩ := State.finishClosing_ended n s
    exact ⟨st, sl, l, cs, r, _, e⟩

theorem AccountMove.form {h h' : Hand} (m : AccountMove h s h' t) : ∃ me sl st,
    t = { s with mem := me, slots := sl, stations := st } := by
  cases m <;> exact ⟨_, _, _, rfl⟩

theorem CellMove.read_of {h : Hand} (m : CellMove h s t) : s.Read t := by
  cases m with
  | upset us =>
    obtain ⟨me, e, -⟩ := State.upset_form us s
    exact ⟨me, _, _, _, _, e⟩
  | read n k hr => exact State.readCell_read n k s

theorem State.acknowledge_form (level : Nat) (s : State) : ∃ es c cs r,
    s.acknowledge level = { s with alarms := es, cal := c, causes := cs, ready := r } := by
  unfold State.acknowledge
  dsimp only
  split
  · exact ⟨_, _, _, _, rfl⟩
  · rename_i k _
    obtain ⟨es, c, cs, r, e⟩ := State.raise_form k
      { s with alarms := s.alarms.map Alarm.acknowledged, cal := clamp 0 8 level }
    exact ⟨es, c, cs, r, e⟩

theorem AlarmMove.evaluated {h : Hand} (m : AlarmMove h s t) : s.Evaluated t := by
  cases m with
  | judges w f a => exact State.judge_form w f a s
  | acknowledges level =>
    obtain ⟨es, c, cs, r, e⟩ := State.acknowledge_form level s
    exact ⟨es, _, c, cs, r, _, _, e⟩
  | clears => exact ⟨_, _, _, _, _, _, _, rfl⟩

theorem SlotMove.form (m : SlotMove s t) : ∃ p st sl l cs r,
    t = { s with inProgress := p, stations := st, slots := sl, lots := l, causes := cs, ready := r } := by
  cases m with
  | closes n ho hg =>
    obtain ⟨st, sl, l, cs, r, e⟩ := State.completeClose_ended n false s
    exact ⟨_, st, sl, l, cs, r, e⟩
  | _ => exact ⟨_, _, _, _, _, _, rfl⟩

theorem OpenMove.form (m : OpenMove s t) : ∃ p sl l tr me,
    t = { s with inProgress := p, slots := sl, lots := l, tripped := tr, mem := me } := by
  cases m
  exact ⟨_, _, _, _, _, rfl⟩

theorem State.endExport_form (s : State) : ∃ m sl, s.endExport = { s with mex := m, slots := sl } := by
  unfold State.endExport
  split <;> exact ⟨_, _, rfl⟩

theorem MexMove.form (m : MexMove s t) : ∃ p x sl cs r,
    t = { s with inProgress := p, mex := x, slots := sl, causes := cs, ready := r } := by
  cases m with
  | halts hp =>
    obtain ⟨x, sl, cs, e⟩ := State.haltExport_form s
    exact ⟨_, x, sl, cs, _, e⟩
  | stops tag f h =>
    obtain ⟨x, sl, cs, e⟩ := State.haltExport_form { s with inProgress := none }
    rw [e]
    exact ⟨_, _, _, _, _, rfl⟩
  | endTaken m f hm ho =>
    obtain ⟨x, sl, e⟩ := State.endExport_form s
    exact ⟨_, x, sl, _, _, e⟩
  | _ => exact ⟨_, _, _, _, _, rfl⟩

theorem LotMove.form (m : LotMove s t) : ∃ l, t = { s with lots := l } := by
  cases m <;> exact ⟨_, rfl⟩

end Forms

/-! ## What the moves of each part leave unchanged -/

/-- What the moves of a part of the hardware leave unchanged, field by field. -/
structure Domain.Frame (d : Domain) (s t : State) : Prop where
  pending : t.pending = s.pending
  mem : d ∉ [.accounts, .cells, .opens, .reset] → t.mem = s.mem
  plans : d ∉ [.plans, .reset] → t.plans = s.plans
  classes : d ∉ [.classes, .reset] → t.classes = s.classes
  rules : d ∉ [.rules, .reset] → t.rules = s.rules
  lots : d ∉ [.engine, .restart, .lots, .slots, .opens, .reset] → t.lots = s.lots
  slots : d ∉ [.engine, .restart, .accounts, .cells, .slots, .opens, .mex, .reset] → t.slots = s.slots
  stations : d ∉ [.link, .control, .tick, .engine, .restart, .accounts, .alarms, .settings, .slots, .reset] →
    t.stations = s.stations
  inProgress : d ∉ [.host, .slots, .opens, .mex, .reset] → t.inProgress = s.inProgress
  mex : d ∉ [.mex, .reset] → t.mex = s.mex
  requests : d ∉ [.host, .reset] → t.requests = s.requests
  corrected : d ∉ [.cells, .reset] → t.corrected = s.corrected
  alarms : d ∉ [.alarms, .reset] → t.alarms = s.alarms ∧ t.cal = s.cal
  tripped : d ∉ [.link, .restart, .alarms, .opens, .reset] → t.tripped = s.tripped

/-- The moves of a part leave unchanged what is not theirs. -/
theorem Move.frame {d : Domain} {h h' : Hand} {s t : State} (m : Move d h s h' t) : d.Frame s t := by
  cases m with
  | host _ m => obtain ⟨_, _, _, _, _, _, _, _, rfl⟩ := m.form; constructor <;> simp
  | link _ m => obtain ⟨_, _, rfl⟩ := m.form; constructor <;> simp
  | control i f hc => constructor <;> simp
  | tick => constructor <;> simp
  | engine m => obtain ⟨_, _, _, _, _, rfl⟩ := m.ended; constructor <;> simp
  | restart m => obtain ⟨_, _, _, _, _, _, rfl⟩ := m.form; constructor <;> simp
  | accounts m => obtain ⟨_, _, _, rfl⟩ := m.form; constructor <;> simp
  | cells m => obtain ⟨_, _, _, _, _, rfl⟩ := m.read_of; constructor <;> simp
  | alarms m => obtain ⟨_, _, _, _, _, _, _, rfl⟩ := m.evaluated; constructor <;> simp
  | plans m => cases m; constructor <;> simp
  | classes m => cases m; constructor <;> simp
  | rules m => cases m; constructor <;> simp
  | settings m => cases m; constructor <;> simp
  | lots m => obtain ⟨_, rfl⟩ := m.form; constructor <;> simp
  | slots m => obtain ⟨_, _, _, _, _, _, rfl⟩ := m.form; constructor <;> simp
  | opens m => obtain ⟨_, _, _, _, _, rfl⟩ := m.form; constructor <;> simp
  | mex m => obtain ⟨_, _, _, _, _, rfl⟩ := m.form; constructor <;> simp
  | reset m => cases m; constructor <;> simp

/-! ## The order of the map memory -/

theorem State.readCell_mem_wf (n : SlotId) (k : Nat) (s : State) (h : Mem.wf s.mem) :
    Mem.wf (s.readCell n k).1.mem := by
  unfold State.readCell
  split
  · exact h
  · exact Mem.wf_write h _ _
  · unfold State.damage
    rw [State.addCause_mem]
    exact Mem.wf_write h _ _

/-- Every move keeps the words listed with rising addresses. -/
theorem Move.mem_wf {d : Domain} {h h' : Hand} {s t : State} (m : Move d h s h' t) (hs : Mem.wf s.mem) :
    Mem.wf t.mem := by
  by_cases hd : d ∈ [.accounts, .cells, .opens, .reset]
  case neg => rw [m.frame.mem hd]; exact hs
  cases m with
  | accounts m =>
    cases m with
    | first => exact Mem.wf_write hs _ _
    | retest => exact Mem.wf_write hs _ _
    | _ => exact hs
  | cells m =>
    cases m with
    | upset us =>
      obtain ⟨me, e, hwf, -⟩ := State.upset_form us s
      rw [e]
      exact hwf hs
    | read n k hr => exact State.readCell_mem_wf n k s hs
  | opens m =>
    cases m
    exact Mem.wf_writeRun hs _ _ _
  | reset m =>
    cases m
    exact State.reset_mem_wf
  | _ => simp at hd

/-! ## Every command completes -/

theorem exec_pending {c : Instr} {s t : State} (he : exec c s = .next t) : t.pending = s.pending :=
  exec_keeps (P := fun _ u => u.pending = s.pending) (fun _ _ _ _ _ _ m hu => m.frame.pending.trans hu) he rfl

/-- Settles O2: every command is a run of moves, and no move touches the queue of commands. -/
theorem everyCommandCompletesAndKeepsQueue : Obligations.EveryCommandCompletesAndKeepsQueue := by
  intro c s
  obtain ⟨t, he, -⟩ := exec_runs c s
  exact ⟨t, he, exec_pending he⟩

end Sys2Proof.Machine
end

section
/-! PROOF. The settings stay clamped, and a station's own settings stay but for STATION_SET. -/

namespace Sys2Proof.Machine

/-! ## What moves leave of a station -/

theorem State.station_congr {s t : State} (h : t.stations = s.stations) (i : StationId) :
    t.station i = s.station i := by
  unfold State.station; rw [h]

/-- What the end of a group leaves of every station. -/
theorem State.endGroup_keeps {α : Type} (p : Station → α)
    (hb : ∀ x : Station, p { x with binding := none, silenceEnds := true } = p x)
    (hg : ∀ x : Station, p { x with group := none } = p x) (hs : ∀ x : Station, p x.finishStop = p x)
    (i : StationId) (s : State) (j : StationId) : p ((s.endGroup i).station j) = p (s.station j) := by
  unfold State.endGroup
  dsimp only
  rw [State.modStation_keeps p i _ (hs _) j]
  split
  · exact State.modStation_keeps p i s (hg _) j
  · rw [State.finishClosing_keeps p hb]
    exact State.modStation_keeps p i s (hg _) j

theorem Station.finishStop_form (x : Station) :
    ∃ it e, x.finishStop = { x with intake := it, silenceEnds := e } := by
  unfold Station.finishStop
  split <;> exact ⟨_, _, rfl⟩

/-- The priority code and the timing class of a station (R50). -/
def Station.settings (x : Station) : Nat × Fin 4 := (x.priority, x.timingClass)

theorem EngineMove.station_settings {h h' : Hand} {s t : State} (m : EngineMove h s h' t) (j : StationId) :
    (t.station j).settings = (s.station j).settings := by
  cases m with
  | ends =>
    refine State.endGroup_keeps Station.settings (fun _ => rfl) (fun _ => rfl) (fun x => ?_) _ s j
    obtain ⟨it, e, hx⟩ := Station.finishStop_form x
    rw [hx]
    rfl
  | delivers _ i y | discards _ i y =>
    refine State.modStation_keeps Station.settings i s ?_ j
    unfold Station.deliver
    split <;> rfl
  | faulted _ i hg => exact State.modStation_keeps Station.settings i s rfl j
  | unbinds _ i f o hg => exact State.modStation_keeps Station.settings i s rfl j
  | picks | lays | begins | passes => rfl
  | _ => exact State.modStation_keeps Station.settings _ s rfl j

/-- A station's settings change by STATION_SET and the resets alone (R50). -/
theorem Move.station_settings {d : Domain} {h h' : Hand} {s t : State} (m : Move d h s h' t)
    (hs : d ≠ .settings) (hr : d ≠ .reset) (j : StationId) :
    (t.station j).settings = (s.station j).settings := by
  by_cases hd : d ∈ [.link, .control, .tick, .engine, .restart, .accounts, .alarms, .settings, .slots, .reset]
  case neg => rw [State.station_congr (m.frame.stations hd)]
  cases m with
  | link _ m =>
    cases m with
    | quiet i f hq =>
      exact State.modStation_keeps Station.settings i s (Prod.ext hq.priority hq.timingClass) j
    | arms => rfl
  | control _ i f hc =>
    exact State.modStation_keeps Station.settings i s (Prod.ext hc.priority hc.timingClass) j
  | tick => simp [State.station, Station.settings, Station.tick]
  | engine m => exact m.station_settings j
  | restart m =>
    cases m with
    | stations => simp [State.station, Station.settings, State.restartStations, Station.restart, State.arm]
    | closes n => exact State.finishClosing_keeps Station.settings (fun _ => rfl) n s j
  | accounts m =>
    cases m with
    | timeout => rfl
    | _ => exact State.modStation_keeps Station.settings _ _ rfl j
  | alarms m =>
    cases m with
    | judges w f a =>
      refine State.judge_keeps Station.settings (fun k l x => ?_) w f a s j
      obtain ⟨it, tr, hx⟩ := Station.hold_form k l x
      rw [hx]
      rfl
    | acknowledges level =>
      obtain ⟨_, _, _, _, e⟩ := State.acknowledge_form level s
      rw [e]
      rfl
    | clears => rfl
  | slots m =>
    cases m with
    | closes n => exact State.completeClose_keeps Station.settings (fun _ => rfl) n false s j
    | _ => rfl
  | settings => exact absurd rfl hs
  | reset => exact absurd rfl hr
  | _ => simp at hd

/-! ## A group's timer -/

/-- A group's timer stands where it can be sent in one byte (R62, R64). -/
def Station.TimerFits (x : Station) : Prop := ∀ g ∈ x.group.toList, g.timer ≤ 255

theorem Station.TimerFits.of_group {x y : Station} (h : x.TimerFits) (hg : y.group = x.group) :
    y.TimerFits := by
  unfold Station.TimerFits; rw [hg]; exact h

theorem State.modStation_timerFits {i : StationId} {f : Station → Station} {s : State}
    (h : ∀ j : StationId, (s.station j).TimerFits) (hf : (f (s.station i)).TimerFits) (j : StationId) :
    ((s.modStation i f).station j).TimerFits := by
  rw [State.station_modStation]
  split
  · exact hf
  · exact h j

@[simp] theorem Station.deliver_group (r : StationReply) (x : Station) : (x.deliver r).group = x.group := by
  unfold Station.deliver
  split <;> rfl

theorem EngineMove.timerFits {h h' : Hand} {s t : State} (m : EngineMove h s h' t)
    (hc : ∀ k : Fin 4, s.classes[k].timeout ≤ 255) (hs : ∀ j : StationId, (s.station j).TimerFits)
    (j : StationId) : (t.station j).TimerFits := by
  cases m with
  | picks | lays | begins | passes => exact hs j
  | ends _ i =>
    unfold Station.TimerFits
    rw [State.endGroup_group]
    split
    · simp
    · exact hs j
  | opens _ i f o g hb hg hi ha he ht =>
    refine State.modStation_timerFits hs ?_ j
    intro g' hg'
    obtain rfl : g' = g := by simpa using hg'
    rw [ht]
    exact hc _
  | joins _ i f o b g w e hb hg =>
    refine State.modStation_timerFits hs ?_ j
    intro g' hg'
    rw [Station.join, hg] at hg'
    obtain rfl := by simpa using hg'
    exact hs i g (by simp [hg])
  | delivers _ i y | discards _ i y =>
    exact State.modStation_timerFits hs ((hs i).of_group (Station.deliver_group _ _)) j
  | faulted _ i | unbinds _ i => exact State.modStation_timerFits hs ((hs i).of_group rfl) j
  | takes _ i | faults _ i | binds _ i => exact State.modStation_timerFits hs ((hs i).of_group rfl) j

/-- Every move keeps the timers in range, where the timeouts are. -/
theorem Move.timerFits {d : Domain} {h h' : Hand} {s t : State} (m : Move d h s h' t)
    (hc : ∀ k : Fin 4, s.classes[k].timeout ≤ 255) (hs : ∀ j : StationId, (s.station j).TimerFits)
    (j : StationId) : (t.station j).TimerFits := by
  by_cases hd : d ∈ [.link, .control, .tick, .engine, .restart, .accounts, .alarms, .settings, .slots, .reset]
  case neg => rw [State.station_congr (m.frame.stations hd)]; exact hs j
  cases m with
  | link _ m =>
    cases m with
    | quiet i f hq => exact State.modStation_timerFits hs ((hs i).of_group hq.group) j
    | arms => exact hs j
  | control _ i f hc => exact State.modStation_timerFits hs ((hs i).of_group hc.group) j
  | tick =>
    intro g hg
    simp only [State.station, Station.tick, Fin.getElem_fin, Vector.getElem_ofFn, Option.mem_toList,
      Option.map_eq_some_iff] at hg
    obtain ⟨g', hg', rfl⟩ := hg
    have := hs j g' (by simpa [State.station] using hg')
    dsimp only
    omega
  | engine m => exact m.timerFits hc hs j
  | restart m =>
    cases m with
    | stations =>
      exact (hs j).of_group (by simp [State.station, State.restartStations, Station.restart, State.arm])
    | closes n => exact (hs j).of_group (State.finishClosing_group n s j)
  | accounts m =>
    cases m with
    | timeout => exact hs j
    | _ => exact State.modStation_timerFits hs ((hs _).of_group rfl) j
  | alarms m =>
    cases m with
    | judges w f a => exact (hs j).of_group (State.judge_group w f a s j)
    | acknowledges level =>
      obtain ⟨_, _, _, _, e⟩ := State.acknowledge_form level s
      rw [e]
      exact hs j
    | clears => exact hs j
  | settings m =>
    cases m with
    | sets i => exact State.modStation_timerFits hs ((hs i).of_group rfl) j
  | slots m =>
    cases m with
    | closes n => exact (hs j).of_group (State.completeClose_keeps Station.group (fun _ => rfl) n false s j)
    | _ => exact hs j
  | reset m =>
    cases m
    intro g hg
    simp [State.station, State.reset, Station.reset] at hg
  | _ => simp at hd

/-! ## The settings stay clamped -/

theorem State.reset_settingsLaw : State.reset.SettingsLaw := by
  refine ⟨?_, ?_, ?_, ?_⟩
  · intro k
    simp [State.reset, Plan.reset]
  · intro k
    simp [State.reset, TimingClass.reset]
  · intro k
    simp [State.reset, Rule.reset]
  · intro i g hg
    simp [State.station, State.reset, Station.reset] at hg

/-- A value in a vector after one is set. -/
theorem forall_getElem_set {α : Type} {n : Nat} {p : α → Prop} {v : Vector α n} {k : Fin n} {x : α}
    (hv : ∀ i : Fin n, p v[i]) (hx : p x) (i : Fin n) : p (v.set k x)[i] := by
  rw [Fin.getElem_fin, Vector.getElem_set]
  split
  · exact hx
  · exact hv i

/-- Every move keeps the settings clamped. -/
theorem Move.settingsLaw {d : Domain} {h h' : Hand} {s t : State} (m : Move d h s h' t)
    (hs : s.SettingsLaw) : t.SettingsLaw := by
  obtain ⟨hp, hc, hr, ht⟩ := hs
  have ht' : ∀ j : StationId, (t.station j).TimerFits := m.timerFits (fun k => (hc k).2) ht
  by_cases hd : d ∈ [.plans, .classes, .rules, .reset]
  case neg =>
    simp only [List.mem_cons, List.not_mem_nil, or_false, not_or] at hd
    obtain ⟨h1, h2, h3, h4⟩ := hd
    refine ⟨?_, ?_, ?_, ht'⟩
    · rw [m.frame.plans (by simp [h1, h4])]; exact hp
    · rw [m.frame.classes (by simp [h2, h4])]; exact hc
    · rw [m.frame.rules (by simp [h3, h4])]; exact hr
  cases m with
  | plans m =>
    cases m with
    | loads k p hu hl hk =>
      exact ⟨forall_getElem_set (p := fun x : Plan => 1 ≤ x.limit ∧ x.limit ≤ 15 ∧ ∀ b : Bin, x.bins[b].rank ≤ 63) hp
        ⟨hl.1, hl.2, hk⟩, hc, hr, ht'⟩
  | classes m =>
    cases m with
    | sets k c hk =>
      exact ⟨hp, forall_getElem_set (p := fun x : TimingClass => 1 ≤ x.timeout ∧ x.timeout ≤ 255) hc hk, hr, ht'⟩
  | rules m =>
    cases m with
    | sets k r h1 h2 h3 =>
      exact ⟨hp, hc, forall_getElem_set (p := fun x : Rule => x.threshold ≤ 1000000 ∧ 1 ≤ x.minSample ∧
        x.minSample ≤ 65535 ∧ (x.kind ≠ .binCeiling → x.bin = 0)) hr ⟨h1, h2.1, h2.2, h3⟩, ht'⟩
  | reset m =>
    cases m
    exact State.reset_settingsLaw
  | _ => simp at hd

end Sys2Proof.Machine
end

section
/-! PROOF. The queues, lists and counts stay in their ranges. -/

namespace Sys2Proof.Machine

/-! ## The queues of the host link -/

/-- The queues of the Host Link Controller and the pending-cause set are in their ranges (Table 9.1, R170,
R173, R174). -/
structure State.HostQueues (s : State) : Prop where
  requests : s.requests.length ≤ 4
  immediate : s.immediateWaiting ≤ 8
  carried : s.carriedWaiting + (if s.inProgress.isSome then 1 else 0) ≤ 8
  notice : s.ready.count .notice ≤ 1
  causes : s.causes = Cause.all.filter (fun c => decide (c ∈ s.causes))

/-- They hang on four fields alone. -/
theorem State.HostQueues.congr {s t : State} (h : s.HostQueues) (hq : t.requests = s.requests)
    (hr : t.ready = s.ready) (hp : t.inProgress = s.inProgress) (hc : t.causes = s.causes) :
    t.HostQueues := by
  obtain ⟨h1, h2, h3, h4, h5⟩ := h
  refine ⟨hq ▸ h1, ?_, ?_, hr ▸ h4, ?_⟩
  · simpa only [State.immediateWaiting, hr] using h2
  · simpa only [State.carriedWaiting, hr, hp] using h3
  · rw [hc]; exact h5

/-- A set given by a filter of the causes in priority order is in priority order. -/
theorem Cause.filter_all_eq (p : Cause → Bool) :
    Cause.all.filter p = Cause.all.filter fun c => decide (c ∈ Cause.all.filter p) := by
  refine List.filter_congr fun c _ => ?_
  have hc : c ∈ Cause.all := by cases c <;> simp [Cause.all]
  simp [List.mem_filter, hc]

theorem State.noticeWaits_eq_false {s : State} (h : s.noticeWaits = false) :
    s.ready.count .notice = 0 := by
  simpa [State.noticeWaits, List.count_eq_zero] using h

theorem State.HostQueues.addCause {s : State} (h : s.HostQueues) (c : Cause) : (s.addCause c).HostQueues := by
  obtain ⟨h1, h2, h3, h4, h5⟩ := h
  refine ⟨by simpa using h1, by simpa using h2, by simpa using h3, ?_, ?_⟩
  · unfold State.addCause
    split
    · exact h4
    · dsimp only
      split
      · rename_i hn
        rw [List.count_append, State.noticeWaits_eq_false hn.2]
        simp
      · exact h4
  · unfold State.addCause
    split
    · exact h5
    · dsimp only
      exact Cause.filter_all_eq _

theorem State.HostQueues.dropCause {s : State} (h : s.HostQueues) (c : Cause) :
    (s.dropCause c).HostQueues := by
  obtain ⟨h1, h2, h3, h4, h5⟩ := h
  refine ⟨h1, h2, h3, h4, ?_⟩
  rw [State.causes_dropCause]
  rw [h5, List.filter_filter]
  exact Cause.filter_all_eq _

theorem State.HostQueues.haltExport {s : State} (h : s.HostQueues) : s.haltExport.HostQueues := by
  refine State.HostQueues.dropCause ?_ _
  obtain ⟨m, sl, e⟩ := State.endExport_form s
  rw [e]
  exact h.congr rfl rfl rfl rfl

theorem State.carriedWaiting_makeReady (f : Frame) (s : State) :
    (s.makeReady (.reply false f)).carriedWaiting = s.carriedWaiting + 1 := by
  simp [State.carriedWaiting, State.makeReady, List.countP_append]

/-- A reply that has its place becomes ready. -/
theorem State.HostQueues.reply {s : State} (h : s.HostQueues) (f : Frame) (hp : s.inProgress = none)
    (hw : s.carriedWaiting < 8) : (s.makeReady (.reply false f)).HostQueues := by
  obtain ⟨h1, h2, h3, h4, h5⟩ := h
  refine ⟨h1, ?_, ?_, ?_, h5⟩
  · simpa [State.immediateWaiting, List.countP_append] using h2
  · rw [State.carriedWaiting_makeReady, State.makeReady_inProgress, hp]
    simpa using hw
  · simpa [List.count_append] using h4

/-- The reply to the request in progress has its place, and no request is in progress any more (R171). -/
theorem State.HostQueues.completed {s : State} (h : s.HostQueues) {p : InProgress}
    (hp : s.inProgress = some p) :
    ({ s with inProgress := none } : State).HostQueues ∧
      ({ s with inProgress := none } : State).carriedWaiting < 8 := by
  obtain ⟨h1, h2, h3, h4, h5⟩ := h
  rw [hp] at h3
  simp only [Option.isSome_some, if_true] at h3
  refine ⟨⟨h1, h2, ?_, h4, h5⟩, ?_⟩
  · show s.carriedWaiting + 0 ≤ 8
    omega
  · show s.carriedWaiting < 8
    omega

theorem State.HostQueues.begun {s : State} (h : s.HostQueues) (hw : s.carriedWaiting < 8) (p : InProgress) :
    ({ s with inProgress := some p } : State).HostQueues := by
  obtain ⟨h1, h2, h3, h4, h5⟩ := h
  refine ⟨h1, h2, ?_, h4, h5⟩
  show s.carriedWaiting + 1 ≤ 8
  omega

theorem State.HostQueues.answered {s : State} (h : s.HostQueues) (f : Frame) : (s.immediate f).HostQueues := by
  unfold State.immediate
  split
  · rename_i hi
    obtain ⟨h1, h2, h3, h4, h5⟩ := h
    refine ⟨h1, ?_, ?_, ?_, h5⟩
    · have : (s.makeReady (.reply true f)).immediateWaiting = s.immediateWaiting + 1 := by
        simp [State.immediateWaiting, State.makeReady, List.countP_append]
      omega
    · have : (s.makeReady (.reply true f)).carriedWaiting = s.carriedWaiting := by
        simp [State.carriedWaiting, State.makeReady, List.countP_append]
      rw [this]
      exact h3
    · simpa [List.count_append] using h4
  · exact h

/-- A frame leaves the head of the ready list. -/
theorem State.HostQueues.sent {s : State} (h : s.HostQueues) {f : ReadyFrame} {rest : List ReadyFrame}
    (hr : s.ready = f :: rest) : ({ s with ready := rest } : State).HostQueues := by
  obtain ⟨h1, h2, h3, h4, h5⟩ := h
  have hsub : rest.Sublist s.ready := hr ▸ List.sublist_cons_self f rest
  refine ⟨h1, ?_, ?_, ?_, h5⟩
  · exact le_trans (List.Sublist.countP_le hsub) h2
  · exact le_trans (Nat.add_le_add_right (List.Sublist.countP_le hsub) _) h3
  · exact le_trans (List.Sublist.count_le _ hsub) h4

theorem State.reset_hostQueues : State.reset.HostQueues := by
  constructor <;> decide

theorem HostMove.hostQueues {s t : State} (m : HostMove s t) (h : s.HostQueues) : t.HostQueues := by
  cases m with
  | joins f hf =>
    obtain ⟨h1, h2, h3, h4, h5⟩ := h
    refine ⟨?_, h2, h3, h4, h5⟩
    simp only [List.length_append, List.length_singleton]
    omega
  | takes r rest hr =>
    obtain ⟨h1, h2, h3, h4, h5⟩ := h
    refine ⟨?_, h2, h3, h4, h5⟩
    rw [hr] at h1
    simp only [List.length_cons] at h1 ⊢
    omega
  | immediate f => exact h.answered f
  | replies f hp hw => exact h.reply f hp hw
  | sends f rest hr => exact h.sent hr
  | addCause c => exact h.addCause c
  | dropCause c => exact h.dropCause c
  | restartWaits tag hp hw => exact h.begun hw _
  | readBegins tag n w row first count hp hw => exact h.begun hw _
  | readOn tag n row first base count cells c hp hc =>
    obtain ⟨h1, h2, h3, h4, h5⟩ := h
    rw [hp] at h3
    exact ⟨h1, h2, h3, h4, h5⟩
  | completes p f hp =>
    obtain ⟨h1, h2⟩ := h.completed hp
    exact h1.reply f rfl h2
  | _ => exact h.congr rfl rfl rfl rfl

/-! ### The end of a group, and the close of a wafer -/

section Closes
variable {P : State → Prop} (hst : ∀ s st, P s → P { s with stations := st })
  (hsl : ∀ s sl, P s → P { s with slots := sl }) (hl : ∀ s l, P s → P { s with lots := l })
  (hc : ∀ s c, P s → P (s.addCause c))
include hst hsl hl hc

/-- A property that changes of stations, slots and lots and added causes keep is kept by a close. -/
theorem State.completeClose_of_updates (n : SlotId) (deferred : Bool) {s : State} (h : P s) :
    P (s.completeClose n deferred) := by
  have hrel : ∀ id u, P u → P (u.releaseActive id) := by
    intro id u hu
    unfold State.releaseActive
    split
    · exact hu
    · split
      · exact hu
      · split
        · exact hc _ _ (hl _ _ hu)
        · exact hl _ _ hu
  have hun : ∀ u, P u → P (u.unbindSlot n) := by
    intro u hu
    unfold State.unbindSlot
    split
    · exact hu
    · exact hst _ _ hu
  unfold State.completeClose
  split
  · exact h
  · refine hrel _ _ ?_
    rename_i w _
    have hlot : P (match (s.unbindSlot n).findLot w.lot with
        | none => s.unbindSlot n
        | some e => (s.unbindSlot n).modLot e (Lot.join w.number w.totals)) := by
      split
      · exact hun _ h
      · exact hl _ _ (hun _ h)
    split
    · exact hc _ _ (hsl _ _ hlot)
    · exact hsl _ _ hlot

theorem State.finishClosing_of_updates (n : SlotId) {s : State} (h : P s) : P (s.finishClosing n) := by
  unfold State.finishClosing
  split
  · exact State.completeClose_of_updates hst hsl hl hc n true h
  · exact h

/-- So is it by the end of a group. -/
theorem State.endGroup_of_updates (i : StationId) {s : State} (h : P s) : P (s.endGroup i) := by
  unfold State.endGroup
  dsimp only
  refine hst _ _ ?_
  split
  · exact hst _ _ h
  · exact State.finishClosing_of_updates hst hsl hl hc _ (hst _ _ h)

end Closes

theorem State.HostQueues.readCell {s : State} (h : s.HostQueues) (n : SlotId) (k : Nat) :
    (s.readCell n k).1.HostQueues := by
  unfold State.readCell
  split
  · exact h
  · exact h.congr rfl rfl rfl rfl
  · refine State.HostQueues.addCause ?_ _
    exact h.congr rfl rfl rfl rfl

theorem State.HostQueues.raise {s : State} (h : s.HostQueues) (k : Nat) : (s.raise k).HostQueues := by
  unfold State.raise
  split
  · exact h
  · split
    · refine State.HostQueues.addCause ?_ _
      exact h.congr rfl rfl rfl rfl
    · exact h

theorem State.HostQueues.record {s : State} (h : s.HostQueues) (a : Alarm) : (s.record a).HostQueues := by
  unfold State.record
  dsimp only
  generalize storeAlarm a s.alarms s.overflow = x
  obtain ⟨es, o, k⟩ := x
  have h1 : ({ s with alarms := es, overflow := o } : State).HostQueues := h.congr rfl rfl rfl rfl
  cases k with
  | none =>
    obtain ⟨st, e⟩ := State.act_form a { s with alarms := es, overflow := o }
    dsimp only
    rw [e]
    exact h1.congr rfl rfl rfl rfl
  | some k =>
    obtain ⟨st, e⟩ := State.act_form a (State.raise k { s with alarms := es, overflow := o })
    dsimp only
    rw [e]
    exact (h1.raise k).congr rfl rfl rfl rfl

theorem AlarmMove.hostQueues {g : Hand} {s t : State} (m : AlarmMove g s t) (h : s.HostQueues) :
    t.HostQueues := by
  cases m with
  | judges w f a =>
    unfold State.judge
    split
    · split
      · exact h
      · exact h.congr rfl rfl rfl rfl
    · split
      · refine State.HostQueues.record ?_ a
        exact h.congr rfl rfl rfl rfl
      · exact h
  | acknowledges level =>
    unfold State.acknowledge
    dsimp only
    split
    · exact h.congr rfl rfl rfl rfl
    · refine State.HostQueues.raise ?_ _
      exact h.congr rfl rfl rfl rfl
  | clears => exact h.congr rfl rfl rfl rfl

/-- Every move keeps the queues of the host link in their ranges. -/
theorem Move.hostQueues {d : Domain} {g g' : Hand} {s t : State} (m : Move d g s g' t)
    (h : s.HostQueues) : t.HostQueues := by
  have hst : ∀ (s : State) st, s.HostQueues → ({ s with stations := st } : State).HostQueues :=
    fun _ _ h => h.congr rfl rfl rfl rfl
  have hsl : ∀ (s : State) sl, s.HostQueues → ({ s with slots := sl } : State).HostQueues :=
    fun _ _ h => h.congr rfl rfl rfl rfl
  have hl : ∀ (s : State) l, s.HostQueues → ({ s with lots := l } : State).HostQueues :=
    fun _ _ h => h.congr rfl rfl rfl rfl
  have hc : ∀ (s : State) c, s.HostQueues → (s.addCause c).HostQueues := fun _ c h => h.addCause c
  cases m with
  | host _ m => exact m.hostQueues h
  | engine m =>
    cases m with
    | ends => exact State.endGroup_of_updates hst hsl hl hc _ h
    | picks | lays | begins | passes => exact h
    | _ => exact hst _ _ h
  | restart m =>
    cases m with
    | stations => exact h.congr rfl rfl rfl rfl
    | closes n => exact State.finishClosing_of_updates hst hsl hl hc n h
  | cells m =>
    cases m with
    | upset us =>
      obtain ⟨me, e, -⟩ := State.upset_form us s
      rw [e]
      exact h.congr rfl rfl rfl rfl
    | read n k => exact h.readCell n k
  | alarms m => exact m.hostQueues h
  | slots m =>
    cases m with
    | initialised tag n f hp =>
      obtain ⟨h1, h2⟩ := h.completed hp
      refine State.HostQueues.reply ?_ f rfl h2
      exact h1.congr rfl rfl rfl rfl
    | closes n => exact State.completeClose_of_updates hst hsl hl hc n false h
    | _ => exact h.congr rfl rfl rfl rfl
  | opens m =>
    cases m with
    | takes n e l tag p hp hw =>
      exact State.HostQueues.congr (h.begun hw (.opening tag n)) rfl rfl rfl rfl
  | mex m =>
    cases m with
    | stopWaits m tag hm hp hw => exact State.HostQueues.congr (h.begun hw (.stopping tag)) rfl rfl rfl rfl
    | halts => exact h.haltExport
    | stops tag f hp =>
      obtain ⟨h1, h2⟩ := h.completed hp
      obtain ⟨x, sl, cs, e⟩ := State.haltExport_form { s with inProgress := none }
      refine h1.haltExport.reply f ?_ ?_
      · rw [e]
      · rw [e]; exact h2
    | endTaken m f hm ho =>
      obtain ⟨x, sl, e⟩ := State.endExport_form s
      rw [e]
      exact h.congr rfl rfl rfl rfl
    | _ => exact h.congr rfl rfl rfl rfl
  | reset m =>
    cases m
    exact State.reset_hostQueues.congr rfl rfl rfl rfl
  | link _ m => obtain ⟨_, _, rfl⟩ := m.form; exact h.congr rfl rfl rfl rfl
  | accounts m => obtain ⟨_, _, _, rfl⟩ := m.form; exact h.congr rfl rfl rfl rfl
  | plans m | classes m | rules m | settings m | lots m => cases m <;> exact h.congr rfl rfl rfl rfl
  | control | tick => exact h.congr rfl rfl rfl rfl

end Sys2Proof.Machine
end

section
/-! PROOF. The ranges of the stations and of the alarm list, and O53. -/

namespace Sys2Proof.Machine

/-! ## The stations, with the work in hand -/

/-- Every station's fields are in their ranges; while a REPLY is owed it has its place on the transmit list
(R41); and a station that is faulted in the midst of work is FAULTED. -/
structure State.LinksIn (h : Hand) (s : State) : Prop where
  ranges : ∀ i : StationId, (s.station i).Ranges
  owes : ∀ i f l, h = .busy i f true l → (s.station i).transmit.length ≤ 15
  faulted : ∀ i, h.faults i → (s.station i).intake = .faulted

/-- The intake state and the transmit list hold under an update: FAULTED stays, and a place stays free. -/
structure Station.Calm (x y : Station) : Prop where
  ranges : x.Ranges → y.Ranges
  transmit : x.transmit.length ≤ 15 → y.transmit.length ≤ 15
  faulted : x.intake = .faulted → y.intake = .faulted

theorem Station.Calm.refl (x : Station) : x.Calm x := ⟨id, id, id⟩

theorem Station.Quiet.calm {x y : Station} (h : x.Quiet y) : x.Calm y :=
  ⟨h.ranges, h.transmit, fun hx => h.intake.trans hx⟩

theorem Station.Calm.of_fields {x y : Station} (hi : y.intake = x.intake) (hs : y.staging = x.staging)
    (ht : y.transmit = x.transmit) (hb : y.badFrames = x.badFrames) (hq : y.silence = x.silence)
    (hp : y.priority = x.priority) (hf : y.consecFail = x.consecFail) (hv : y.consecVoid = x.consecVoid) :
    x.Calm y := by
  refine ⟨?_, ?_, ?_⟩
  · intro h
    unfold Station.Ranges
    rw [hs, ht, hb, hq, hp, hf, hv]
    exact h
  · rw [ht]; exact id
  · rw [hi]; exact id

theorem State.LinksIn.of_calm {g : Hand} {s t : State} (h : s.LinksIn g)
    (hc : ∀ j, (s.station j).Calm (t.station j)) : t.LinksIn g :=
  ⟨fun i => (hc i).ranges (h.ranges i), fun i f l e => (hc i).transmit (h.owes i f l e),
    fun i e => (hc i).faulted (h.faulted i e)⟩

theorem State.modStation_calm {i : StationId} {f : Station → Station} {s : State}
    (hf : (s.station i).Calm (f (s.station i))) (j : StationId) :
    (s.station j).Calm ((s.modStation i f).station j) := by
  rw [State.station_modStation]
  split
  · rename_i e; subst e; exact hf
  · exact .refl _

theorem Station.hold_calm (k : Fin 16) (l : Fin 8) (x : Station) : x.Calm (x.hold k l) := by
  unfold Station.hold
  split
  · rename_i hx
    refine ⟨fun h => Station.order_ranges (x := { x with intake := .halted }) h, fun h => ?_, by simp [hx]⟩
    unfold Station.order
    split
    · rename_i ht
      simpa [Station.push] using ht
    · exact h
  · exact .refl x

theorem Station.applied_calm (k : SiteId) (p : Bool) (x : Station) : x.Calm (x.applied k p) := by
  refine ⟨?_, id, id⟩
  rintro ⟨h1, h2, h3, h4, h5, h6, h7⟩
  refine ⟨h1, h2, h3, h4, h5,
    forall_getElem_set (p := fun n => n ≤ 255) h6 ?_, forall_getElem_set (p := fun n => n ≤ 255) h7 (by decide)⟩
  split
  · decide
  · exact bump_le (h6 k)

theorem Station.voided_calm (k : SiteId) (x : Station) : x.Calm (x.voided k) := by
  refine ⟨?_, id, id⟩
  rintro ⟨h1, h2, h3, h4, h5, h6, h7⟩
  exact ⟨h1, h2, h3, h4, h5, h6, forall_getElem_set (p := fun n => n ≤ 255) h7 (bump_le (h7 k))⟩

theorem Station.finishStop_calm (x : Station) : x.Calm x.finishStop := by
  unfold Station.finishStop
  split
  · rename_i hx
    exact ⟨id, id, by simp [hx]⟩
  · exact .refl x

/-- What is calm stays calm through two updates. -/
theorem Station.Calm.trans {x y z : Station} (h : x.Calm y) (h' : y.Calm z) : x.Calm z :=
  ⟨h'.ranges ∘ h.ranges, h'.transmit ∘ h.transmit, h'.faulted ∘ h.faulted⟩

theorem State.act_calm (a : Alarm) (s : State) (j : StationId) :
    (s.station j).Calm ((s.act a).station j) := by
  unfold State.act
  split
  · exact .refl _
  · split
    · exact .refl _
    · exact State.modStation_calm (Station.hold_calm _ _ _) j

theorem State.judge_calm (w : Watch) (f : Finding) (a : Alarm) (s : State) (j : StationId) :
    (s.station j).Calm ((s.judge w f a).station j) := by
  unfold State.judge
  split
  · split <;> exact .refl _
  · split
    · unfold State.record
      dsimp only
      generalize storeAlarm a s.alarms s.overflow = x
      obtain ⟨es, o, k⟩ := x
      cases k with
      | none =>
        exact State.act_calm a { s with tripped := w :: s.tripped, alarms := es, overflow := o } j
      | some k =>
        have h := State.act_calm a
          (State.raise k { s with tripped := w :: s.tripped, alarms := es, overflow := o }) j
        rw [State.raise_station] at h
        exact h
    · exact .refl _

theorem State.unbindSlot_calm (n : SlotId) (s : State) (j : StationId) :
    (s.station j).Calm ((s.unbindSlot n).station j) := by
  unfold State.unbindSlot
  split
  · exact .refl _
  · exact State.modStation_calm (.of_fields rfl rfl rfl rfl rfl rfl rfl rfl) j

theorem State.completeClose_calm (n : SlotId) (d : Bool) (s : State) (j : StationId) :
    (s.station j).Calm ((s.completeClose n d).station j) := by
  rcases State.completeClose_stations n d s with h | h
  · rw [State.station_congr h]
    exact .refl _
  · rw [State.station_congr h]
    exact State.unbindSlot_calm n s j

theorem State.finishClosing_calm (n : SlotId) (s : State) (j : StationId) :
    (s.station j).Calm ((s.finishClosing n).station j) := by
  unfold State.finishClosing
  split
  · exact State.completeClose_calm n true s j
  · exact .refl _

theorem State.endGroup_calm (i : StationId) (s : State) (j : StationId) :
    (s.station j).Calm ((s.endGroup i).station j) := by
  unfold State.endGroup
  dsimp only
  refine Station.Calm.trans ?_ (State.modStation_calm (Station.finishStop_calm _) j)
  have h1 := State.modStation_calm (i := i) (f := fun x => { x with group := none }) (s := s)
    (.of_fields rfl rfl rfl rfl rfl rfl rfl rfl) j
  split
  · exact h1
  · exact h1.trans (State.finishClosing_calm _ _ j)

theorem Station.fault_ranges {x : Station} (h : x.Ranges) : x.fault.Ranges := by
  obtain ⟨-, -, h3, h4, h5, h6, h7⟩ := h
  exact ⟨Nat.zero_le _, Nat.zero_le _, h3, h4, h5, h6, h7⟩

/-- An update of one station that is quiet about the hand. -/
theorem State.LinksIn.modStation {g g' : Hand} {s : State} (h : s.LinksIn g) {i : StationId}
    {f : Station → Station} (hr : (f (s.station i)).Ranges)
    (ho : ∀ j u l, g' = .busy j u true l → j = i ∧ (f (s.station i)).transmit.length ≤ 15)
    (hf : ∀ j, g'.faults j → j = i ∧ (f (s.station i)).intake = .faulted) :
    (s.modStation i f).LinksIn g' := by
  refine ⟨fun j => ?_, fun j u l e => ?_, fun j e => ?_⟩
  · rw [State.station_modStation]
    split
    · exact hr
    · exact h.ranges j
  · obtain ⟨rfl, ht⟩ := ho j u l e
    rw [State.station_modStation_self]
    exact ht
  · obtain ⟨rfl, ht⟩ := hf j e
    rw [State.station_modStation_self]
    exact ht

/-- The hand changes and the station stays. -/
theorem State.LinksIn.regrip {g g' : Hand} {s : State} (h : s.LinksIn g)
    (ho : ∀ j u l, g' = .busy j u true l → ∃ u' l', g = .busy j u' true l')
    (hf : ∀ j, g'.faults j → g.faults j) : s.LinksIn g' :=
  ⟨h.ranges, fun j u l e => by obtain ⟨u', l', e'⟩ := ho j u l e; exact h.owes j u' l' e',
    fun j e => h.faulted j (hf j e)⟩

theorem EngineMove.linksIn {g g' : Hand} {s t : State} (m : EngineMove g s g' t) (h : s.LinksIn g) :
    t.LinksIn g' := by
  cases m with
  | takes _ i r rest hs ht =>
    obtain ⟨h1, h2, h3⟩ := h.ranges i
    refine h.modStation ⟨?_, h2, h3⟩ ?_ (by simp)
    · rw [hs] at h1
      simp only [List.length_cons] at h1
      dsimp only
      omega
    · rintro j u l e
      cases e
      exact ⟨rfl, by dsimp only; omega⟩
  | picks _ i => exact h.regrip (by simp) (by simp)
  | lays _ i o => exact h.regrip (by simp) (by simp)
  | faults _ i _ hh hf =>
    refine h.modStation (Station.fault_ranges (h.ranges i)) (by simp) ?_
    intro j e
    rw [Hand.faults_busy] at e
    exact ⟨e.1.symm, rfl⟩
  | faulted _ i hg => exact h.modStation (h.ranges i) (by simp) (by simp)
  | ends _ i _ hh =>
    refine State.LinksIn.of_calm (s := s) ?_ (State.endGroup_calm i s)
    refine h.regrip ?_ (by simp)
    intro j u l e
    cases g with
    | idle => cases e
    | busy k f o l' => cases e; exact ⟨_, _, rfl⟩
  | delivers _ i y =>
    refine h.modStation ?_ (by simp) (by simp)
    unfold Station.deliver
    split
    · exact h.ranges i
    · obtain ⟨h1, -, h3⟩ := h.ranges i
      have := h.owes i false none rfl
      refine ⟨h1, ?_, h3⟩
      simp only [Station.push, List.length_append, List.length_singleton]
      omega
  | discards _ i y =>
    have hf := h.faulted i (by simp)
    refine h.of_calm (State.modStation_calm ?_)
    unfold Station.deliver
    rw [if_pos hf]
    exact .refl _
  | binds _ i f o n q =>
    exact h.of_calm (State.modStation_calm (.of_fields rfl rfl rfl rfl rfl rfl rfl rfl))
  | unbinds _ i f o hg =>
    exact h.of_calm (State.modStation_calm (.of_fields rfl rfl rfl rfl rfl rfl rfl rfl))
  | opens _ i f o gr =>
    exact h.of_calm (State.modStation_calm (.of_fields rfl rfl rfl rfl rfl rfl rfl rfl))
  | joins _ i =>
    exact h.of_calm (State.modStation_calm (.of_fields rfl rfl rfl rfl rfl rfl rfl rfl))
  | begins _ i f o gr es =>
    refine h.regrip ?_ (by simp)
    rintro j u l e
    cases e
    exact ⟨_, _, rfl⟩
  | passes _ i f o x es =>
    refine h.regrip ?_ (by simp)
    rintro j u l e
    cases e
    exact ⟨_, _, rfl⟩

theorem AccountMove.linksIn {g g' : Hand} {s t : State} (m : AccountMove g s g' t) (h : s.LinksIn g) :
    t.LinksIn g' := by
  cases m with
  | voids _ i f o l b k hb =>
    refine h.of_calm fun j => ?_
    exact State.modStation_calm (s := s.modAcc b.slot _) (Station.voided_calm k _) j
  | timeout _ i f o l b hb => exact h.of_calm fun j => .refl _
  | first _ i f o e es b gr hb hg hr hc =>
    refine State.LinksIn.of_calm (s := s) (h.regrip (fun j u l eq => ?_) (by simp)) fun j => ?_
    · cases eq; exact ⟨_, _, rfl⟩
    · exact State.modStation_calm (s := ((s.writeCell b.slot e.cell _).modAcc b.slot _).modAcc b.slot _)
        (Station.applied_calm e.site _ _) j
  | retest _ i f o e es b gr final first count k st hb hg hr hc =>
    refine State.LinksIn.of_calm (s := s) (h.regrip (fun j u l eq => ?_) (by simp)) fun j => ?_
    · cases eq; exact ⟨_, _, rfl⟩
    · exact State.modStation_calm (s := ((s.writeCell b.slot e.cell _).modAcc b.slot _).modAcc b.slot _)
        (Station.applied_calm e.site _ _) j

theorem Station.tick_ranges {x : Station} (h : x.Ranges) : x.tick.Ranges := by
  obtain ⟨h1, h2, h3, h4, h5, h6⟩ := h
  refine ⟨h1, h2, h3, ?_, h5, h6⟩
  unfold Station.tick
  dsimp only
  split
  · exact bump_le h4
  · exact Nat.zero_le _

theorem Station.restart_ranges {x : Station} (h : x.Ranges) : x.restart.Ranges := by
  obtain ⟨-, h2, -, -, h5, -, -⟩ := h
  refine ⟨Nat.zero_le _, h2, Nat.zero_le _, Nat.zero_le _, h5, ?_, ?_⟩ <;>
  · intro k
    simp [Station.restart]

/-- Every move keeps the ranges of the stations. -/
theorem Move.linksIn {d : Domain} {g g' : Hand} {s t : State} (m : Move d g s g' t) (h : s.LinksIn g) :
    t.LinksIn g' := by
  have hidle : ∀ u : State, (∀ j, (u.station j).Ranges) → u.LinksIn .idle :=
    fun u hu => ⟨hu, by simp, by simp⟩
  cases m with
  | link _ m =>
    cases m with
    | quiet i f hq => exact h.of_calm (State.modStation_calm hq.calm)
    | arms => exact h.of_calm fun j => .refl _
  | control _ i f hc => exact h.modStation (hc.ranges (h.ranges i)) (by simp) (by simp)
  | tick =>
    refine hidle _ fun j => ?_
    have := Station.tick_ranges (h.ranges j)
    simpa [State.station] using this
  | engine m => exact m.linksIn h
  | restart m =>
    refine hidle _ fun j => ?_
    cases m with
    | stations =>
      have := Station.restart_ranges (h.ranges j)
      simpa [State.station, State.restartStations, State.arm] using this
    | closes n => exact (State.finishClosing_calm n s j).ranges (h.ranges j)
  | accounts m => exact m.linksIn h
  | alarms m =>
    refine h.of_calm fun j => ?_
    cases m with
    | judges w f a => exact State.judge_calm w f a s j
    | acknowledges level =>
      obtain ⟨_, _, _, _, e⟩ := State.acknowledge_form level s
      rw [e]
      exact .refl _
    | clears => exact .refl _
  | settings m =>
    cases m with
    | sets i p c hp =>
      obtain ⟨h1, h2, h3, h4, h5, h6⟩ := h.ranges i
      exact h.modStation ⟨h1, h2, h3, h4, hp, h6⟩ (by simp) (by simp)
  | slots m =>
    refine h.of_calm fun j => ?_
    cases m with
    | closes n => exact State.completeClose_calm n false s j
    | _ => exact .refl _
  | reset m =>
    refine hidle _ fun j => ?_
    cases m
    have hj := j.isLt
    simp only [State.station, State.reset, Station.reset, Station.Ranges, Fin.getElem_fin,
      Vector.getElem_ofFn, Vector.getElem_replicate, List.length_nil]
    refine ⟨by omega, by omega, by omega, by omega, by omega, fun _ => by omega, fun _ => by omega⟩
  | host _ m => exact h.of_calm fun j => by rw [State.station_congr ((Move.host g m).frame.stations (by decide))]; exact .refl _
  | cells m => exact h.of_calm fun j => by rw [State.station_congr ((Move.cells m).frame.stations (by decide))]; exact .refl _
  | plans m | classes m | rules m | lots m => cases m <;> exact h.of_calm fun j => .refl _
  | opens m => exact h.of_calm fun j => by rw [State.station_congr ((Move.opens m).frame.stations (by decide))]; exact .refl _
  | mex m => exact h.of_calm fun j => by rw [State.station_congr ((Move.mex m).frame.stations (by decide))]; exact .refl _

/-! ## The alarm list and the corrected-error count -/

/-- CAL, the alarm list and the corrected-error count are in their ranges (R102, R143). -/
structure State.Counters (s : State) : Prop where
  corrected : s.corrected ≤ 65535
  cal : s.cal ≤ 8
  alarms : s.alarms.length ≤ 32

theorem foldl_max_mem (a : Nat) (l : List Nat) : l.foldl max a = a ∨ l.foldl max a ∈ l := by
  induction l generalizing a with
  | nil => exact .inl rfl
  | cons x l ih =>
    rw [List.foldl_cons]
    rcases ih (max a x) with h | h
    · rw [h]
      rcases Nat.le_total a x with hx | hx
      · exact .inr (by simp [Nat.max_eq_right hx])
      · exact .inl (Nat.max_eq_left hx)
    · exact .inr (List.mem_cons_of_mem _ h)

/-- A list with an entry above some level holds one of the least urgent level. -/
theorem any_worstLevel {es : List Alarm} {n : Nat} (h : n < worstLevel es) :
    es.any (fun e => decide (e.level.val = worstLevel es)) = true := by
  unfold worstLevel at h ⊢
  rcases foldl_max_mem 0 (es.map fun e => e.level.val) with h0 | h0
  · omega
  · obtain ⟨e, he, hl⟩ := List.mem_map.1 h0
    exact List.any_eq_true.2 ⟨e, he, by simpa using hl⟩

theorem storeAlarm_length {a : Alarm} {es : List Alarm} {o : Bool} (h : es.length ≤ 32) :
    (storeAlarm a es o).1.length ≤ 32 := by
  have herase : ∀ p : Alarm → Bool, es.any p = true → (es.eraseP p ++ [a]).length ≤ 32 := by
    intro p hp
    obtain ⟨x, hx, hpx⟩ := List.any_eq_true.1 hp
    have hlen := List.length_eraseP_of_mem hx hpx
    have hpos := List.length_pos_of_mem hx
    rw [List.length_append, hlen, List.length_singleton]
    omega
  unfold storeAlarm
  split
  · simpa using h
  · split
    · rename_i hl
      simpa using hl
    · split
      · rename_i hany
        exact herase _ hany
      · split
        · rename_i hlev
          exact herase _ (any_worstLevel hlev)
        · exact h

theorem State.Counters.congr {s t : State} (h : s.Counters) (hc : t.corrected = s.corrected)
    (hl : t.cal = s.cal) (ha : t.alarms = s.alarms) : t.Counters :=
  ⟨hc ▸ h.corrected, hl ▸ h.cal, ha ▸ h.alarms⟩

theorem State.Counters.raise {s : State} (h : s.Counters) (k : Nat) : (s.raise k).Counters := by
  unfold State.raise
  split
  · exact h
  · rename_i e _
    split
    · refine ⟨?_, ?_, ?_⟩
      · rw [State.addCause_corrected]; exact h.corrected
      · rw [State.addCause_cal]
        have := e.level.isLt
        dsimp only
        omega
      · rw [State.addCause_alarms, List.length_set]; exact h.alarms
    · exact h

theorem State.Counters.record {s : State} (h : s.Counters) (a : Alarm) : (s.record a).Counters := by
  unfold State.record
  dsimp only
  have hlen := storeAlarm_length (a := a) (o := s.overflow) h.alarms
  generalize storeAlarm a s.alarms s.overflow = x at hlen ⊢
  obtain ⟨es, o, k⟩ := x
  have h1 : ({ s with alarms := es, overflow := o } : State).Counters := ⟨h.corrected, h.cal, hlen⟩
  cases k with
  | none =>
    obtain ⟨st, e⟩ := State.act_form a { s with alarms := es, overflow := o }
    dsimp only
    rw [e]
    exact h1.congr rfl rfl rfl
  | some k =>
    obtain ⟨st, e⟩ := State.act_form a (State.raise k { s with alarms := es, overflow := o })
    dsimp only
    rw [e]
    exact (h1.raise k).congr rfl rfl rfl

theorem State.readCell_corrected {s : State} (h : s.corrected ≤ 65535) (n : SlotId) (k : Nat) :
    (s.readCell n k).1.corrected ≤ 65535 := by
  unfold State.readCell
  split
  · exact h
  · exact bump_le h
  · unfold State.damage
    rw [State.addCause_corrected]
    exact h

/-- Every move keeps CAL, the alarm list and the corrected-error count in their ranges. -/
theorem Move.counters {d : Domain} {g g' : Hand} {s t : State} (m : Move d g s g' t) (h : s.Counters) :
    t.Counters := by
  by_cases hd : d ∈ [.cells, .alarms, .reset]
  case neg =>
    simp only [List.mem_cons, List.not_mem_nil, or_false, not_or] at hd
    obtain ⟨h1, h2, h3⟩ := hd
    obtain ⟨ha, hc⟩ := m.frame.alarms (by simp [h2, h3])
    exact h.congr (m.frame.corrected (by simp [h1, h3])) hc ha
  cases m with
  | cells m =>
    obtain ⟨ha, hc⟩ := (Move.cells m).frame.alarms (by decide)
    refine ⟨?_, hc ▸ h.cal, ha ▸ h.alarms⟩
    cases m with
    | upset us =>
      obtain ⟨me, e, -⟩ := State.upset_form us s
      rw [e]
      exact h.corrected
    | read n k => exact State.readCell_corrected h.corrected n k
  | alarms m =>
    cases m with
    | judges w f a =>
      unfold State.judge
      split
      · split
        · exact h
        · exact h.congr rfl rfl rfl
      · split
        · refine State.Counters.record ?_ a
          exact h.congr rfl rfl rfl
        · exact h
    | acknowledges level =>
      have h1 : ({ s with alarms := s.alarms.map Alarm.acknowledged, cal := clamp 0 8 level } :
          State).Counters := ⟨h.corrected, clamp_le (low := 0) (high := 8) (by decide), by simpa using h.alarms⟩
      unfold State.acknowledge
      dsimp only
      split
      · exact h1
      · exact h1.raise _
    | clears => exact ⟨h.corrected, h.cal, le_trans (List.length_filter_le _ _) h.alarms⟩
  | reset m =>
    cases m
    have h0 : State.reset.Counters := ⟨by decide, by decide, by decide⟩
    exact h0.congr rfl rfl rfl
  | _ => simp at hd

/-! ## O53 -/

/-- The law of the queues with the work in hand. -/
def State.QueueIn (h : Hand) (s : State) : Prop := s.HostQueues ∧ s.LinksIn h ∧ s.Counters

theorem State.queueIn_idle (s : State) : s.QueueIn .idle ↔ s.QueueLaw := by
  constructor
  · rintro ⟨⟨h1, h2, h3, h4, h5⟩, ⟨h6, -, -⟩, ⟨h7, h8, h9⟩⟩
    exact ⟨h1, h2, h3, h4, h5, h7, h8, h9, h6⟩
  · rintro ⟨h1, h2, h3, h4, h5, h7, h8, h9, h6⟩
    exact ⟨⟨h1, h2, h3, h4, h5⟩, ⟨h6, by simp, by simp⟩, ⟨h7, h8, h9⟩⟩

theorem Move.queueIn {d : Domain} {g g' : Hand} {s t : State} (m : Move d g s g' t) (h : s.QueueIn g) :
    t.QueueIn g' :=
  ⟨m.hostQueues h.1, m.linksIn h.2.1, m.counters h.2.2⟩

/-- Settles O53: every move keeps the order of the map memory, the ranges of the queues, with the REPLY that
the work in hand owes, and the clamped settings. -/
theorem everyStepKeepsOrderAndRanges : Obligations.EveryStepKeepsOrderAndRanges := by
  refine ⟨?_, ?_, ?_⟩
  · intro s t hs he
    exact step_keeps (P := fun _ u => Mem.wf u.mem) (fun _ _ _ _ _ m hu => m.mem_wf hu)
      (fun _ _ hu => hu) he hs
  · intro s t hs he
    rw [← State.queueIn_idle] at hs ⊢
    refine step_keeps (P := fun g u => u.QueueIn g) (fun _ _ _ _ _ m hu => m.queueIn hu) ?_ he hs
    intro u q hu
    rw [State.queueIn_idle] at hu ⊢
    exact hu
  · intro s t hs he
    exact step_keeps (P := fun _ u => u.SettingsLaw) (fun _ _ _ _ _ m hu => m.settingsLaw hu)
      (fun _ _ hu => hu) he hs

end Sys2Proof.Machine
end

section
/-! PROOF. The law of bindings and groups is kept by every move, and O54. -/

namespace Sys2Proof.Machine

/-! ## Slot states, bound stations and closes -/

/-- The state of a slot; none is FREE. -/
def State.slotState (s : State) (n : SlotId) : Option WaferState := (s.slot n).map Wafer.state

theorem State.slotIs_iff_slotState {s : State} {n : SlotId} {x : WaferState} :
    s.slotIs n x = true ↔ s.slotState n = some x := by
  simp [State.slotIs, State.slotState]

/-- The slot to which a station is bound. -/
def Station.bound (x : Station) : Option SlotId := x.binding.map Binding.slot

theorem State.bound_of_boundStation {s : State} {n : SlotId} {i : StationId} (h : s.boundStation n = some i) :
    (s.station i).bound = some n := by
  have := List.find?_some h
  exact of_decide_eq_true this

theorem State.bound_ne_of_boundStation {s : State} {n : SlotId} (h : s.boundStation n = none) (i : StationId) :
    (s.station i).bound ≠ some n := by
  intro hb
  exact List.find?_eq_none.1 h i (List.mem_finRange i) (decide_eq_true hb)

/-- No slot is bound to two stations. -/
def State.Apart (s : State) : Prop :=
  ∀ (i j : StationId) (n : SlotId), (s.station i).bound = some n → (s.station j).bound = some n → i = j

/-- Where no slot is bound twice, its bound station is the one that is bound to it (R54). -/
theorem State.Apart.boundStation {s : State} (h : s.Apart) {n : SlotId} {i : StationId} :
    s.boundStation n = some i ↔ (s.station i).bound = some n := by
  refine ⟨State.bound_of_boundStation, fun hb => ?_⟩
  cases hj : s.boundStation n with
  | none => exact absurd hb (State.bound_ne_of_boundStation hj i)
  | some j => rw [h i j n hb (State.bound_of_boundStation hj)]

theorem State.unbindSlot_station (n : SlotId) (s : State) (j : StationId) :
    (s.unbindSlot n).station j =
      if s.boundStation n = some j then { s.station j with binding := none, silenceEnds := true }
      else s.station j := by
  unfold State.unbindSlot
  cases h : s.boundStation n with
  | none => simp
  | some i =>
    dsimp only
    unfold State.unbind
    rw [State.station_modStation]
    by_cases hij : i = j
    · subst hij; simp
    · simp [hij]

theorem State.releaseActive_slots (id : LotId) (s : State) : (s.releaseActive id).slots = s.slots := by
  unfold State.releaseActive
  split
  · rfl
  · split
    · rfl
    · split
      · rw [State.addCause_slots]; rfl
      · rfl

theorem State.slot_congr {s t : State} (h : t.slots = s.slots) (n : SlotId) : t.slot n = s.slot n := by
  unfold State.slot; rw [h]

theorem State.unbindSlot_slots (n : SlotId) (s : State) : (s.unbindSlot n).slots = s.slots := by
  unfold State.unbindSlot
  split <;> rfl

/-- The record of a slot after its close (R21 steps 3 and 4). -/
def Wafer.closed (w : Wafer) : Wafer := { w with state := .closed, closing := some w.totals }

section Close
variable {s : State} {n : SlotId} {w : Wafer} (hw : s.slot n = some w) (d : Bool)
include hw

theorem State.completeClose_stations_eq : (s.completeClose n d).stations = (s.unbindSlot n).stations := by
  unfold State.completeClose
  rw [hw]
  dsimp only
  rw [State.releaseActive_stations]
  split
  · rw [State.addCause_stations, State.setSlot_stations]
    split <;> rfl
  · rw [State.setSlot_stations]
    split <;> rfl

theorem State.completeClose_slots_eq :
    (s.completeClose n d).slots = s.slots.set n (some w.closed) := by
  have hlot : (match (s.unbindSlot n).findLot w.lot with
      | none => s.unbindSlot n
      | some e => (s.unbindSlot n).modLot e (Lot.join w.number w.totals)).slots = s.slots := by
    split <;> exact State.unbindSlot_slots n s
  unfold State.completeClose
  rw [hw]
  dsimp only
  rw [State.releaseActive_slots]
  split
  · rw [State.addCause_slots]
    exact congrArg (fun v => v.set n (some w.closed)) hlot
  · exact congrArg (fun v => v.set n (some w.closed)) hlot

theorem State.completeClose_slot (m : SlotId) :
    (s.completeClose n d).slot m = if n = m then some w.closed else s.slot m := by
  unfold State.slot
  rw [State.completeClose_slots_eq hw]
  exact State.slot_setSlot s n m _

theorem State.completeClose_station (j : StationId) :
    (s.completeClose n d).station j =
      if s.boundStation n = some j then { s.station j with binding := none, silenceEnds := true }
      else s.station j := by
  rw [State.station_congr (State.completeClose_stations_eq hw d), State.unbindSlot_station]

end Close

theorem State.completeClose_of_none {s : State} {n : SlotId} (h : s.slot n = none) (d : Bool) :
    s.completeClose n d = s := by
  unfold State.completeClose
  rw [h]

theorem State.finishClosing_of_not {s : State} {n : SlotId} (h : s.slotState n ≠ some .closing) :
    s.finishClosing n = s := by
  have hc : ¬ s.slotIs n .closing = true := by rwa [State.slotIs_iff_slotState]
  unfold State.finishClosing
  rw [if_neg hc]

theorem State.finishClosing_of_closing {s : State} {n : SlotId} (h : s.slotState n = some .closing) :
    s.finishClosing n = s.completeClose n true := by
  have hc : s.slotIs n .closing = true := by rwa [State.slotIs_iff_slotState]
  unfold State.finishClosing
  rw [if_pos hc]

/-! ## The law with the work in hand -/

/-- The intake state is one of those in which a station holds a group (R60). -/
def Intake.awake (x : Intake) : Prop := x = .running ∨ x = .stopping ∨ x = .halted

/-- The law of bindings and groups, while work is in hand: the group of a station that has been faulted in the
midst of work stands until the work is done (R48, R74). -/
structure State.BindingIn (h : Hand) (s : State) : Prop where
  bound : ∀ i n, (s.station i).bound = some n →
    s.slotState n = some .opened ∨ s.slotState n = some .closing
  apart : s.Apart
  lawful : ∀ i g, (s.station i).group = some g → g.Lawful
  grouped : ∀ i, (s.station i).group.isSome = true → (s.station i).bound.isSome = true
  awake : ∀ i, (s.station i).group.isSome = true → (s.station i).intake.awake ∨ h.faults i
  closing : ∀ n, s.slotState n = some .closing →
    ∃ i, (s.station i).group.isSome = true ∧ (s.station i).bound = some n
  stopping : ∀ i, (s.station i).intake = .stopping → (s.station i).group.isSome = true
  empty : ∀ i, (s.station i).intake = .held ∨ (s.station i).intake = .faulted → (s.station i).staging = []
  faulted : ∀ i, h.faults i → (s.station i).intake = .faulted

theorem State.bindingIn_idle (s : State) : s.BindingIn .idle ↔ s.BindingLaw := by
  constructor
  · rintro ⟨h1, h2, h3, h4, h5, h6, h7, h8, -⟩
    refine ⟨?_, ?_, ?_, ?_, h7, h8⟩
    · intro i b hb
      rw [State.slotIs_iff_slotState, State.slotIs_iff_slotState]
      exact h1 i b.slot (by simpa [Station.bound] using ⟨b, by simpa using hb, rfl⟩)
    · intro i j hij b hb c hc he
      refine hij (h2 i j b.slot ?_ ?_)
      · simpa [Station.bound] using ⟨b, by simpa using hb, rfl⟩
      · simpa [Station.bound] using ⟨c, by simpa using hc, he.symm⟩
    · intro i g hg
      have hg' : (s.station i).group = some g := by simpa using hg
      have hs : (s.station i).group.isSome = true := by simp [hg']
      refine ⟨by simpa [Station.bound] using h4 i hs, h3 i g hg', ?_⟩
      simpa [Intake.awake] using h5 i hs
    · intro n hn
      exact h6 n (State.slotIs_iff_slotState.1 hn)
  · rintro ⟨h1, h2, h3, h6, h7, h8⟩
    refine ⟨?_, ?_, ?_, ?_, ?_, ?_, h7, h8, by simp⟩
    · intro i n hb
      obtain ⟨b, hb', rfl⟩ := Option.map_eq_some_iff.1 hb
      rw [← State.slotIs_iff_slotState, ← State.slotIs_iff_slotState]
      exact h1 i b (by simpa using hb')
    · intro i j n hi hj
      obtain ⟨b, hb, rfl⟩ := Option.map_eq_some_iff.1 hi
      obtain ⟨c, hc, he⟩ := Option.map_eq_some_iff.1 hj
      by_contra hij
      exact h2 i j hij b (by simpa using hb) c (by simpa using hc) he.symm
    · intro i g hg
      exact (h3 i g (by simpa using hg)).2.1
    · intro i hg
      obtain ⟨g, hg⟩ := Option.isSome_iff_exists.1 hg
      simpa [Station.bound] using (h3 i g (by simpa using hg)).1
    · intro i hg
      obtain ⟨g, hg⟩ := Option.isSome_iff_exists.1 hg
      exact .inl (h3 i g (by simpa using hg)).2.2
    · intro n hn
      exact h6 n (State.slotIs_iff_slotState.2 hn)

/-- The record of a station changes without a word of its binding, while its group and its intake state agree
with the law as before. -/
structure Station.Abides (x y : Station) : Prop where
  bound : y.bound = x.bound
  group : y.group.isSome = x.group.isSome
  lawful : ∀ g, y.group = some g → ∃ g', x.group = some g' ∧ (g'.Lawful → g.Lawful)
  awake : x.group.isSome = true → x.intake.awake → y.intake.awake
  stopping : y.intake = .stopping → (x.intake = .stopping → x.group.isSome = true) → x.group.isSome = true
  empty : y.intake = .held ∨ y.intake = .faulted →
    (x.intake = .held ∨ x.intake = .faulted) ∧ (x.staging = [] → y.staging = [])

/-- Such a change that leaves a FAULTED station FAULTED. -/
structure Station.Keeps (x y : Station) : Prop where
  abides : x.Abides y
  faulted : x.intake = .faulted → y.intake = .faulted

theorem Station.Keeps.of_fields {x y : Station} (hb : y.binding = x.binding) (hg : y.group = x.group)
    (hi : y.intake = x.intake) (hs : y.staging = x.staging) : x.Keeps y := by
  refine ⟨⟨?_, by rw [hg], ?_, ?_, ?_, ?_⟩, ?_⟩
  · unfold Station.bound; rw [hb]
  · rw [hg]; exact fun g h => ⟨g, h, id⟩
  · rw [hi]; exact fun _ h => h
  · rw [hi]; exact fun h h' => h' h
  · rw [hi, hs]; exact fun h => ⟨h, id⟩
  · rw [hi]; exact id

theorem Station.Keeps.refl (x : Station) : x.Keeps x := .of_fields rfl rfl rfl rfl

/-- Updates of stations that keep the law, over slots whose states stay. -/
theorem State.BindingIn.of_abides {g : Hand} {s t : State} (h : s.BindingIn g)
    (hx : ∀ j, (s.station j).Abides (t.station j)) (hn : ∀ n, t.slotState n = s.slotState n)
    (hf : ∀ j, g.faults j → (t.station j).intake = .faulted) : t.BindingIn g := by
  refine ⟨?_, ?_, ?_, ?_, ?_, ?_, ?_, ?_, ?_⟩
  · intro i n
    rw [(hx i).bound, hn]
    exact h.bound i n
  · intro i j n
    rw [(hx i).bound, (hx j).bound]
    exact h.apart i j n
  · intro i g hg
    obtain ⟨g', hg', hl⟩ := (hx i).lawful g hg
    exact hl (h.lawful i g' hg')
  · intro i
    rw [(hx i).bound, (hx i).group]
    exact h.grouped i
  · intro i hg
    rw [(hx i).group] at hg
    exact (h.awake i hg).imp ((hx i).awake hg) id
  · intro n
    rw [hn]
    intro hc
    obtain ⟨i, h1, h2⟩ := h.closing n hc
    exact ⟨i, by rw [(hx i).group]; exact h1, by rw [(hx i).bound]; exact h2⟩
  · intro i hi
    rw [(hx i).group]
    exact (hx i).stopping hi (h.stopping i)
  · intro i hi
    obtain ⟨h1, h2⟩ := (hx i).empty hi
    exact h2 (h.empty i h1)
  · exact hf

theorem State.BindingIn.of_keeps {g : Hand} {s t : State} (h : s.BindingIn g)
    (hx : ∀ j, (s.station j).Keeps (t.station j)) (hn : ∀ n, t.slotState n = s.slotState n) :
    t.BindingIn g :=
  h.of_abides (fun j => (hx j).abides) hn fun j hj => (hx j).faulted (h.faulted j hj)

theorem State.modStation_binding_keeps {i : StationId} {f : Station → Station} {s : State}
    (hf : (s.station i).Keeps (f (s.station i))) (j : StationId) :
    (s.station j).Keeps ((s.modStation i f).station j) := by
  rw [State.station_modStation]
  split
  · rename_i e; subst e; exact hf
  · exact .refl _

/-- The hand changes and the stations stay. -/
theorem State.BindingIn.regrip {g g' : Hand} {s : State} (h : s.BindingIn g)
    (hf : ∀ j, g'.faults j ↔ g.faults j) : s.BindingIn g' := by
  obtain ⟨h1, h2, h3, h4, h5, h6, h7, h8, h9⟩ := h
  exact ⟨h1, h2, h3, h4, fun i hi => (h5 i hi).imp id (hf i).2, h6, h7, h8, fun i hi => h9 i ((hf i).1 hi)⟩

/-- Slots change without a word of those that are OPEN or CLOSING. -/
theorem State.BindingIn.of_slots {g : Hand} {s t : State} (h : s.BindingIn g)
    (hx : t.stations = s.stations)
    (ho : ∀ n, s.slotState n = some .opened ∨ s.slotState n = some .closing →
      t.slotState n = some .opened ∨ t.slotState n = some .closing)
    (hc : ∀ n, t.slotState n = some .closing → s.slotState n = some .closing) : t.BindingIn g := by
  obtain ⟨h1, h2, h3, h4, h5, h6, h7, h8, h9⟩ := h
  have hs := State.station_congr hx
  refine ⟨?_, ?_, ?_, ?_, ?_, ?_, ?_, ?_, ?_⟩
  · intro i n hi
    rw [hs] at hi
    exact ho n (h1 i n hi)
  · intro i j n
    rw [hs, hs]
    exact h2 i j n
  · intro i; rw [hs]; exact h3 i
  · intro i; rw [hs]; exact h4 i
  · intro i; rw [hs]; exact h5 i
  · intro n hn
    obtain ⟨i, hi⟩ := h6 n (hc n hn)
    exact ⟨i, by rw [hs]; exact hi⟩
  · intro i; rw [hs]; exact h7 i
  · intro i; rw [hs]; exact h8 i
  · intro i; rw [hs]; exact h9 i

/-- The binding of a station without a group is dropped. -/
theorem State.BindingIn.unbind {g : Hand} {s : State} (h : s.BindingIn g) {i : StationId}
    (hg : (s.station i).group = none) : (s.unbind i).BindingIn g := by
  obtain ⟨h1, h2, h3, h4, h5, h6, h7, h8, h9⟩ := h
  have hst : ∀ j, (s.unbind i).station j =
      if i = j then { s.station i with binding := none, silenceEnds := true } else s.station j :=
    fun j => State.station_modStation s i j _
  have hgr : ∀ j, ((s.unbind i).station j).group = (s.station j).group := by
    intro j
    rw [hst]
    split
    · rename_i e; subst e; rfl
    · rfl
  have hin : ∀ j, ((s.unbind i).station j).intake = (s.station j).intake := by
    intro j
    rw [hst]
    split
    · rename_i e; subst e; rfl
    · rfl
  have hq : ∀ j, ((s.unbind i).station j).staging = (s.station j).staging := by
    intro j
    rw [hst]
    split
    · rename_i e; subst e; rfl
    · rfl
  have hb : ∀ j n, ((s.unbind i).station j).bound = some n ↔ i ≠ j ∧ (s.station j).bound = some n := by
    intro j n
    rw [hst]
    split
    · rename_i e; subst e; simp [Station.bound]
    · rename_i e; simp [e]
  refine ⟨?_, ?_, ?_, ?_, ?_, ?_, ?_, ?_, ?_⟩
  · intro j n hj
    exact h1 j n ((hb j n).1 hj).2
  · intro j k n hj hk
    exact h2 j k n ((hb j n).1 hj).2 ((hb k n).1 hk).2
  · intro j; rw [hgr]; exact h3 j
  · intro j hj
    rw [hgr] at hj
    obtain ⟨n, hn⟩ := Option.isSome_iff_exists.1 (h4 j hj)
    have hij : i ≠ j := by rintro rfl; rw [hg] at hj; cases hj
    rw [(hb j n).2 ⟨hij, hn⟩]
    rfl
  · intro j; rw [hgr, hin]; exact h5 j
  · intro n hn
    obtain ⟨j, hj, hj'⟩ := h6 n hn
    have hij : i ≠ j := by rintro rfl; rw [hg] at hj; cases hj
    exact ⟨j, by rw [hgr]; exact hj, (hb j n).2 ⟨hij, hj'⟩⟩
  · intro j; rw [hgr, hin]; exact h7 j
  · intro j; rw [hin, hq]; exact h8 j
  · intro j; rw [hin]; exact h9 j

end Sys2Proof.Machine
end

section
/-! PROOF. The end of a group, and O54. -/

namespace Sys2Proof.Machine

/-! ## The end of a group, station by station and slot by slot -/

/-- The end of the station's group completes a close (R73 step 1). -/
def State.endCloses (s : State) (i : StationId) : Bool :=
  (s.station i).binding.any fun b => s.slotIs b.slot .closing

theorem State.endCloses_iff {s : State} {i : StationId} :
    s.endCloses i = true ↔ ∃ n, (s.station i).bound = some n ∧ s.slotState n = some .closing := by
  simp only [State.endCloses, Option.any_eq_true, State.slotIs_iff_slotState, Station.bound,
    Option.map_eq_some_iff]
  constructor
  · rintro ⟨b, h1, h2⟩; exact ⟨b.slot, ⟨b, h1, rfl⟩, h2⟩
  · rintro ⟨n, ⟨b, h1, rfl⟩, h2⟩; exact ⟨b, h1, h2⟩

/-- A station's record after the end of its group (R73, R21 step 1). -/
def Station.ended (closes : Bool) (x : Station) : Station :=
  Station.finishStop
    (if closes then { x with group := none, binding := none, silenceEnds := true }
    else { x with group := none })

theorem State.slotState_congr {s t : State} (h : t.slots = s.slots) (n : SlotId) :
    t.slotState n = s.slotState n := by
  unfold State.slotState; rw [State.slot_congr h]

/-- A change of a group is none of a binding. -/
theorem State.boundStation_congr {s t : State} (h : ∀ j, (t.station j).bound = (s.station j).bound)
    (n : SlotId) : t.boundStation n = s.boundStation n := by
  unfold State.boundStation
  congr 1
  funext j
  have := h j
  unfold Station.bound at this
  rw [this]

section EndGroup
variable {s : State} (i : StationId)

theorem State.dropGroup_bound (j : StationId) :
    ((s.modStation i fun x => { x with group := none }).station j).bound = (s.station j).bound :=
  State.modStation_keeps Station.bound i (f := fun x => { x with group := none }) s rfl j

/-- Without a CLOSING slot the end of a group touches its station alone. -/
theorem State.endGroup_of_not_closes (h : s.endCloses i = false) :
    s.endGroup i = s.modStation i (Station.ended false) := by
  have hmod : ∀ u : State, u = s.modStation i (fun x => { x with group := none }) →
      u.modStation i Station.finishStop = s.modStation i (Station.ended false) := by
    rintro u rfl
    rw [State.modStation_modStation]
    rfl
  unfold State.endGroup
  dsimp only
  cases hb : (s.station i).binding with
  | none => exact hmod _ rfl
  | some b =>
    refine hmod _ (State.finishClosing_of_not ?_)
    intro hc
    have : s.endCloses i = true := State.endCloses_iff.2 ⟨b.slot, by simp [Station.bound, hb], hc⟩
    rw [h] at this
    cases this

/-- With one, it completes the close of the slot over the emptied place. -/
theorem State.endGroup_of_closing {b : Binding} (hb : (s.station i).binding = some b)
    (hc : s.slotState b.slot = some .closing) :
    s.endGroup i = ((s.modStation i fun x => { x with group := none }).completeClose b.slot true).modStation i
      Station.finishStop := by
  unfold State.endGroup
  dsimp only
  rw [hb]
  dsimp only
  rw [State.finishClosing_of_closing (n := b.slot)]
  exact hc

theorem State.endGroup_station (ha : s.Apart) (j : StationId) :
    (s.endGroup i).station j =
      if i = j then (s.station i).ended (s.endCloses i) else s.station j := by
  cases h : s.endCloses i with
  | false => rw [State.endGroup_of_not_closes i h, State.station_modStation]
  | true =>
    obtain ⟨n, hn, hc⟩ := State.endCloses_iff.1 h
    obtain ⟨b, hb, rfl⟩ := Option.map_eq_some_iff.1 hn
    obtain ⟨w, hw, -⟩ := Option.map_eq_some_iff.1 hc
    have hbs : (s.modStation i fun x => { x with group := none }).boundStation b.slot = some i := by
      rw [State.boundStation_congr (State.dropGroup_bound i)]
      exact ha.boundStation.2 hn
    rw [State.endGroup_of_closing i hb hc, State.station_modStation,
      State.completeClose_station (s := s.modStation i _) (by simpa using hw) true,
      State.completeClose_station (s := s.modStation i _) (by simpa using hw) true, hbs, if_pos rfl,
      State.station_modStation_self]
    split
    · simp [Station.ended]
    · rename_i hij
      rw [if_neg (by simpa using hij), State.station_modStation_ne s hij]

theorem State.endGroup_slot (m : SlotId) :
    (s.endGroup i).slot m =
      if s.endCloses i = true ∧ (s.station i).bound = some m then (s.slot m).map Wafer.closed
      else s.slot m := by
  cases h : s.endCloses i with
  | false => rw [State.endGroup_of_not_closes i h]; simp
  | true =>
    obtain ⟨n, hn, hc⟩ := State.endCloses_iff.1 h
    obtain ⟨b, hb, rfl⟩ := Option.map_eq_some_iff.1 hn
    obtain ⟨w, hw, -⟩ := Option.map_eq_some_iff.1 hc
    rw [State.endGroup_of_closing i hb hc, State.modStation_slot,
      State.completeClose_slot (s := s.modStation i _) (by simpa using hw) true, hn]
    by_cases hm : b.slot = m
    · subst hm; simp [hw]
    · simp [hm]

theorem State.endGroup_slotState (m : SlotId) :
    (s.endGroup i).slotState m =
      if s.endCloses i = true ∧ (s.station i).bound = some m then some .closed else s.slotState m := by
  unfold State.slotState
  rw [State.endGroup_slot]
  split
  · rename_i h
    obtain ⟨n, hn, hc⟩ := State.endCloses_iff.1 h.1
    obtain rfl : n = m := by simpa [h.2] using hn.symm
    obtain ⟨w, hw, -⟩ := Option.map_eq_some_iff.1 hc
    rw [hw]
    rfl
  · rfl

end EndGroup

@[simp] theorem Station.ended_group (c : Bool) (x : Station) : (x.ended c).group = none := by
  unfold Station.ended
  rw [Station.finishStop_group]
  split <;> rfl

theorem Station.ended_form (c : Bool) (x : Station) : ∃ it e, x.ended c =
    { x with group := none, binding := if c then none else x.binding, intake := it, silenceEnds := e } := by
  cases c with
  | false =>
    obtain ⟨it, e, h⟩ := Station.finishStop_form { x with group := none }
    exact ⟨it, e, h⟩
  | true =>
    obtain ⟨it, e, h⟩ := Station.finishStop_form { x with group := none, binding := none, silenceEnds := true }
    exact ⟨it, e, h⟩

theorem Station.finishStop_intake (x : Station) :
    x.finishStop.intake = if x.intake = .stopping then .stopped else x.intake := by
  unfold Station.finishStop
  split <;> rfl

theorem Station.ended_intake (c : Bool) (x : Station) :
    (x.ended c).intake = if x.intake = .stopping then .stopped else x.intake := by
  unfold Station.ended
  rw [Station.finishStop_intake]
  cases c <;> rfl

theorem Station.ended_staging (c : Bool) (x : Station) : (x.ended c).staging = x.staging := by
  obtain ⟨it, e, h⟩ := Station.ended_form c x
  rw [h]

theorem Station.ended_bound (c : Bool) (x : Station) : (x.ended c).bound = if c then none else x.bound := by
  obtain ⟨it, e, h⟩ := Station.ended_form c x
  rw [h]
  cases c <;> rfl

/-- The end of a group keeps the law of bindings and groups. -/
theorem State.BindingIn.endGroup {g : Hand} {s : State} (h : s.BindingIn g) (i : StationId) :
    (s.endGroup i).BindingIn g := by
  obtain ⟨h1, h2, h3, h4, h5, h6, h7, h8, h9⟩ := h
  have hst := State.endGroup_station i h2
  have hss := State.endGroup_slotState (s := s) i
  have hb : ∀ j n, ((s.endGroup i).station j).bound = some n →
      (s.station j).bound = some n ∧ ¬ (i = j ∧ s.endCloses i = true) := by
    intro j n hj
    rw [hst] at hj
    split at hj
    · rename_i e
      subst e
      rw [Station.ended_bound] at hj
      cases hc : s.endCloses i <;> simp_all
    · rename_i e
      exact ⟨hj, fun hx => e hx.1⟩
  have hg : ∀ j, ((s.endGroup i).station j).group = if i = j then none else (s.station j).group :=
    fun j => State.endGroup_group i s j
  refine ⟨?_, ?_, ?_, ?_, ?_, ?_, ?_, ?_, ?_⟩
  · intro j n hj
    obtain ⟨hj, hne⟩ := hb j n hj
    rw [hss, if_neg]
    · exact h1 j n hj
    · rintro ⟨hc, hi⟩
      exact hne ⟨h2 i j n hi hj, hc⟩
  · intro j k n hj hk
    exact h2 j k n (hb j n hj).1 (hb k n hk).1
  · intro j gr hj
    rw [hg] at hj
    split at hj
    · cases hj
    · exact h3 j gr hj
  · intro j hj
    rw [hg] at hj
    split at hj
    · cases hj
    · rename_i hij
      rw [hst, if_neg hij]
      exact h4 j hj
  · intro j hj
    rw [hg] at hj
    split at hj
    · cases hj
    · rename_i hij
      rw [hst, if_neg hij]
      exact h5 j hj
  · intro n hn
    rw [hss] at hn
    split at hn
    · cases hn
    · rename_i hne
      obtain ⟨j, hj, hj'⟩ := h6 n hn
      by_cases hij : i = j
      · subst hij
        exact absurd ⟨State.endCloses_iff.2 ⟨n, hj', hn⟩, hj'⟩ hne
      · exact ⟨j, by rw [hg, if_neg hij]; exact hj, by rw [hst, if_neg hij]; exact hj'⟩
  · intro j hj
    rw [hst] at hj
    split at hj
    · rw [Station.ended_intake] at hj
      split at hj
      · cases hj
      · rename_i hne; exact absurd hj hne
    · rename_i hij
      rw [hg, if_neg hij]
      exact h7 j hj
  · intro j hj
    rw [hst] at hj ⊢
    split
    · rename_i hij
      subst hij
      rw [if_pos rfl, Station.ended_intake] at hj
      rw [Station.ended_staging]
      split at hj
      · simp at hj
      · exact h8 i hj
    · rename_i hij
      rw [if_neg hij] at hj
      exact h8 j hj
  · intro j hj
    rw [hst]
    split
    · rename_i hij
      subst hij
      rw [Station.ended_intake, h9 i hj]
      simp
    · exact h9 j hj

/-! ## Closes without a group -/

/-- A close of a slot whose bound station holds no group keeps the law (R20, R21). -/
theorem State.BindingIn.completeClose {g : Hand} {s : State} (h : s.BindingIn g) {n : SlotId}
    (hg : s.slotGroupOpen n = false) (d : Bool) : (s.completeClose n d).BindingIn g := by
  cases hw : s.slot n with
  | none => rw [State.completeClose_of_none hw]; exact h
  | some w =>
    have hss : ∀ m, (s.completeClose n d).slotState m = if n = m then some .closed else s.slotState m := by
      intro m
      unfold State.slotState
      rw [State.completeClose_slot hw]
      split <;> rfl
    have hun : (s.unbindSlot n).BindingIn g := by
      unfold State.unbindSlot
      split
      · exact h
      · rename_i i hi
        refine h.unbind ?_
        simpa [State.slotGroupOpen, hi] using hg
    have hfree : ∀ j, ((s.unbindSlot n).station j).bound ≠ some n := by
      intro j hj
      rw [State.unbindSlot_station] at hj
      split at hj
      · simp [Station.bound] at hj
      · rename_i hne
        exact hne (h.apart.boundStation.2 hj)
    obtain ⟨h1, h2, h3, h4, h5, h6, h7, h8, h9⟩ := hun
    have hs := State.station_congr (s := s.unbindSlot n) (State.completeClose_stations_eq hw d)
    have hsl : ∀ m, (s.unbindSlot n).slotState m = s.slotState m :=
      State.slotState_congr (State.unbindSlot_slots n s)
    refine ⟨?_, ?_, ?_, ?_, ?_, ?_, ?_, ?_, ?_⟩
    · intro i m hi
      rw [hs] at hi
      have hnm : n ≠ m := by rintro rfl; exact hfree i hi
      rw [hss, if_neg hnm, ← hsl]
      exact h1 i m hi
    · intro i j m; rw [hs, hs]; exact h2 i j m
    · intro i; rw [hs]; exact h3 i
    · intro i; rw [hs]; exact h4 i
    · intro i; rw [hs]; exact h5 i
    · intro m hm
      rw [hss] at hm
      split at hm
      · cases hm
      · obtain ⟨i, hi⟩ := h6 m (by rw [hsl]; exact hm)
        exact ⟨i, by rw [hs]; exact hi⟩
    · intro i; rw [hs]; exact h7 i
    · intro i; rw [hs]; exact h8 i
    · intro i; rw [hs]; exact h9 i

/-- Where no group is open, no slot is CLOSING. -/
theorem State.BindingIn.not_closing {g : Hand} {s : State} (h : s.BindingIn g)
    (hg : ∀ i : StationId, (s.station i).group = none) (n : SlotId) : s.slotState n ≠ some .closing := by
  intro hn
  obtain ⟨i, hi, -⟩ := h.closing n hn
  rw [hg i] at hi
  cases hi

end Sys2Proof.Machine
end

section
/-! PROOF. Every move keeps the law of bindings and groups: O54. -/

namespace Sys2Proof.Machine

theorem Station.hold_keeps (k : Fin 16) (l : Fin 8) (x : Station) : x.Keeps (x.hold k l) := by
  unfold Station.hold
  split
  · rename_i hx
    obtain ⟨tr, h⟩ := Station.order_form (.halt k l) { x with intake := .halted }
    rw [h]
    exact ⟨⟨rfl, rfl, fun g hg => ⟨g, hg, id⟩, fun _ _ => .inr (.inr rfl), by simp, by simp⟩, by simp [hx]⟩
  · exact .refl x

theorem State.act_binding_keeps (a : Alarm) (s : State) (j : StationId) :
    (s.station j).Keeps ((s.act a).station j) := by
  unfold State.act
  split
  · exact .refl _
  · split
    · exact .refl _
    · exact State.modStation_binding_keeps (Station.hold_keeps _ _ _) j

theorem State.judge_binding_keeps (w : Watch) (f : Finding) (a : Alarm) (s : State) (j : StationId) :
    (s.station j).Keeps ((s.judge w f a).station j) := by
  unfold State.judge
  split
  · split <;> exact .refl _
  · split
    · unfold State.record
      dsimp only
      generalize storeAlarm a s.alarms s.overflow = x
      obtain ⟨es, o, k⟩ := x
      cases k with
      | none =>
        exact State.act_binding_keeps a { s with tripped := w :: s.tripped, alarms := es, overflow := o } j
      | some k =>
        have h := State.act_binding_keeps a
          (State.raise k { s with tripped := w :: s.tripped, alarms := es, overflow := o }) j
        rw [State.raise_station] at h
        exact h
    · exact .refl _

theorem Station.deliver_keeps (y : StationReply) (x : Station) : x.Keeps (x.deliver y) := by
  unfold Station.deliver
  split
  · exact .refl x
  · exact .of_fields rfl rfl rfl rfl

theorem Station.Quiet.keeps {x y : Station} (h : x.Quiet y) : x.Keeps y := by
  refine ⟨⟨?_, by rw [h.group], ?_, ?_, ?_, ?_⟩, ?_⟩
  · unfold Station.bound; rw [h.binding]
  · rw [h.group]; exact fun g hg => ⟨g, hg, id⟩
  · rw [h.intake]; exact fun _ ha => ha
  · rw [h.intake]; exact fun ha hb => hb ha
  · rw [h.intake]
    refine fun ha => ⟨ha, ?_⟩
    rcases h.staging with hs | ⟨h1, h2⟩
    · rw [hs]; exact id
    · rcases ha with ha | ha
      · exact absurd ha h1
      · exact absurd ha h2
  · rw [h.intake]; exact id

/-- An entry that passes the checks joins its group, which stays lawful (R60, R66). -/
theorem Group.Lawful.join {g : Group} (h : g.Lawful) {e : Entry} (hs : g.hasSite e.site = true)
    (hn : g.holdsSite e.site = false) (hc : g.holdsCell e.cell = false) :
    ({ g with entries := g.entries ++ [e] } : Group).Lawful := by
  obtain ⟨h1, h2, h3, h4⟩ := h
  have hsite : ∀ x ∈ g.entries, x.site ≠ e.site := by
    intro x hx he
    have := List.any_eq_false.1 hn x hx
    simp [he] at this
  have hcell : ∀ x ∈ g.entries, x.cell ≠ e.cell := by
    intro x hx he
    have := List.any_eq_false.1 hc x hx
    simp [he] at this
  refine ⟨h1, ?_, ?_, ?_⟩
  · intro x hx
    rcases List.mem_append.1 hx with hx | hx
    · exact h2 x hx
    · obtain rfl := List.mem_singleton.1 hx
      exact hs
  · rw [List.map_append, List.nodup_append]
    exact ⟨h3, by simp, by simpa using fun x hx => hsite x hx⟩
  · rw [List.map_append, List.nodup_append]
    exact ⟨h4, by simp, by simpa using fun x hx => hcell x hx⟩

theorem Station.join_keeps {x : Station} {g : Group} {e : Entry} (hg : x.group = some g)
    (hl : g.Lawful → ({ g with entries := g.entries ++ [e] } : Group).Lawful) : x.Keeps (x.join e) := by
  have hj : x.join e = { x with group := some { g with entries := g.entries ++ [e] } } := by
    unfold Station.join; rw [hg]; rfl
  rw [hj]
  refine ⟨⟨rfl, by simp [hg], ?_, fun _ ha => ha, fun ha hb => hb ha, fun ha => ⟨ha, id⟩⟩, id⟩
  intro g' hg'
  obtain rfl := Option.some.inj hg'
  exact ⟨g, hg, hl⟩

/-- A station's queue grows shorter. -/
theorem Station.takes_keeps {x : Station} {r : Frame} {rest : List Frame} (hs : x.staging = r :: rest) :
    x.Keeps { x with staging := rest } := by
  refine ⟨⟨rfl, rfl, fun g hg => ⟨g, hg, id⟩, fun _ ha => ha, fun ha hb => hb ha, fun ha => ⟨ha, ?_⟩⟩, id⟩
  intro h
  rw [hs] at h
  cases h

/-- A group is opened at a bound station that is RUNNING, or was when it was faulted (R63, R74). -/
theorem State.BindingIn.opens {h : Hand} {s : State} (hs : s.BindingIn h) {i : StationId} {g : Group}
    (hb : (s.station i).bound.isSome = true) (hi : (s.station i).intake.awake ∨ h.faults i)
    (hg : g.Lawful) : (s.modStation i fun x => { x with group := some g }).BindingIn h := by
  obtain ⟨h1, h2, h3, h4, h5, h6, h7, h8, h9⟩ := hs
  have hst : ∀ j, (s.modStation i fun x => { x with group := some g }).station j =
      if i = j then { s.station i with group := some g } else s.station j :=
    fun j => State.station_modStation s i j _
  have hbd : ∀ j, ((s.modStation i fun x => { x with group := some g }).station j).bound =
      (s.station j).bound := fun j => State.modStation_keeps Station.bound i s rfl j
  have hin : ∀ j, ((s.modStation i fun x => { x with group := some g }).station j).intake =
      (s.station j).intake := fun j => State.modStation_keeps Station.intake i s rfl j
  have hq : ∀ j, ((s.modStation i fun x => { x with group := some g }).station j).staging =
      (s.station j).staging := fun j => State.modStation_keeps Station.staging i s rfl j
  have hgr : ∀ j, (s.station j).group.isSome = true →
      ((s.modStation i fun x => { x with group := some g }).station j).group.isSome = true := by
    intro j hj
    rw [hst]
    split
    · rfl
    · exact hj
  refine ⟨?_, ?_, ?_, ?_, ?_, ?_, ?_, ?_, ?_⟩
  · intro j n; rw [hbd]; exact h1 j n
  · intro j k n; rw [hbd, hbd]; exact h2 j k n
  · intro j g' hg'
    rw [hst] at hg'
    split at hg'
    · obtain rfl := Option.some.inj hg'
      exact hg
    · exact h3 j g' hg'
  · intro j hj
    rw [hbd]
    rw [hst] at hj
    split at hj
    · rename_i e; subst e; exact hb
    · exact h4 j hj
  · intro j hj
    rw [hin]
    rw [hst] at hj
    split at hj
    · rename_i e; subst e; exact hi
    · exact h5 j hj
  · intro n hn
    obtain ⟨j, hj, hj'⟩ := h6 n hn
    exact ⟨j, hgr j hj, by rw [hbd]; exact hj'⟩
  · intro j; rw [hin]; exact fun hj => hgr j (h7 j hj)
  · intro j; rw [hin, hq]; exact h8 j
  · intro j; rw [hin]; exact h9 j

/-- A station is faulted: its group stands until the work in hand is done (R48). -/
theorem State.BindingIn.faults {h h' : Hand} {s : State} (hs : s.BindingIn h) {i : StationId}
    (hh : ∀ j, ¬ h.faults j) (hh' : ∀ j, h'.faults j ↔ j = i) :
    (s.modStation i Station.fault).BindingIn h' := by
  obtain ⟨h1, h2, h3, h4, h5, h6, h7, h8, h9⟩ := hs
  have hst : ∀ j, (s.modStation i Station.fault).station j =
      if i = j then (s.station i).fault else s.station j := fun j => State.station_modStation s i j _
  have hbd : ∀ j, ((s.modStation i Station.fault).station j).bound = (s.station j).bound :=
    fun j => State.modStation_keeps Station.bound i s rfl j
  have hgr : ∀ j, ((s.modStation i Station.fault).station j).group = (s.station j).group :=
    fun j => State.modStation_keeps Station.group i s rfl j
  refine ⟨?_, ?_, ?_, ?_, ?_, ?_, ?_, ?_, ?_⟩
  · intro j n; rw [hbd]; exact h1 j n
  · intro j k n; rw [hbd, hbd]; exact h2 j k n
  · intro j; rw [hgr]; exact h3 j
  · intro j; rw [hgr, hbd]; exact h4 j
  · intro j hj
    rw [hgr] at hj
    rw [hst]
    split
    · rename_i e; exact .inr ((hh' j).2 e.symm)
    · exact .inl ((h5 j hj).resolve_right (hh j))
  · intro n hn
    obtain ⟨j, hj, hj'⟩ := h6 n hn
    exact ⟨j, by rw [hgr]; exact hj, by rw [hbd]; exact hj'⟩
  · intro j hj
    rw [hgr]
    rw [hst] at hj
    split at hj
    · cases hj
    · exact h7 j hj
  · intro j hj
    rw [hst] at hj ⊢
    split
    · rfl
    · rename_i e
      rw [if_neg e] at hj
      exact h8 j hj
  · intro j hj
    obtain rfl := (hh' j).1 hj
    rw [hst, if_pos rfl]
    rfl

/-- An unbound station is bound to an OPEN slot without a bound station (R55). -/
theorem State.BindingIn.binds {h : Hand} {s : State} (hs : s.BindingIn h) {i : StationId} {n : SlotId}
    {q : Fin 4} (hb : (s.station i).binding = none) (hn : s.slotState n = some .opened)
    (hf : s.boundStation n = none) :
    (s.modStation i fun x => { x with binding := some ⟨n, q⟩ }).BindingIn h := by
  obtain ⟨h1, h2, h3, h4, h5, h6, h7, h8, h9⟩ := hs
  have hnb : (s.station i).bound = none := by simp [Station.bound, hb]
  have hng : ¬ (s.station i).group.isSome = true := by
    intro hg
    have := h4 i hg
    rw [hnb] at this
    cases this
  have hst : ∀ j, (s.modStation i fun x => { x with binding := some ⟨n, q⟩ }).station j =
      if i = j then { s.station i with binding := some ⟨n, q⟩ } else s.station j :=
    fun j => State.station_modStation s i j _
  have hgr : ∀ j, ((s.modStation i fun x => { x with binding := some ⟨n, q⟩ }).station j).group =
      (s.station j).group := fun j => State.modStation_keeps Station.group i s rfl j
  have hin : ∀ j, ((s.modStation i fun x => { x with binding := some ⟨n, q⟩ }).station j).intake =
      (s.station j).intake := fun j => State.modStation_keeps Station.intake i s rfl j
  have hq : ∀ j, ((s.modStation i fun x => { x with binding := some ⟨n, q⟩ }).station j).staging =
      (s.station j).staging := fun j => State.modStation_keeps Station.staging i s rfl j
  have hbd : ∀ j m, ((s.modStation i fun x => { x with binding := some ⟨n, q⟩ }).station j).bound = some m →
      (i = j ∧ n = m) ∨ (i ≠ j ∧ (s.station j).bound = some m) := by
    intro j m hj
    rw [hst] at hj
    split at hj
    · rename_i e; exact .inl ⟨e, by simpa [Station.bound] using hj⟩
    · rename_i e; exact .inr ⟨e, hj⟩
  refine ⟨?_, ?_, ?_, ?_, ?_, ?_, ?_, ?_, ?_⟩
  · intro j m hj
    rcases hbd j m hj with ⟨-, rfl⟩ | ⟨-, hj⟩
    · exact .inl hn
    · exact h1 j m hj
  · intro j k m hj hk
    rcases hbd j m hj with ⟨rfl, rfl⟩ | ⟨-, hj⟩ <;> rcases hbd k _ hk with ⟨hk, hm⟩ | ⟨-, hk⟩
    · exact hk
    · exact absurd hk (State.bound_ne_of_boundStation hf k)
    · subst hm; exact absurd hj (State.bound_ne_of_boundStation hf j)
    · exact h2 j k m hj hk
  · intro j; rw [hgr]; exact h3 j
  · intro j hj
    rw [hgr] at hj
    have hij : i ≠ j := by rintro rfl; exact hng hj
    rw [hst, if_neg hij]
    exact h4 j hj
  · intro j; rw [hgr, hin]; exact h5 j
  · intro m hm
    obtain ⟨j, hj, hj'⟩ := h6 m hm
    have hij : i ≠ j := by rintro rfl; exact hng hj
    exact ⟨j, by rw [hgr]; exact hj, by rw [hst, if_neg hij]; exact hj'⟩
  · intro j; rw [hgr, hin]; exact h7 j
  · intro j; rw [hin, hq]; exact h8 j
  · intro j; rw [hin]; exact h9 j

theorem EngineMove.bindingIn {g g' : Hand} {s t : State} (m : EngineMove g s g' t) (h : s.BindingIn g) :
    t.BindingIn g' := by
  cases m with
  | takes _ i r rest hs ht =>
    exact State.BindingIn.of_keeps (s := s) (h.regrip (by simp))
      (State.modStation_binding_keeps (Station.takes_keeps hs)) fun _ => rfl
  | picks _ i => exact h.regrip (by simp)
  | lays _ i o => exact h.regrip (by simp)
  | faults _ i _ hh hf =>
    refine h.faults ?_ (by simp [eq_comm])
    rcases hh with rfl | ⟨o, rfl⟩ <;> simp
  | faulted _ i hg =>
    have hu := h.unbind hg
    obtain ⟨h1, h2, h3, h4, h5, h6, h7, h8, h9⟩ := hu
    refine ⟨h1, h2, h3, h4, fun j hj => ?_, h6, h7, h8, by simp⟩
    refine .inl ((h5 j hj).resolve_right ?_)
    rw [Hand.faults_busy]
    rintro ⟨rfl, -⟩
    rw [show ((s.unbind i).station i).group = (s.station i).group from
      State.modStation_keeps Station.group i s rfl i, hg] at hj
    cases hj
  | ends _ i _ hh => exact (h.endGroup i).regrip (by simp)
  | delivers _ i y =>
    exact State.BindingIn.of_keeps (s := s) (h.regrip (by simp))
      (State.modStation_binding_keeps (Station.deliver_keeps y _)) fun _ => rfl
  | discards _ i y =>
    exact h.of_keeps (State.modStation_binding_keeps (Station.deliver_keeps y _)) fun _ => rfl
  | binds _ i f o n q hb hn hf => exact h.binds hb (State.slotIs_iff_slotState.1 hn) hf
  | unbinds _ i f o hg => exact h.unbind hg
  | opens _ i f o gr hb hg hi ha he ht =>
    refine h.opens (by simpa [Station.bound] using hb) ?_ ?_
    · rcases hi with hi | hi
      · exact .inl (.inl hi)
      · exact .inr (by simp [hi])
    · exact ⟨ha, by simp [he], by simp [he], by simp [he]⟩
  | joins _ i f o b gr w e hb hg hw hs hn hc =>
    exact h.of_keeps (State.modStation_binding_keeps (Station.join_keeps hg fun hl => hl.join hs hn hc))
      fun _ => rfl
  | begins _ i f o gr es => exact h.regrip (by simp)
  | passes _ i f o x es => exact h.regrip (by simp)

/-- What changes the records of slots but not their states. -/
theorem State.slotState_modWafer {s : State} {n : SlotId} {f : Wafer → Wafer}
    (hf : ∀ w, (f w).state = w.state) (m : SlotId) : (s.modWafer n f).slotState m = s.slotState m := by
  unfold State.slotState
  rw [State.slot_modWafer]
  split
  · rename_i e
    subst e
    cases s.slot n <;> simp [hf]
  · rfl

theorem State.slotState_setSlot {s : State} {n : SlotId} {w : Option Wafer} (m : SlotId) :
    (s.setSlot n w).slotState m = if n = m then w.map Wafer.state else s.slotState m := by
  unfold State.slotState
  rw [State.slot_setSlot]
  split <;> rfl

theorem State.modAcc_slotState (n : SlotId) (f : Acc → Acc) (s : State) (m : SlotId) :
    (s.modAcc n f).slotState m = s.slotState m :=
  State.slotState_modWafer (f := fun w => { w with acc := f w.acc }) (fun _ => rfl) m

theorem State.applyItem_slotState (n : SlotId) (i : StationId) (p : Plan) (e : Entry) (c : CellRecord)
    (f : Acc → Acc) (s : State) (m : SlotId) : (s.applyItem n i p e c f).slotState m = s.slotState m := by
  have h : (s.applyItem n i p e c f).slotState m = (((s.writeCell n e.cell c).modAcc n f).modAcc n
      (Acc.site e.site (SiteTriple.test (decide (p.cls e.bin = .pass))))).slotState m := rfl
  rw [h, State.modAcc_slotState, State.modAcc_slotState]
  rfl

theorem AccountMove.bindingIn {g g' : Hand} {s t : State} (m : AccountMove g s g' t) (h : s.BindingIn g) :
    t.BindingIn g' := by
  have hst : ∀ (p : Plan) (n : SlotId) (i : StationId) (e : Entry) (c : CellRecord) (f : Acc → Acc) (u : State),
      u.BindingIn g → (u.applyItem n i p e c f).BindingIn g := by
    intro p n i e c f u hu
    refine hu.of_keeps ?_ ?_
    · exact State.modStation_binding_keeps (s := ((u.writeCell n e.cell c).modAcc n f).modAcc n _)
        (.of_fields rfl rfl rfl rfl)
    · exact fun k => State.applyItem_slotState n i p e c f u k
  cases m with
  | voids _ i f o l b k hb =>
    refine h.of_keeps ?_ ?_
    · exact State.modStation_binding_keeps (s := s.modAcc b.slot _) (.of_fields rfl rfl rfl rfl)
    · exact fun m => State.modAcc_slotState b.slot (Acc.site k SiteTriple.void) s m
  | timeout _ i f o l b hb =>
    exact h.of_keeps (fun j => .refl _) fun m => State.modAcc_slotState b.slot Acc.timeout s m
  | first => exact (hst _ _ _ _ _ _ _ h).regrip (by simp)
  | retest => exact (hst _ _ _ _ _ _ _ h).regrip (by simp)

theorem CellMove.slotState_eq {g : Hand} {s t : State} (m : CellMove g s t) (n : SlotId) :
    t.slotState n = s.slotState n := by
  cases m with
  | upset us =>
    obtain ⟨me, e, -⟩ := State.upset_form us s
    rw [e]
    rfl
  | read k x =>
    obtain ⟨d, hd⟩ := State.readCell_slot k n x s
    unfold State.slotState
    rw [hd]
    cases s.slot n <;> rfl

theorem SlotMove.bindingIn {g : Hand} {s t : State} (m : SlotMove s t) (h : s.BindingIn g) :
    t.BindingIn g := by
  cases m with
  | initialised tag n f hp =>
    have hss : ∀ k, ((({ s with inProgress := none } : State).modWafer n fun w =>
        { w with state := .opened }).makeReady (.reply false f)).slotState k =
        if n = k then (s.slot n).map fun _ => .opened else s.slotState k := by
      intro k
      rw [show ∀ u : State, (u.makeReady (.reply false f)).slotState k = u.slotState k from fun _ => rfl]
      unfold State.modWafer
      rw [State.slotState_setSlot]
      split
      · rw [Option.map_map]; rfl
      · rfl
    refine h.of_slots rfl ?_ ?_
    · intro k hk
      rw [hss]
      split
      · rename_i e
        subst e
        left
        unfold State.slotState at hk
        cases hw : s.slot n with
        | none => simp [hw] at hk
        | some w => rfl
      · exact hk
    · intro k hk
      rw [hss] at hk
      split at hk
      · cases hw : s.slot n <;> simp [hw] at hk
      · exact hk
  | closes n ho hg => exact h.completeClose hg false
  | waits n ho hg =>
    rw [State.slotIs_iff_slotState] at ho
    have hss : ∀ k, (s.modWafer n fun w => { w with state := .closing }).slotState k =
        if n = k then some .closing else s.slotState k := by
      intro k
      unfold State.modWafer
      rw [State.slotState_setSlot]
      split
      · obtain ⟨w, hw, -⟩ := Option.map_eq_some_iff.1 ho
        rw [hw]; rfl
      · rfl
    obtain ⟨h1, h2, h3, h4, h5, h6, h7, h8, h9⟩ := h
    refine ⟨?_, h2, h3, h4, h5, ?_, h7, h8, h9⟩
    · intro i k hi
      rw [hss]
      split
      · exact .inr rfl
      · exact h1 i k hi
    · intro k hk
      rw [hss] at hk
      split at hk
      · rename_i e
        subst e
        unfold State.slotGroupOpen at hg
        split at hg
        · cases hg
        · rename_i i hi
          exact ⟨i, hg, State.bound_of_boundStation hi⟩
      · exact h6 k hk
  | reopens n w e hw hc he hl =>
    have hss : ∀ k, (s.reopen n w e).slotState k = if n = k then some .opened else s.slotState k :=
      fun k => State.slotState_setSlot (s := s.modLot e _) k
    refine h.of_slots rfl ?_ ?_
    · intro k hk
      rw [hss]
      split
      · exact .inl rfl
      · exact hk
    · intro k hk
      rw [hss] at hk
      split at hk
      · cases hk
      · exact hk
  | frees n hc hp =>
    rw [State.slotIs_iff_slotState] at hc
    refine h.of_slots rfl ?_ ?_
    · intro k hk
      rw [State.slotState_setSlot, if_neg]
      · exact hk
      · rintro rfl
        rw [hc] at hk
        simp at hk
    · intro k hk
      rw [State.slotState_setSlot] at hk
      split at hk
      · cases hk
      · exact hk

theorem State.slotState_endExport (s : State) (n : SlotId) :
    s.endExport.slotState n = s.slotState n ∨
      (s.slotState n = some .exporting ∧ s.endExport.slotState n = some .closed) := by
  unfold State.endExport
  split
  · exact .inl rfl
  · rename_i m hm
    unfold State.modWafer
    rw [State.slotState_setSlot]
    split
    · rename_i e
      subst e
      unfold State.slotState
      cases hw : s.slot m.slot with
      | none => simp [State.slot] at hw ⊢; simp [hw]
      | some w =>
        rw [show ({ s with mex := none } : State).slot m.slot = some w from hw]
        by_cases hx : w.state = .exporting
        · exact .inr (by simp [Wafer.endExport, hx])
        · exact .inl (by simp [Wafer.endExport, hx])
    · exact .inl rfl

theorem State.BindingIn.of_endExport {g : Hand} {s t : State} (h : s.BindingIn g)
    (hx : t.stations = s.stations)
    (hn : ∀ n, t.slotState n = s.slotState n ∨
      (s.slotState n = some .exporting ∧ t.slotState n = some .closed)) : t.BindingIn g := by
  refine h.of_slots hx ?_ ?_
  · intro n hs
    rcases hn n with e | ⟨e, -⟩
    · rw [e]; exact hs
    · rw [e] at hs; simp at hs
  · intro n ht
    rcases hn n with e | ⟨-, e⟩
    · rw [← e]; exact ht
    · rw [e] at ht; cases ht

theorem MexMove.bindingIn {g : Hand} {s t : State} (m : MexMove s t) (h : s.BindingIn g) :
    t.BindingIn g := by
  have hx := (Move.mex m).frame.stations (by decide)
  cases m with
  | starts n w d k hm hw hc hk =>
    refine h.of_slots hx ?_ ?_
    · intro j hj
      rw [State.slotState_setSlot, if_neg]
      · exact hj
      · rintro rfl
        simp [State.slotState, hw, hc] at hj
    · intro j hj
      rw [State.slotState_setSlot] at hj
      split at hj
      · cases hj
      · exact hj
  | halts => exact h.of_endExport hx (State.slotState_endExport s)
  | stops tag f hp => exact h.of_endExport hx (State.slotState_endExport { s with inProgress := none })
  | endTaken => exact h.of_endExport hx (State.slotState_endExport s)
  | _ => exact h.of_slots hx (fun _ => id) fun _ => id

theorem State.takeSlot_slots (n : SlotId) (e : Fin 16) (tag : Byte) (w : Wafer) (s : State) :
    (s.takeSlot n e tag w).slots = (s.setSlot n (some w)).slots := rfl

theorem State.takeSlot_slot (n : SlotId) (e : Fin 16) (tag : Byte) (w : Wafer) (s : State) (k : SlotId) :
    (s.takeSlot n e tag w).slot k = if n = k then some w else s.slot k := by
  rw [State.slot_congr (State.takeSlot_slots n e tag w s), State.slot_setSlot]

theorem State.takeSlot_slotState (n : SlotId) (e : Fin 16) (tag : Byte) (w : Wafer) (s : State) (k : SlotId) :
    (s.takeSlot n e tag w).slotState k = if n = k then some w.state else s.slotState k := by
  unfold State.slotState
  rw [State.takeSlot_slot]
  split <;> rfl

@[simp] theorem State.takeSlot_mex (n : SlotId) (e : Fin 16) (tag : Byte) (w : Wafer) (s : State) :
    (s.takeSlot n e tag w).mex = s.mex := rfl

/-- Every move keeps the law of bindings and groups. -/
theorem Move.bindingIn {d : Domain} {g g' : Hand} {s t : State} (m : Move d g s g' t)
    (h : s.BindingIn g) : t.BindingIn g' := by
  cases m with
  | engine m => exact m.bindingIn h
  | accounts m => exact m.bindingIn h
  | slots m => exact m.bindingIn h
  | mex m => exact m.bindingIn h
  | cells m =>
    refine h.of_keeps (fun j => ?_) m.slotState_eq
    rw [State.station_congr ((Move.cells m).frame.stations (by decide))]
    exact .refl _
  | link _ m =>
    refine h.of_keeps (fun j => ?_) fun n => State.slotState_congr ((Move.link g m).frame.slots (by decide)) n
    cases m with
    | quiet i f hq => exact State.modStation_binding_keeps hq.keeps j
    | arms => exact .refl _
  | alarms m =>
    refine h.of_keeps (fun j => ?_) fun n => State.slotState_congr ((Move.alarms m).frame.slots (by decide)) n
    cases m with
    | judges w f a => exact State.judge_binding_keeps w f a s j
    | acknowledges level =>
      obtain ⟨_, _, _, _, e⟩ := State.acknowledge_form level s
      rw [e]
      exact .refl _
    | clears => exact .refl _
  | control _ i f hc =>
    refine h.of_abides (fun j => ?_) (fun _ => rfl) (by simp)
    rw [State.station_modStation]
    split
    case isFalse => exact (Station.Keeps.refl _).abides
    rename_i e
    subst e
    refine ⟨?_, by rw [hc.group], ?_, ?_, ?_, ?_⟩
    · unfold Station.bound; rw [hc.binding]
    · rw [hc.group]; exact fun g hg => ⟨g, hg, id⟩
    · exact fun hg ha => hc.awake ha hg
    · exact fun ha _ => hc.stopping ha
    · rintro (ha | ha)
      · exact absurd ha hc.notHeld.1
      · exact absurd ha hc.notHeld.2
  | tick =>
    refine h.of_keeps (fun j => ?_) fun _ => rfl
    have ht : (({ s with stations := Vector.ofFn fun i => s.stations[i].tick } : State).station j) =
        (s.station j).tick := by simp [State.station]
    rw [ht]
    refine ⟨⟨rfl, by simp [Station.tick], ?_, fun _ ha => ha, fun ha hb => hb ha, fun ha => ⟨ha, id⟩⟩, id⟩
    intro gr hgr
    obtain ⟨g', hg', rfl⟩ := Option.map_eq_some_iff.1 hgr
    exact ⟨g', hg', id⟩
  | restart m =>
    cases m with
    | stations hg =>
      have hst : ∀ j, s.restartStations.station j = (s.station j).restart := by
        intro j; simp [State.station, State.restartStations, State.arm]
      refine ⟨?_, ?_, ?_, ?_, ?_, ?_, ?_, ?_, by simp⟩
      · intro i n hi; rw [hst] at hi; cases hi
      · intro i j n hi; rw [hst] at hi; cases hi
      · intro i gr hi; rw [hst] at hi; exact absurd hi (by simp [Station.restart, hg i])
      · intro i hi; rw [hst] at hi; simp [Station.restart, hg i] at hi
      · intro i hi; rw [hst] at hi; simp [Station.restart, hg i] at hi
      · intro n hn; exact absurd hn (h.not_closing hg n)
      · intro i hi; rw [hst] at hi; cases hi
      · intro i _; rw [hst]; rfl
    | closes n hg =>
      rw [State.finishClosing_of_not (h.not_closing hg n)]
      exact h
  | settings m =>
    cases m
    exact h.of_keeps (State.modStation_binding_keeps (.of_fields rfl rfl rfl rfl)) fun _ => rfl
  | opens m =>
    have hx := (Move.opens m).frame.stations (by decide)
    cases m with
    | takes n e l tag p hp hw he hl ho hgv hex hv hn =>
      have hss := State.takeSlot_slotState n e tag (Wafer.new l.id p) s
      rw [show (Wafer.new l.id p).state = .opening from rfl] at hss
      refine h.of_slots hx ?_ ?_
      · intro k hk
        rw [hss, if_neg]
        · exact hk
        · rintro rfl
          simp [State.slotState, hn] at hk
      · intro k hk
        rw [hss] at hk
        split at hk
        · cases hk
        · exact hk
  | reset m =>
    cases m
    have h0 : State.reset.BindingLaw := by
      refine ⟨?_, ?_, ?_, ?_, ?_, ?_⟩ <;> simp [State.reset, State.station, State.slotIs, State.slot, Station.reset]
    refine State.BindingIn.of_keeps ((State.bindingIn_idle _).2 h0) (fun _ => .refl _) fun _ => rfl
  | host _ m =>
    refine h.of_keeps (fun j => ?_) fun n => State.slotState_congr ((Move.host g m).frame.slots (by decide)) n
    rw [State.station_congr ((Move.host g m).frame.stations (by decide))]
    exact .refl _
  | plans m | classes m | rules m | lots m => cases m <;> exact h.of_keeps (fun j => .refl _) fun _ => rfl

/-- Settles O54: every move keeps the law of bindings and groups, with the work in hand. -/
theorem everyStepKeepsBindingLaw : Obligations.EveryStepKeepsBindingLaw := by
  intro s t hs he
  rw [← State.bindingIn_idle] at hs ⊢
  refine step_keeps (P := fun g u => u.BindingIn g) (fun _ _ _ _ _ m hu => m.bindingIn hu) ?_ he hs
  intro u q hu
  exact hu.of_keeps (fun _ => .refl _) fun _ => rfl

end Sys2Proof.Machine
end

section
/-! PROOF. The law of the alarm list is kept by every move: O57. -/

namespace Sys2Proof.Machine

/-! ## The list without repeats -/

/-- Two entries that are not both to be kept apart (R143): one is ACKED, or they differ in rule, slot, station
or site. -/
def Alarm.Distinct (e f : Alarm) : Prop :=
  e.state = .acked ∨ f.state = .acked ∨
    ¬(e.rule = f.rule ∧ e.slot = f.slot ∧ e.station = f.station ∧ e.site = f.site)

/-- What makes two entries distinct: their watches, and whether they are ACKED. -/
theorem Alarm.Distinct.congr {e f e' f' : Alarm} (h : e.Distinct f)
    (he : e'.rule = e.rule ∧ e'.slot = e.slot ∧ e'.station = e.station ∧ e'.site = e.site)
    (hf : f'.rule = f.rule ∧ f'.slot = f.slot ∧ f'.station = f.station ∧ f'.site = f.site)
    (hea : e.state = .acked → e'.state = .acked) (hfa : f.state = .acked → f'.state = .acked) :
    e'.Distinct f' := by
  obtain ⟨e1, e2, e3, e4⟩ := he
  obtain ⟨f1, f2, f3, f4⟩ := hf
  unfold Alarm.Distinct
  rw [e1, e2, e3, e4, f1, f2, f3, f4]
  rcases h with h | h | h
  · exact .inl (hea h)
  · exact .inr (.inl (hfa h))
  · exact .inr (.inr h)

/-- An update of entries that leaves their watches, and ACKED entries ACKED, keeps a list without repeats. -/
theorem pairwise_distinct_map {es : List Alarm} {f : Alarm → Alarm}
    (hf : ∀ e, (f e).rule = e.rule ∧ (f e).slot = e.slot ∧ (f e).station = e.station ∧ (f e).site = e.site)
    (ha : ∀ e, e.state = .acked → (f e).state = .acked) (h : es.Pairwise Alarm.Distinct) :
    (es.map f).Pairwise Alarm.Distinct :=
  List.pairwise_map.2 (h.imp fun hd => hd.congr (hf _) (hf _) (ha _) (ha _))

/-- The same for an update at one place. -/
theorem pairwise_distinct_modify {es : List Alarm} {f : Alarm → Alarm}
    (hf : ∀ e, (f e).rule = e.rule ∧ (f e).slot = e.slot ∧ (f e).station = e.station ∧ (f e).site = e.site)
    (ha : ∀ e, e.state = .acked → (f e).state = .acked) (h : es.Pairwise Alarm.Distinct) (k : Nat) :
    (es.modify k f).Pairwise Alarm.Distinct := by
  rw [List.pairwise_iff_getElem] at h ⊢
  intro i j hi hj hij
  rw [List.length_modify] at hi hj
  rw [List.getElem_modify, List.getElem_modify]
  have hd := h i j hi hj hij
  split <;> split
  · exact hd.congr (hf _) (hf _) (ha _) (ha _)
  · exact hd.congr (hf _) ⟨rfl, rfl, rfl, rfl⟩ (ha _) id
  · exact hd.congr ⟨rfl, rfl, rfl, rfl⟩ (hf _) id (ha _)
  · exact hd

/-! ## Storing, raising and acknowledging -/

/-- The alarm list fits CAL, but for an entry that is still to be raised (R147). -/
structure AlarmsFit (cal : Nat) (es : List Alarm) (left : Option Nat) : Prop where
  distinct : es.Pairwise Alarm.Distinct
  pending : ∀ j e, es[j]? = some e → left ≠ some j → e.state = .pending → cal ≤ e.level.val
  repeats : ∀ e ∈ es, 1 ≤ e.repeats ∧ e.repeats ≤ 255

theorem AlarmsFit.weaken {cal : Nat} {es : List Alarm} (h : AlarmsFit cal es none) (k : Option Nat) :
    AlarmsFit cal es k :=
  ⟨h.distinct, fun j _ hj _ => h.pending j _ hj (by simp), h.repeats⟩

theorem AlarmsFit.mem {cal : Nat} {es : List Alarm} (h : AlarmsFit cal es none) {e : Alarm} (he : e ∈ es)
    (hp : e.state = .pending) : cal ≤ e.level.val := by
  obtain ⟨j, hj⟩ := List.getElem?_of_mem he
  exact h.pending j e hj (by simp) hp

theorem AlarmsFit.of_mem {cal : Nat} {es : List Alarm} (hd : es.Pairwise Alarm.Distinct)
    (hp : ∀ e ∈ es, e.state = .pending → cal ≤ e.level.val)
    (hr : ∀ e ∈ es, 1 ≤ e.repeats ∧ e.repeats ≤ 255) : AlarmsFit cal es none :=
  ⟨hd, fun _ _ hj _ => hp _ (List.mem_of_getElem? hj), hr⟩

/-- A part of the list fits where the list does. -/
theorem AlarmsFit.sublist {cal : Nat} {es fs : List Alarm} (h : AlarmsFit cal es none)
    (hs : fs.Sublist es) : AlarmsFit cal fs none :=
  .of_mem (h.distinct.sublist hs) (fun _ he hp => h.mem (hs.subset he) hp)
    fun e he => h.repeats e (hs.subset he)

/-- A new entry joins the end, to be raised. -/
theorem AlarmsFit.append {cal : Nat} {es : List Alarm} {a : Alarm} (h : AlarmsFit cal es none)
    (hn : ∀ e ∈ es, e.Distinct a) (hr : a.repeats = 1) :
    AlarmsFit cal (es ++ [a]) (some es.length) := by
  refine ⟨?_, ?_, ?_⟩
  · rw [List.pairwise_append]
    exact ⟨h.distinct, by simp, by simpa using hn⟩
  · intro j e hj hne hp
    rcases Nat.lt_or_ge j es.length with hlt | hge
    · rw [List.getElem?_append_left hlt] at hj
      exact h.pending j e hj (by simp) hp
    · have hlen := (List.getElem?_eq_some_iff.1 hj).1
      rw [List.length_append, List.length_singleton] at hlen
      exact absurd (by congr 1; omega) hne
  · intro e he
    rcases List.mem_append.1 he with he | he
    · exact h.repeats e he
    · obtain rfl := List.mem_singleton.1 he
      omega

theorem bump_pos {top n : Nat} (h : 1 ≤ n) : 1 ≤ bump top n := by
  unfold bump
  split <;> omega

/-- The list after an alarm is stored fits CAL but for the entry it stands in (R144, R145, R146). -/
theorem AlarmsFit.store {cal : Nat} {es : List Alarm} (h : AlarmsFit cal es none) {a : Alarm}
    (hr : a.repeats = 1) (o : Bool) :
    AlarmsFit cal (storeAlarm a es o).1 (storeAlarm a es o).2.2 := by
  unfold storeAlarm
  split
  · rename_i k hk
    refine AlarmsFit.weaken ?_ _
    refine ⟨pairwise_distinct_modify (f := Alarm.repeated a.observed) (fun _ => ⟨rfl, rfl, rfl, rfl⟩)
      (fun _ => id) h.distinct k, ?_, ?_⟩
    · intro j e hj _ hp
      rw [List.getElem?_modify] at hj
      obtain ⟨e', he', rfl⟩ := Option.map_eq_some_iff.1 hj
      have hx := h.pending j e' he' (by simp)
      by_cases hkj : k = j
      · rw [if_pos hkj] at hp ⊢
        exact hx hp
      · rw [if_neg hkj] at hp ⊢
        exact hx hp
    · intro e he
      obtain ⟨j, hj⟩ := List.getElem?_of_mem he
      rw [List.getElem?_modify] at hj
      obtain ⟨e', he', rfl⟩ := Option.map_eq_some_iff.1 hj
      obtain ⟨h1, h2⟩ := h.repeats e' (List.mem_of_getElem? he')
      split
      · exact ⟨bump_pos h1, bump_le h2⟩
      · exact ⟨h1, h2⟩
  · rename_i hk
    have hn : ∀ e ∈ es, e.Distinct a := by
      intro e he
      have hne := List.findIdx?_eq_none_iff.1 hk e he
      simp only [Alarm.repeatsInto, decide_eq_false_iff_not, not_and] at hne
      by_cases ha : e.state = .acked
      · exact .inl ha
      · exact .inr (.inr fun ⟨h1, h2, h3, h4⟩ => hne ha h1 h2 h3 h4)
    split
    · exact h.append hn hr
    · split
      · exact (h.sublist List.eraseP_sublist).append (fun e he => hn e (List.mem_of_mem_eraseP he)) hr
      · split
        · exact (h.sublist List.eraseP_sublist).append (fun e he => hn e (List.mem_of_mem_eraseP he)) hr
        · exact h

/-- A raise makes the list fit CAL where every other PENDING entry is at CAL or at the raised entry's level, or
less urgent (R147). -/
theorem AlarmsFit.of_raise {s : State} {k : Nat} (hd : s.alarms.Pairwise Alarm.Distinct)
    (hr : ∀ e ∈ s.alarms, 1 ≤ e.repeats ∧ e.repeats ≤ 255)
    (hrest : ∀ j e, s.alarms[j]? = some e → k ≠ j → e.state = .pending → s.cal ≤ e.level.val ∨
      ∃ x, s.alarms[k]? = some x ∧ x.state = .pending ∧ x.level.val < s.cal ∧ x.level.val ≤ e.level.val) :
    AlarmsFit (s.raise k).cal (s.raise k).alarms none := by
  unfold State.raise
  split
  · rename_i hk
    refine ⟨hd, fun j e hj _ hp => ?_, hr⟩
    have hne : k ≠ j := by rintro rfl; rw [hk] at hj; cases hj
    rcases hrest j e hj hne hp with h | ⟨x, hx, -⟩
    · exact h
    · rw [hk] at hx; cases hx
  · rename_i e hk
    split
    · rename_i hp
      rw [State.addCause_cal, State.addCause_alarms]
      dsimp only
      have hset : s.alarms.set k { e with state := .raised } =
          s.alarms.modify k fun x => if x.state = .acked then x else { x with state := .raised } := by
        refine List.ext_getElem (by simp) fun j h1 h2 => ?_
        rw [List.getElem_set, List.getElem_modify]
        split
        · rename_i hj
          subst hj
          rw [(List.getElem?_eq_some_iff.1 hk).2, if_neg (by simp [hp.1])]
        · rfl
      refine ⟨?_, ?_, ?_⟩
      · rw [hset]
        refine pairwise_distinct_modify ?_ ?_ hd k
        · intro x; split <;> exact ⟨rfl, rfl, rfl, rfl⟩
        · intro x hx; rw [if_pos hx]; exact hx
      · intro j e' hj _ hp'
        rw [List.getElem?_set] at hj
        split at hj
        · split at hj
          · obtain rfl := Option.some.inj hj
            cases hp'
          · cases hj
        · rename_i hne
          rcases hrest j e' hj hne hp' with h | ⟨x, hx, -, -, h⟩
          · omega
          · obtain rfl : e = x := by rw [hk] at hx; exact Option.some.inj hx
            exact h
      · intro x hx
        rcases List.mem_or_eq_of_mem_set hx with hx | rfl
        · exact hr x hx
        · exact hr e (List.mem_of_getElem? hk)
    · rename_i hp
      refine ⟨hd, fun j e' hj _ hp' => ?_, hr⟩
      by_cases hne : k = j
      · subst hne
        rw [hk] at hj
        obtain rfl := Option.some.inj hj
        by_contra hlt
        exact hp ⟨hp', by omega⟩
      · rcases hrest j e' hj hne hp' with h | ⟨x, hx, h1, h2, -⟩
        · exact h
        · obtain rfl : e = x := by rw [hk] at hx; exact Option.some.inj hx
          exact absurd ⟨h1, h2⟩ hp

/-- The raise of the entry that was left makes the whole list fit CAL. -/
theorem AlarmsFit.raise {s : State} {k : Nat} (h : AlarmsFit s.cal s.alarms (some k)) :
    AlarmsFit (s.raise k).cal (s.raise k).alarms none :=
  .of_raise h.distinct h.repeats fun j e hj hne hp => .inl (h.pending j e hj (by simpa using hne) hp)

theorem AlarmsFit.record {s : State} (h : AlarmsFit s.cal s.alarms none) {a : Alarm} (hr : a.repeats = 1) :
    AlarmsFit (s.record a).cal (s.record a).alarms none := by
  unfold State.record
  dsimp only
  have hst := h.store hr s.overflow
  generalize storeAlarm a s.alarms s.overflow = x at hst ⊢
  obtain ⟨es, o, k⟩ := x
  cases k with
  | none =>
    obtain ⟨st, e⟩ := State.act_form a { s with alarms := es, overflow := o }
    dsimp only
    rw [e]
    exact hst
  | some k =>
    obtain ⟨st, e⟩ := State.act_form a (State.raise k { s with alarms := es, overflow := o })
    dsimp only
    rw [e]
    exact AlarmsFit.raise (s := { s with alarms := es, overflow := o }) hst

/-! ### The level of the PENDING entries -/

theorem foldl_min_le (a : Nat) (l : List Nat) : l.foldl min a ≤ a ∧ ∀ x ∈ l, l.foldl min a ≤ x := by
  induction l generalizing a with
  | nil => simp
  | cons x l ih =>
    rw [List.foldl_cons]
    obtain ⟨h1, h2⟩ := ih (min a x)
    refine ⟨by omega, ?_⟩
    intro y hy
    rcases List.mem_cons.1 hy with rfl | hy
    · omega
    · exact h2 y hy

theorem foldl_min_mem (a : Nat) (l : List Nat) : l.foldl min a = a ∨ l.foldl min a ∈ l := by
  induction l generalizing a with
  | nil => exact .inl rfl
  | cons x l ih =>
    rw [List.foldl_cons]
    rcases ih (min a x) with h | h
    · rw [h]
      rcases Nat.le_total a x with hx | hx
      · exact .inl (Nat.min_eq_left hx)
      · exact .inr (by simp [Nat.min_eq_right hx])
    · exact .inr (List.mem_cons_of_mem _ h)

/-- No PENDING entry is more urgent than the level of the PENDING entries. -/
theorem pendingLevel_le {es : List Alarm} {e : Alarm} (he : e ∈ es) (hp : e.state = .pending) :
    pendingLevel es ≤ e.level.val := by
  unfold pendingLevel
  refine (foldl_min_le 8 _).2 _ (List.mem_map.2 ⟨e, ?_, rfl⟩)
  simp [List.mem_filter, he, hp]

/-- Where an entry is PENDING, one is most urgent (R149 step 3). -/
theorem urgentPending_isSome {es : List Alarm} {e : Alarm} (he : e ∈ es) (hp : e.state = .pending) :
    (urgentPending es).isSome = true := by
  unfold urgentPending
  rw [List.findIdx?_isSome, List.any_eq_true]
  have hle := pendingLevel_le he hp
  have hlt := e.level.isLt
  rcases foldl_min_mem 8 ((es.filter fun e : Alarm => decide (e.state = .pending)).map fun e => e.level.val)
    with h | h
  · have : pendingLevel es = 8 := h
    omega
  · obtain ⟨x, hx, hl⟩ := List.mem_map.1 h
    obtain ⟨hx, hxp⟩ := List.mem_filter.1 hx
    exact ⟨x, hx, decide_eq_true ⟨of_decide_eq_true hxp, hl⟩⟩

theorem urgentPending_eq_some {es : List Alarm} {k : Nat} (h : urgentPending es = some k) :
    ∃ e, es[k]? = some e ∧ e.state = .pending ∧ e.level.val = pendingLevel es := by
  unfold urgentPending at h
  obtain ⟨hk, hp, -⟩ := List.findIdx?_eq_some_iff_getElem.1 h
  obtain ⟨h1, h2⟩ := of_decide_eq_true hp
  exact ⟨_, List.getElem?_eq_getElem hk, h1, h2⟩

theorem Alarm.acknowledged_state_acked {e : Alarm} (h : e.state = .acked) : e.acknowledged.state = .acked := by
  unfold Alarm.acknowledged
  rw [h]
  exact h

theorem Alarm.acknowledged_watch (e : Alarm) : e.acknowledged.rule = e.rule ∧ e.acknowledged.slot = e.slot ∧
    e.acknowledged.station = e.station ∧ e.acknowledged.site = e.site ∧
    e.acknowledged.repeats = e.repeats := by
  unfold Alarm.acknowledged
  split <;> exact ⟨rfl, rfl, rfl, rfl, rfl⟩

/-- An acknowledgement makes the list fit the CAL it gives (R149). -/
theorem AlarmsFit.acknowledge {s : State} (h : AlarmsFit s.cal s.alarms none) (level : Nat) :
    AlarmsFit (s.acknowledge level).cal (s.acknowledge level).alarms none := by
  have hd : (s.alarms.map Alarm.acknowledged).Pairwise Alarm.Distinct := by
    refine pairwise_distinct_map (fun e => ?_) (fun e => Alarm.acknowledged_state_acked) h.distinct
    obtain ⟨h1, h2, h3, h4, -⟩ := e.acknowledged_watch
    exact ⟨h1, h2, h3, h4⟩
  have hr : ∀ e ∈ s.alarms.map Alarm.acknowledged, 1 ≤ e.repeats ∧ e.repeats ≤ 255 := by
    intro e he
    obtain ⟨x, hx, rfl⟩ := List.mem_map.1 he
    rw [x.acknowledged_watch.2.2.2.2]
    exact h.repeats x hx
  unfold State.acknowledge
  dsimp only
  split
  · rename_i hu
    refine .of_mem hd (fun e he hp => ?_) hr
    have := urgentPending_isSome he hp
    rw [hu] at this
    cases this
  · rename_i k hu
    obtain ⟨e, hk, hp, hl⟩ := urgentPending_eq_some hu
    have hle : ∀ x ∈ s.alarms.map Alarm.acknowledged, x.state = .pending → e.level.val ≤ x.level.val :=
      fun x hx hxp => hl ▸ pendingLevel_le hx hxp
    refine .of_raise hd hr fun j x hj _ hxp => ?_
    have hx := hle x (List.mem_of_getElem? hj) hxp
    by_cases hlt : e.level.val < clamp 0 8 level
    · exact .inr ⟨e, hk, hp, hlt, hx⟩
    · exact .inl (by dsimp only; omega)

/-! ## O57 -/

/-- The law of the alarm list, in two parts. -/
theorem State.alarmLaw_iff (s : State) : s.AlarmLaw ↔ AlarmsFit s.cal s.alarms none ∧ s.tripped.Nodup := by
  constructor
  · rintro ⟨h1, h2, h3, h4⟩
    exact ⟨.of_mem h1 h2 h3, h4⟩
  · rintro ⟨h, h4⟩
    exact ⟨h.distinct, fun e he hp => h.mem he hp, h.repeats, h4⟩

theorem State.record_tripped (a : Alarm) (s : State) : (s.record a).tripped = s.tripped := by
  obtain ⟨_, _, _, _, _, _, e⟩ := State.record_form a s
  rw [e]

theorem AlarmMove.alarmLaw {g : Hand} {s t : State} (m : AlarmMove g s t) (h : s.AlarmLaw) : t.AlarmLaw := by
  rw [State.alarmLaw_iff] at h ⊢
  obtain ⟨hf, hn⟩ := h
  cases m with
  | judges w f a hs hr =>
    unfold State.judge
    split
    · split
      · exact ⟨hf, hn⟩
      · exact ⟨hf, hn.filter _⟩
    · rename_i hw
      split
      · refine ⟨AlarmsFit.record (s := { s with tripped := w :: s.tripped }) hf hr, ?_⟩
        rw [State.record_tripped]
        exact List.nodup_cons.2 ⟨hw, hn⟩
      · exact ⟨hf, hn⟩
  | acknowledges level =>
    refine ⟨hf.acknowledge level, ?_⟩
    obtain ⟨_, _, _, _, e⟩ := State.acknowledge_form level s
    rw [e]
    exact hn
  | clears => exact ⟨hf.sublist List.filter_sublist, hn⟩

/-- Watches that become ARMED leave no watch listed twice. -/
theorem Move.tripped_sublist {d : Domain} {g g' : Hand} {s t : State} (m : Move d g s g' t)
    (hd : d ≠ .alarms) : t.tripped.Sublist s.tripped := by
  by_cases hin : d ∈ [.link, .restart, .alarms, .opens, .reset]
  case neg => rw [m.frame.tripped hin]
  cases m with
  | link _ m =>
    cases m with
    | quiet => exact List.Sublist.refl _
    | arms => exact List.filter_sublist
  | restart m =>
    cases m with
    | stations => exact List.filter_sublist
    | closes n =>
      obtain ⟨_, _, _, _, _, e⟩ := State.finishClosing_ended n s
      rw [e]
  | opens m =>
    cases m
    exact List.filter_sublist
  | reset m =>
    cases m
    exact List.nil_sublist _
  | alarms => exact absurd rfl hd
  | _ => simp at hin

/-- Every move keeps the law of the alarm list. -/
theorem Move.alarmLaw {d : Domain} {g g' : Hand} {s t : State} (m : Move d g s g' t) (h : s.AlarmLaw) :
    t.AlarmLaw := by
  by_cases hd : d = .alarms
  · subst hd
    cases m with
    | alarms m => exact m.alarmLaw h
  · have hn := h.2.2.2.sublist (m.tripped_sublist hd)
    by_cases hr : d = .reset
    · subst hr
      cases m with
      | reset m =>
        cases m
        exact (State.alarmLaw_iff _).2 ⟨⟨.nil, by simp [State.reset], by simp [State.reset]⟩, .nil⟩
    · obtain ⟨ha, hc⟩ := m.frame.alarms (by simp [hd, hr])
      rw [State.alarmLaw_iff] at h ⊢
      rw [ha, hc]
      exact ⟨h.1, hn⟩

/-- Settles O57: every move keeps the law of the alarm list. -/
theorem everyStepKeepsAlarmLaw : Obligations.EveryStepKeepsAlarmLaw := by
  intro s t hs he
  exact step_keeps (P := fun _ u => u.AlarmLaw) (fun _ _ _ _ _ m hu => m.alarmLaw hu) (fun _ _ hu => hu) he hs

end Sys2Proof.Machine
end

section
/-! PROOF. The slots, the request in progress and the Map Export Unit agree after every move that does not
open a slot. -/

namespace Sys2Proof.Machine

/-! ## The law of the slots, clause by clause -/

/-- The law of the slots, over what it reads of the state. -/
structure State.SlotsAgree (s : State) : Prop where
  lawful : ∀ n w, s.slot n = some w → w.Lawful
  opening : ∀ n, s.slotState n = some .opening ↔ s.opens = some n
  read : ∀ tag n row first base count cells,
    s.inProgress = some (.reading tag n row first base count cells) →
    ∃ w, s.slot n = some w ∧ row < w.rows ∧ first + count ≤ w.cols ∧ base = row * w.cols + first ∧
      1 ≤ count ∧ cells.length ≤ count
  stop : ∀ tag, s.inProgress = some (.stopping tag) →
    ∃ m, s.mex = some m ∧ m.offered = none ∧ 0 < m.position
  exporting : ∀ n, s.slotState n = some .exporting ↔ s.mex.map Mex.slot = some n
  fits : ∀ m w, s.mex = some m → s.slot m.slot = some w → m.Fits w

theorem State.readFits_iff (s : State) : s.readFits = true ↔
    ∀ tag n row first base count cells,
      s.inProgress = some (.reading tag n row first base count cells) →
      ∃ w, s.slot n = some w ∧ row < w.rows ∧ first + count ≤ w.cols ∧ base = row * w.cols + first ∧
        1 ≤ count ∧ cells.length ≤ count := by
  unfold State.readFits
  cases hp : s.inProgress with
  | none => simp
  | some p =>
    cases p with
    | reading tag n row first base count cells =>
      simp only [Option.any_eq_true, decide_eq_true_eq]
      constructor
      · rintro h _ _ _ _ _ _ _ e
        cases e
        exact h
      · exact fun h => h _ _ _ _ _ _ _ rfl
    | _ => simp

theorem State.stopFits_iff (s : State) : s.stopFits = true ↔
    ∀ tag, s.inProgress = some (.stopping tag) → ∃ m, s.mex = some m ∧ m.offered = none ∧ 0 < m.position := by
  unfold State.stopFits
  cases hp : s.inProgress with
  | none => simp
  | some p =>
    cases p with
    | stopping tag =>
      simp only [Option.any_eq_true, decide_eq_true_eq]
      constructor
      · rintro h _ -
        exact h
      · exact fun h => h tag rfl
    | _ => simp

theorem State.slotsAgree_iff (s : State) : s.SlotsAgree ↔ s.SlotLaw := by
  constructor
  · rintro ⟨h1, h2, h3, h4, h5, h6⟩
    refine ⟨fun n w hw => h1 n w (by simpa using hw), fun n => ?_, s.readFits_iff.2 h3, s.stopFits_iff.2 h4,
      fun n => ?_, fun m hm w hw => h6 m w (by simpa using hm) (by simpa using hw)⟩
    · rw [State.slotIs_iff_slotState]; exact h2 n
    · rw [State.slotIs_iff_slotState]; exact h5 n
  · rintro ⟨h1, h2, h3, h4, h5, h6⟩
    refine ⟨fun n w hw => h1 n w (by simpa using hw), fun n => ?_, s.readFits_iff.1 h3, s.stopFits_iff.1 h4,
      fun n => ?_, fun m w hm hw => h6 m (by simpa using hm) w (by simpa using hw)⟩
    · rw [← State.slotIs_iff_slotState]; exact h2 n
    · rw [← State.slotIs_iff_slotState]; exact h5 n

theorem State.opens_eq_some {s : State} {n : SlotId} :
    s.opens = some n ↔ ∃ tag, s.inProgress = some (.opening tag n) := by
  unfold State.opens
  cases hp : s.inProgress with
  | none => simp
  | some p => cases p <;> simp

theorem State.opens_congr {s t : State} (h : t.inProgress = s.inProgress) : t.opens = s.opens := by
  unfold State.opens; rw [h]

/-- The law hangs on the slots, the request in progress and the Map Export Unit alone. -/
theorem State.SlotsAgree.congr {s t : State} (h : s.SlotsAgree) (hs : t.slots = s.slots)
    (hp : t.inProgress = s.inProgress) (hm : t.mex = s.mex) : t.SlotsAgree := by
  obtain ⟨h1, h2, h3, h4, h5, h6⟩ := h
  have hsl := State.slot_congr hs
  have hst := State.slotState_congr hs
  refine ⟨?_, ?_, ?_, ?_, ?_, ?_⟩
  · intro n w; rw [hsl]; exact h1 n w
  · intro n; rw [hst, State.opens_congr hp]; exact h2 n
  · intro tag n row first base count cells
    rw [hp, hsl]
    exact h3 tag n row first base count cells
  · intro tag; rw [hp, hm]; exact h4 tag
  · intro n; rw [hst, hm]; exact h5 n
  · intro m w; rw [hm, hsl]; exact h6 m w

/-- The record of a slot changes without a word of its outline, and does not begin or end its initialisation
or its EXPORTING. -/
structure Wafer.Follows (v w : Wafer) : Prop where
  lawful : v.Lawful → w.Lawful
  cols : w.cols = v.cols
  rows : w.rows = v.rows
  spans : w.spans = v.spans
  opening : w.state = .opening ↔ v.state = .opening
  exporting : w.state = .exporting ↔ v.state = .exporting

theorem Wafer.Follows.refl (w : Wafer) : w.Follows w := ⟨id, rfl, rfl, rfl, .rfl, .rfl⟩

/-- Records that follow those before keep the law. -/
theorem State.SlotsAgree.of_follows {s t : State} (h : s.SlotsAgree)
    (hp : t.inProgress = s.inProgress) (hm : t.mex = s.mex)
    (hf : ∀ n, ∃ f : Wafer → Wafer, t.slot n = (s.slot n).map f ∧ ∀ w, s.slot n = some w → w.Follows (f w)) :
    t.SlotsAgree := by
  obtain ⟨h1, h2, h3, h4, h5, h6⟩ := h
  have hsome : ∀ n w, t.slot n = some w → ∃ v, s.slot n = some v ∧ v.Follows w := by
    intro n w hw
    obtain ⟨f, he, hf⟩ := hf n
    rw [he] at hw
    obtain ⟨v, hv, rfl⟩ := Option.map_eq_some_iff.1 hw
    exact ⟨v, hv, hf v hv⟩
  have hstate : ∀ n x, x = .opening ∨ x = .exporting → (t.slotState n = some x ↔ s.slotState n = some x) := by
    intro n x hx
    obtain ⟨f, he, hf⟩ := hf n
    unfold State.slotState
    rw [he]
    cases hw : s.slot n with
    | none => simp
    | some w =>
      have := hf w hw
      rcases hx with rfl | rfl
      · simpa using this.opening
      · simpa using this.exporting
  refine ⟨?_, ?_, ?_, ?_, ?_, ?_⟩
  · intro n w hw
    obtain ⟨v, hv, hf⟩ := hsome n w hw
    exact hf.lawful (h1 n v hv)
  · intro n
    rw [hstate n _ (.inl rfl), State.opens_congr hp]
    exact h2 n
  · intro tag n row first base count cells hr
    rw [hp] at hr
    obtain ⟨w, hw, hfit⟩ := h3 tag n row first base count cells hr
    obtain ⟨f, he, hf⟩ := hf n
    have := hf w hw
    exact ⟨f w, by rw [he, hw]; rfl, by rw [this.rows, this.cols]; exact hfit⟩
  · intro tag; rw [hp, hm]; exact h4 tag
  · intro n
    rw [hstate n _ (.inr rfl), hm]
    exact h5 n
  · intro m w hmx hw
    rw [hm] at hmx
    obtain ⟨v, hv, hf⟩ := hsome m.slot w hw
    obtain ⟨f1, f2, f3⟩ := h6 m v hmx hv
    exact ⟨hf.exporting.2 f1, by rw [hf.spans]; exact f2, f3⟩

/-! ## What each part of the hardware makes of a slot's record -/

theorem Wafer.Lawful.of_open {v w : Wafer} (h : v.Lawful) (hn : w.number = v.number) (hc : w.cols = v.cols)
    (hr : w.rows = v.rows) (hrc : w.refCol = v.refCol) (hrr : w.refRow = v.refRow) (hs : w.spans = v.spans)
    (hg : w.gross = v.gross)
    (hcl : w.closing = if w.state = .closed ∨ w.state = .exporting then some w.totals else none) :
    w.Lawful := by
  obtain ⟨h1, h2, h3, h4, h5, h6, h7, h8, h9, h10, -⟩ := h
  unfold Wafer.Lawful
  rw [hn, hc, hr, hrc, hrr, hs, hg]
  exact ⟨h1, h2, h3, h4, h5, h6, h7, h8, h9, h10, hcl⟩

theorem Wafer.Lawful.closing_eq {w : Wafer} (h : w.Lawful) :
    w.closing = if w.state = .closed ∨ w.state = .exporting then some w.totals else none :=
  h.2.2.2.2.2.2.2.2.2.2

/-- The close of an open slot records its totals (R21, R115). -/
theorem Wafer.closed_follows {w : Wafer} (h : w.state = .opened ∨ w.state = .closing) : w.Follows w.closed := by
  refine ⟨fun hl => hl.of_open rfl rfl rfl rfl rfl rfl rfl (by simp [Wafer.closed, Wafer.totals]), rfl, rfl, rfl, ?_, ?_⟩ <;>
  · rcases h with h | h <;> simp [Wafer.closed, h]

/-- The accumulators of an open slot are no part of its closing totals. -/
theorem Wafer.acc_follows {w : Wafer} (h : w.state = .opened ∨ w.state = .closing) (a : Acc) :
    w.Follows { w with acc := a } := by
  refine ⟨fun hl => hl.of_open rfl rfl rfl rfl rfl rfl rfl ?_, rfl, rfl, rfl, .rfl, .rfl⟩
  have := hl.closing_eq
  rw [if_neg (by rcases h with h | h <;> simp [h])] at this ⊢
  exact this

/-- A damaged count is no part of closing totals (R115). -/
theorem Wafer.damaged_follows (w : Wafer) (d : Nat) :
    w.Follows { w with acc := { w.acc with damaged := d } } :=
  ⟨fun hl => hl.of_open rfl rfl rfl rfl rfl rfl rfl hl.closing_eq, rfl, rfl, rfl, .rfl, .rfl⟩

/-- A slot that becomes OPEN or CLOSING, and is neither being initialised nor EXPORTING. -/
theorem Wafer.opened_follows {w : Wafer} {x : WaferState} (h : w.state ≠ .opening ∧ w.state ≠ .exporting)
    (hx : x = .opened ∨ x = .closing) : w.Follows { w with state := x, closing := none } := by
  refine ⟨fun hl => hl.of_open rfl rfl rfl rfl rfl rfl rfl ?_, rfl, rfl, rfl, ?_, ?_⟩ <;>
  · rcases hx with rfl | rfl <;> simp [h]

theorem EngineMove.slotsAgree {g g' : Hand} {s t : State} (m : EngineMove g s g' t) (hb : s.BindingIn g)
    (h : s.SlotsAgree) : t.SlotsAgree := by
  have hp := (Move.engine m).frame.inProgress (by decide)
  have hm := (Move.engine m).frame.mex (by decide)
  cases m with
  | ends _ i =>
    refine h.of_follows hp hm fun n => ?_
    rw [State.endGroup_slot]
    split
    · rename_i hc
      refine ⟨Wafer.closed, rfl, fun w hw => Wafer.closed_follows (.inr ?_)⟩
      obtain ⟨m, hm, hcl⟩ := State.endCloses_iff.1 hc.1
      obtain rfl : m = n := by simpa [hc.2] using hm.symm
      simpa [State.slotState, hw] using hcl
    · exact ⟨id, by simp, fun w _ => .refl w⟩
  | _ => exact h.congr rfl hp hm

theorem State.slot_modAcc {s : State} (n m : SlotId) (f : Acc → Acc) :
    (s.modAcc n f).slot m = (s.slot m).map fun w => if n = m then { w with acc := f w.acc } else w := by
  unfold State.modAcc
  rw [State.slot_modWafer]
  split
  · rename_i e; subst e; rfl
  · simp

/-- The accumulators of a slot after an applied entry (R87, R90, R91). -/
def Acc.applied (p : Plan) (e : Entry) (f : Acc → Acc) (a : Acc) : Acc :=
  (f a).site e.site (SiteTriple.test (decide (p.cls e.bin = .pass)))

theorem State.slot_applyItem {s : State} (n : SlotId) (i : StationId) (p : Plan) (e : Entry) (c : CellRecord)
    (f : Acc → Acc) (m : SlotId) : (s.applyItem n i p e c f).slot m =
      (s.slot m).map fun w => if n = m then { w with acc := Acc.applied p e f w.acc } else w := by
  have h : (s.applyItem n i p e c f).slot m = (((s.writeCell n e.cell c).modAcc n f).modAcc n
      (Acc.site e.site (SiteTriple.test (decide (p.cls e.bin = .pass))))).slot m := rfl
  rw [h, State.slot_modAcc, State.slot_modAcc, Option.map_map]
  refine congrArg (fun g => Option.map g (s.slot m)) (funext fun w => ?_)
  simp only [Function.comp]
  split <;> rfl

/-- The accumulators that a commit and an expiry touch are those of a bound slot (R54, R69). -/
theorem AccountMove.slot_eq {g g' : Hand} {s t : State} (m : AccountMove g s g' t) :
    ∃ i b, (s.station i).binding = some b ∧ ∃ f : Acc → Acc, ∀ k,
      t.slot k = (s.slot k).map fun w => if b.slot = k then { w with acc := f w.acc } else w := by
  cases m with
  | voids _ i f o l b k hb => exact ⟨i, b, hb, Acc.site k SiteTriple.void, fun j => State.slot_modAcc b.slot j _⟩
  | first _ i f o e es b gr hb => exact ⟨i, b, hb, Acc.applied _ e _, fun j => State.slot_applyItem _ _ _ _ _ _ j⟩
  | retest _ i f o e es b gr final first count k st hb =>
    exact ⟨i, b, hb, Acc.applied _ e _, fun j => State.slot_applyItem _ _ _ _ _ _ j⟩
  | timeout _ i f o l b hb => exact ⟨i, b, hb, Acc.timeout, fun j => State.slot_modAcc b.slot j _⟩

theorem State.BindingIn.open_of_bound {g : Hand} {s : State} (h : s.BindingIn g) {i : StationId} {b : Binding}
    (hb : (s.station i).binding = some b) {w : Wafer} (hw : s.slot b.slot = some w) :
    w.state = .opened ∨ w.state = .closing := by
  have := h.bound i b.slot (by simp [Station.bound, hb])
  simpa [State.slotState, hw] using this

theorem AccountMove.slotsAgree {g g' : Hand} {s t : State} (m : AccountMove g s g' t) (hb : s.BindingIn g)
    (h : s.SlotsAgree) : t.SlotsAgree := by
  obtain ⟨i, b, hib, f, hf⟩ := m.slot_eq
  refine h.of_follows ((Move.accounts m).frame.inProgress (by decide)) ((Move.accounts m).frame.mex (by decide))
    fun k => ⟨_, hf k, fun w hw => ?_⟩
  split
  · rename_i e
    subst e
    exact Wafer.acc_follows (hb.open_of_bound hib hw) _
  · exact .refl w

/-- A read touches of a slot's record the damaged count alone (R98). -/
theorem CellMove.slot_eq {g : Hand} {s t : State} (m : CellMove g s t) (n : SlotId) :
    ∃ d : Wafer → Nat, t.slot n = (s.slot n).map fun w => { w with acc := { w.acc with damaged := d w } } := by
  cases m with
  | upset us =>
    obtain ⟨me, e, -⟩ := State.upset_form us s
    exact ⟨fun w => w.acc.damaged, by rw [e]; simp [State.slot]⟩
  | read k x => exact State.readCell_slot k n x s

theorem CellMove.slotsAgree {g : Hand} {s t : State} (m : CellMove g s t) (h : s.SlotsAgree) :
    t.SlotsAgree := by
  refine h.of_follows ((Move.cells m).frame.inProgress (by decide)) ((Move.cells m).frame.mex (by decide))
    fun n => ?_
  obtain ⟨d, hd⟩ := m.slot_eq n
  exact ⟨_, hd, fun w _ => Wafer.damaged_follows w _⟩

/-- The count of a CELL_READ stays inside the row (R103). -/
theorem cellCount_fits {cols first count : Nat} (h : first < cols) :
    1 ≤ cellCount cols first count ∧ first + cellCount cols first count ≤ cols := by
  unfold cellCount
  split
  · omega
  · split <;> omega

theorem HostMove.slotsAgree {s t : State} (m : HostMove s t) (h : s.SlotsAgree) : t.SlotsAgree := by
  have hs : t.slots = s.slots := (Move.host .idle m).frame.slots (by decide)
  have hm : t.mex = s.mex := (Move.host .idle m).frame.mex (by decide)
  have keep : t.inProgress = s.inProgress → t.SlotsAgree := fun hp => h.congr hs hp hm
  obtain ⟨h1, h2, h3, h4, h5, h6⟩ := h
  have hnone : s.inProgress = none → s.opens = none := fun hp => by unfold State.opens; rw [hp]
  cases m with
  | immediate f =>
    obtain ⟨r, e⟩ := State.immediate_form f s
    exact keep (by rw [e])
  | addCause c => exact keep (State.addCause_inProgress c s)
  | restartWaits tag hp hw =>
    refine ⟨h1, fun n => ?_, by simp, by simp, h5, h6⟩
    rw [show ({ s with inProgress := some (.restarting tag) } : State).opens = s.opens from (hnone hp).symm]
    exact h2 n
  | readBegins tag n w row first count hp hw hs' hr hf =>
    obtain ⟨hc1, hc2⟩ := cellCount_fits (count := count) hf
    refine ⟨h1, fun k => ?_, ?_, by simp, h5, h6⟩
    · rw [show State.opens { s with inProgress := some (.reading tag n row first (row * w.cols + first)
        (cellCount w.cols first count) []) } = s.opens from (hnone hp).symm]
      exact h2 k
    · intro _ _ _ _ _ _ _ e
      cases e
      exact ⟨w, hs', hr, hc2, rfl, hc1, Nat.zero_le _⟩
  | readOn tag n row first base count cells c hp hc =>
    refine ⟨h1, fun k => ?_, ?_, by simp, h5, h6⟩
    · rw [show State.opens { s with inProgress := some (.reading tag n row first base count (cells ++ [c])) } =
        s.opens by unfold State.opens; rw [hp]]
      exact h2 k
    · intro _ _ _ _ _ _ _ e
      cases e
      obtain ⟨w, hw, f1, f2, f3, f4, -⟩ := h3 _ _ _ _ _ _ _ hp
      exact ⟨w, hw, f1, f2, f3, f4, by simp only [List.length_append, List.length_singleton]; omega⟩
  | completes p f hp hpo =>
    have hop : s.opens = none := by
      cases ho : s.opens with
      | none => rfl
      | some n =>
        obtain ⟨tag, e⟩ := State.opens_eq_some.1 ho
        rw [hp] at e
        exact absurd (Option.some.inj e) (hpo tag n)
    have hnp : (({ s with inProgress := none } : State).makeReady (.reply false f)).inProgress = none := rfl
    refine ⟨h1, fun k => ?_, ?_, ?_, h5, h6⟩
    · rw [show State.opens (({ s with inProgress := none } : State).makeReady (.reply false f)) = s.opens
        from hop.symm]
      exact h2 k
    · intro _ _ _ _ _ _ _ e; rw [hnp] at e; cases e
    · intro _ e; rw [hnp] at e; cases e
  | _ => exact keep rfl

/-! ## The end of an EXPORTING slot -/

/-- The record of the exported slot when its EXPORTING ends. -/
theorem Wafer.endExport_lawful {w : Wafer} (h : w.Lawful) : w.endExport.Lawful := by
  unfold Wafer.endExport
  split
  · rename_i hx
    refine h.of_open rfl rfl rfl rfl rfl rfl rfl ?_
    have := h.closing_eq
    rw [if_pos (.inr hx)] at this
    rw [if_pos (.inl rfl)]
    exact this
  · exact h

theorem Wafer.endExport_state_ne (w : Wafer) : w.endExport.state ≠ .exporting := by
  unfold Wafer.endExport
  split
  · simp
  · rename_i h; exact h

theorem Wafer.endExport_form (w : Wafer) : ∃ x, w.endExport = { w with state := x } := by
  unfold Wafer.endExport
  split <;> exact ⟨_, rfl⟩

theorem State.endExport_slot {s : State} {m : Mex} (hm : s.mex = some m) (n : SlotId) :
    s.endExport.slot n = (s.slot n).map fun w => if m.slot = n then w.endExport else w := by
  unfold State.endExport
  rw [hm]
  dsimp only
  rw [State.slot_modWafer]
  split
  · rename_i e; subst e; rfl
  · simp [State.slot]

/-- The end of EXPORTING leaves no slot EXPORTING and the unit IDLE. -/
theorem State.SlotsAgree.endExport {s t : State} (h : s.SlotsAgree)
    (hp : t.inProgress = s.inProgress ∨ (t.inProgress = none ∧ s.opens = none))
    (hns : ∀ tag, t.inProgress ≠ some (.stopping tag)) (hm : t.mex = none)
    (hs : ∀ n, t.slot n = s.endExport.slot n) : t.SlotsAgree := by
  cases hmx : s.mex with
  | none =>
    have he : s.endExport = s := by unfold State.endExport; rw [hmx]
    rw [he] at hs
    obtain ⟨h1, h2, h3, h4, h5, h6⟩ := h
    have hst : ∀ n, t.slotState n = s.slotState n := fun n => by unfold State.slotState; rw [hs]
    have hop : t.opens = s.opens := by
      rcases hp with hp | ⟨hp, ho⟩
      · exact State.opens_congr hp
      · rw [ho]; unfold State.opens; rw [hp]
    refine ⟨fun n w => by rw [hs]; exact h1 n w, fun n => by rw [hst, hop]; exact h2 n, ?_,
      fun tag e => absurd e (hns tag), fun n => by rw [hst, hm, ← hmx]; exact h5 n, by simp [hm]⟩
    intro tag n row first base count cells e
    rcases hp with hp | ⟨hp, -⟩
    · rw [hs]; rw [hp] at e; exact h3 tag n row first base count cells e
    · rw [hp] at e; cases e
  | some m =>
    obtain ⟨h1, h2, h3, h4, h5, h6⟩ := h
    have hslot : ∀ n, t.slot n = (s.slot n).map fun w => if m.slot = n then w.endExport else w :=
      fun n => (hs n).trans (State.endExport_slot hmx n)
    have hex : ∀ n w, s.slot n = some w → w.state = .exporting → m.slot = n := by
      intro n w hw hx
      have := (h5 n).1 (by simp [State.slotState, hw, hx])
      rw [hmx] at this
      simpa using this
    have hop : t.opens = s.opens := by
      rcases hp with hp | ⟨hp, ho⟩
      · exact State.opens_congr hp
      · rw [ho]; unfold State.opens; rw [hp]
    refine ⟨?_, ?_, ?_, fun tag e => absurd e (hns tag), ?_, by simp [hm]⟩
    · intro n w hw
      rw [hslot] at hw
      obtain ⟨v, hv, rfl⟩ := Option.map_eq_some_iff.1 hw
      split
      · exact Wafer.endExport_lawful (h1 n v hv)
      · exact h1 n v hv
    · intro n
      rw [hop, ← h2 n]
      unfold State.slotState
      rw [hslot, Option.map_map]
      cases hw : s.slot n with
      | none => simp
      | some w =>
        simp only [Option.map_some, Function.comp, Option.some.injEq]
        unfold Wafer.endExport
        split
        · split
          · rename_i hx; simp [hx]
          · rfl
        · rfl
    · intro tag n row first base count cells e
      rcases hp with hp | ⟨hp, -⟩
      · rw [hp] at e
        obtain ⟨w, hw, hfit⟩ := h3 tag n row first base count cells e
        refine ⟨if m.slot = n then w.endExport else w, by rw [hslot, hw]; rfl, ?_⟩
        obtain ⟨x, hx⟩ := w.endExport_form
        split
        · rw [hx]; exact hfit
        · exact hfit
      · rw [hp] at e; cases e
    · intro n
      rw [hm]
      simp only [Option.map_none, reduceCtorEq, iff_false]
      unfold State.slotState
      rw [hslot, Option.map_map]
      cases hw : s.slot n with
      | none => simp
      | some w =>
        simp only [Option.map_some, Function.comp, Option.some.injEq]
        split
        · exact w.endExport_state_ne
        · rename_i hne
          exact fun hx => hne (hex n w hw hx)

end Sys2Proof.Machine
end

section
/-! PROOF. Every move keeps the slots, the request in progress and the Map Export Unit in agreement. -/

namespace Sys2Proof.Machine

theorem State.opens_of_none {s : State} (h : s.inProgress = none) : s.opens = none := by
  unfold State.opens; rw [h]

theorem State.slotState_of_slot {s : State} {n : SlotId} {w : Wafer} (h : s.slot n = some w) :
    s.slotState n = some w.state := by
  unfold State.slotState; rw [h]; rfl

theorem State.slot_of_slotState {s : State} {n : SlotId} {x : WaferState} (h : s.slotState n = some x) :
    ∃ w, s.slot n = some w ∧ w.state = x := Option.map_eq_some_iff.1 h

/-! ## The requests of Section 1.3 -/

/-- A slot that was not being initialised, and no request in progress, leaves the law. -/
theorem State.SlotsAgree.of_setSlot {s t : State} (h : s.SlotsAgree) {n : SlotId} {x : Option Wafer}
    (hs : ∀ k, t.slot k = if n = k then x else s.slot k) (hp : s.inProgress = none)
    (hp' : t.inProgress = none) (hm : t.mex = s.mex)
    (hold : s.slotState n ≠ some .exporting) (hnew : ∀ w, x = some w → w.Lawful ∧ w.state ≠ .opening ∧
      w.state ≠ .exporting) : t.SlotsAgree := by
  obtain ⟨h1, h2, h3, h4, h5, h6⟩ := h
  have hss : ∀ k, t.slotState k = if n = k then x.map Wafer.state else s.slotState k := by
    intro k
    unfold State.slotState
    rw [hs]
    split <;> rfl
  refine ⟨?_, ?_, by simp [hp'], by simp [hp'], ?_, ?_⟩
  · intro k w hw
    rw [hs] at hw
    split at hw
    · exact (hnew w hw).1
    · exact h1 k w hw
  · intro k
    rw [State.opens_of_none hp', hss]
    split
    · simp only [Option.map_eq_some_iff, reduceCtorEq, iff_false, not_exists, not_and]
      exact fun w hw => (hnew w hw).2.1
    · rw [h2 k, State.opens_of_none hp]
  · intro k
    rw [hss, hm, ← h5 k]
    split
    · rename_i e
      subst e
      refine iff_of_false ?_ hold
      simp only [Option.map_eq_some_iff, not_exists, not_and]
      exact fun w hw => (hnew w hw).2.2
    · rfl
  · intro m w hmx hw
    rw [hm] at hmx
    rw [hs, if_neg] at hw
    · exact h6 m w hmx hw
    · rintro e
      exact hold (e ▸ (h5 m.slot).2 (by rw [hmx]; rfl))

theorem SlotMove.slotsAgree {s t : State} (m : SlotMove s t) (h : s.SlotsAgree) : t.SlotsAgree := by
  cases m with
  | initialised tag n f hp =>
    have hsn : s.slotState n = some .opening := (h.opening n).2 (State.opens_eq_some.2 ⟨tag, hp⟩)
    obtain ⟨w, hw, hst⟩ := State.slot_of_slotState hsn
    have hslot : ∀ k, ((({ s with inProgress := none } : State).modWafer n fun w =>
        { w with state := .opened }).makeReady (.reply false f)).slot k =
        if n = k then some { w with state := .opened } else s.slot k := by
      intro k
      rw [State.makeReady_slot, State.slot_modWafer, show ({ s with inProgress := none } : State).slot n = some w from hw]
      rfl
    obtain ⟨h1, h2, h3, h4, h5, h6⟩ := h
    have hne : ∀ k, n ≠ k → s.slotState k ≠ some .opening := by
      intro k hk hs
      have := (h2 k).1 hs
      rw [State.opens_eq_some.2 ⟨tag, hp⟩] at this
      exact hk (Option.some.inj this)
    have hss : ∀ k, ((({ s with inProgress := none } : State).modWafer n fun w =>
        { w with state := .opened }).makeReady (.reply false f)).slotState k =
        if n = k then some .opened else s.slotState k := by
      intro k
      unfold State.slotState
      rw [hslot]
      split <;> rfl
    refine ⟨?_, ?_, by simp, by simp, ?_, ?_⟩
    · intro k v hv
      rw [hslot] at hv
      split at hv
      · obtain rfl := Option.some.inj hv
        refine (h1 n w hw).of_open rfl rfl rfl rfl rfl rfl rfl ?_
        have := (h1 n w hw).closing_eq
        rw [if_neg (by simp [hst])] at this
        simpa using this
      · exact h1 k v hv
    · intro k
      rw [State.opens_of_none rfl, hss]
      split
      · simp
      · rename_i hk
        simpa using hne k hk
    · intro k
      rw [hss]
      split
      · rename_i e
        subst e
        refine iff_of_false (by simp) fun hx => ?_
        have := (h5 n).2 hx
        rw [hsn] at this
        cases this
      · exact h5 k
    · intro m v hm hv
      have hx : s.slotState m.slot = some .exporting := (h5 m.slot).2 (by rw [show s.mex = some m from hm]; rfl)
      rw [hslot, if_neg] at hv
      · exact h6 m v hm hv
      · intro e
        rw [← e, hsn] at hx
        cases hx
  | closes n ho hg =>
    rw [State.slotIs_iff_slotState] at ho
    obtain ⟨w, hw, hst⟩ := State.slot_of_slotState ho
    have hfr := (Move.slots (SlotMove.closes s n (State.slotIs_iff_slotState.2 ho) hg)).frame
    refine h.of_follows (State.completeClose_inProgress n false s) (hfr.mex (by decide)) fun k => ?_
    rw [State.completeClose_slot hw]
    split
    · rename_i e
      subst e
      rw [hw]
      exact ⟨Wafer.closed, rfl, fun v hv => Option.some.inj hv ▸ Wafer.closed_follows (.inl hst)⟩
    · exact ⟨id, by simp, fun v _ => .refl v⟩
  | waits n ho hg =>
    rw [State.slotIs_iff_slotState] at ho
    obtain ⟨w, hw, hst⟩ := State.slot_of_slotState ho
    refine h.of_follows rfl rfl fun k => ?_
    rw [State.slot_modWafer]
    split
    · rename_i e
      subst e
      rw [hw]
      refine ⟨fun w => { w with state := .closing, closing := none }, ?_, fun v hv => ?_⟩
      · have := (h.lawful n w hw).closing_eq
        rw [if_neg (by simp [hst])] at this
        simp [this]
      · obtain rfl := Option.some.inj hv
        exact Wafer.opened_follows (by simp [hst]) (.inr rfl)
    · exact ⟨id, by simp, fun v _ => .refl v⟩
  | reopens n w e hw hc he hl =>
    refine h.of_follows rfl rfl fun k => ?_
    unfold State.reopen
    rw [State.slot_setSlot, State.modLot_slot]
    split
    · rename_i e'
      subst e'
      rw [hw]
      refine ⟨fun w => { w with state := .opened, closing := none }, rfl, fun v hv => ?_⟩
      obtain rfl := Option.some.inj hv
      exact Wafer.opened_follows (by simp [hc]) (.inl rfl)
    · exact ⟨id, by simp, fun v _ => .refl v⟩
  | frees n hc hp =>
    rw [State.slotIs_iff_slotState] at hc
    exact h.of_setSlot (State.slot_setSlot s n · none) hp hp rfl (by simp [hc]) (by simp)

/-! ## WAFER_OPEN -/

theorem Wafer.new_lawful {l : Lot} {p : List Byte} (hg : gridValid l p = true) (he : l.expected ≤ 50)
    (hv : outlineValid p = true) : (Wafer.new l.id p).Lawful := by
  simp only [gridValid, outlineValid, Bool.and_eq_true, decide_eq_true_eq] at hg hv
  obtain ⟨⟨⟨⟨⟨g1, g2⟩, g3⟩, g4⟩, g5⟩, g6⟩ := hg
  obtain ⟨⟨v1, v2⟩, v3⟩ := hv
  exact ⟨g1, g2.trans he, g3, g4, g5, g6, v2, v3, v1, rfl, by simp [Wafer.new]⟩

theorem OpenMove.slotsAgree {s t : State} (m : OpenMove s t)
    (he : ∀ (e : Fin 16) l, s.lots[e] = some l → l.expected ≤ 50) (h : s.SlotsAgree) : t.SlotsAgree := by
  cases m with
  | takes n e l tag p hp hw hf hl ho hg hx hv hn =>
    obtain ⟨h1, h2, h3, h4, h5, h6⟩ := h
    have hslot := State.takeSlot_slot n e tag (Wafer.new l.id p) s
    have hss := State.takeSlot_slotState n e tag (Wafer.new l.id p) s
    rw [show (Wafer.new l.id p).state = .opening from rfl] at hss
    have hnp : (s.takeSlot n e tag (Wafer.new l.id p)).inProgress = some (.opening tag n) := rfl
    have hmx := State.takeSlot_mex n e tag (Wafer.new l.id p) s
    have hnst : s.slotState n = none := by simp [State.slotState, hn]
    refine ⟨?_, ?_, ?_, ?_, ?_, ?_⟩
    · intro k w hk
      rw [hslot] at hk
      split at hk
      · obtain rfl := Option.some.inj hk
        exact Wafer.new_lawful hg (he e l hl) hv
      · exact h1 k w hk
    · intro k
      rw [hss, State.opens_eq_some.2 ⟨tag, hnp⟩]
      split
      · rename_i e; subst e; simp
      · rename_i hk
        rw [h2 k, State.opens_of_none hp]
        simp [hk]
    · intro _ _ _ _ _ _ _ hr; rw [hnp] at hr; cases hr
    · intro _ hr; rw [hnp] at hr; cases hr
    · intro k
      rw [hss, hmx]
      split
      · rename_i e
        subst e
        refine iff_of_false (by simp) fun hx => ?_
        have := (h5 n).2 hx
        rw [hnst] at this
        cases this
      · exact h5 k
    · intro m w hm hw
      rw [hmx] at hm
      rw [hslot, if_neg] at hw
      · exact h6 m w hm hw
      · intro e'
        have hx : s.slotState m.slot = some .exporting := (h5 m.slot).2 (by rw [hm]; rfl)
        rw [← e', hnst] at hx
        cases hx

/-! ## The Map Export Unit -/

theorem State.exportStops_eq_false {s : State} (h : s.exportStops = false) (tag : Byte) :
    s.inProgress ≠ some (.stopping tag) := by
  intro hp
  simp [State.exportStops, hp] at h

/-- The end of EXPORTING leaves the unit IDLE (Table 8.1). -/
@[simp] theorem State.haltExport_mex (s : State) : s.haltExport.mex = none := by
  unfold State.haltExport State.endExport
  split
  · rename_i h; exact h
  · rfl

/-- The unit's fields change, its slot does not. -/
theorem State.SlotsAgree.of_mex {s t : State} (h : s.SlotsAgree) {m m' : Mex} (hm : s.mex = some m)
    (hm' : t.mex = some m') (hslot : m'.slot = m.slot) (hs : t.slots = s.slots) (hp : t.inProgress = s.inProgress)
    (hstop : ∀ tag, s.inProgress = some (.stopping tag) → m'.offered = none ∧ 0 < m'.position)
    (hfit : ∀ w, m.Fits w → m'.Fits w) : t.SlotsAgree := by
  obtain ⟨h1, h2, h3, h4, h5, h6⟩ := h
  have hsl := State.slot_congr hs
  have hst := State.slotState_congr hs
  refine ⟨?_, ?_, ?_, ?_, ?_, ?_⟩
  · intro n w; rw [hsl]; exact h1 n w
  · intro n; rw [hst, State.opens_congr hp]; exact h2 n
  · intro tag n row first base count cells
    rw [hp, hsl]
    exact h3 tag n row first base count cells
  · intro tag ht
    rw [hp] at ht
    exact ⟨m', hm', hstop tag ht⟩
  · intro n
    rw [hst, hm', h5 n, hm]
    simp [hslot]
  · intro x w hx hw
    obtain rfl : m' = x := by rw [hm'] at hx; exact Option.some.inj hx
    rw [hsl, hslot] at hw
    exact hfit w (h6 m w hm hw)

theorem MexMove.slotsAgree {s t : State} (m : MexMove s t) (h : s.SlotsAgree) : t.SlotsAgree := by
  cases m with
  | starts n w d k hm hw hc hk =>
    obtain ⟨h1, h2, h3, h4, h5, h6⟩ := h
    have hslot : ∀ j, (({ s with mex := some ⟨false, n, d, w.spans.length, 0, k, none⟩ } : State).setSlot n
        (some { w with state := .exporting })).slot j =
        if n = j then some { w with state := .exporting } else s.slot j := fun j => State.slot_setSlot _ n j _
    have hss : ∀ j, (({ s with mex := some ⟨false, n, d, w.spans.length, 0, k, none⟩ } : State).setSlot n
        (some { w with state := .exporting })).slotState j =
        if n = j then some .exporting else s.slotState j := by
      intro j
      unfold State.slotState
      rw [hslot]
      split <;> rfl
    have hsn : s.slotState n = some .closed := by rw [State.slotState_of_slot hw, hc]
    have hnone : ∀ j, s.slotState j ≠ some .exporting := by
      intro j hj
      have := (h5 j).1 hj
      rw [hm] at this
      cases this
    refine ⟨?_, ?_, ?_, ?_, ?_, ?_⟩
    · intro j v hv
      rw [hslot] at hv
      split at hv
      · obtain rfl := Option.some.inj hv
        refine (h1 n w hw).of_open rfl rfl rfl rfl rfl rfl rfl ?_
        have := (h1 n w hw).closing_eq
        rw [if_pos (.inl hc)] at this
        simpa [Wafer.totals] using this
      · exact h1 j v hv
    · intro j
      rw [hss]
      refine Iff.trans ?_ (h2 j)
      split
      · rename_i e; subst e; simp [hsn]
      · rfl
    · intro tag j row first base count cells hr
      obtain ⟨v, hv, hfit⟩ := h3 tag j row first base count cells hr
      rw [hslot]
      split
      · rename_i e
        subst e
        obtain rfl : w = v := by rw [hw] at hv; exact Option.some.inj hv
        exact ⟨_, rfl, hfit⟩
      · exact ⟨v, hv, hfit⟩
    · intro tag ht
      obtain ⟨m, hm', -⟩ := h4 tag ht
      rw [hm] at hm'
      cases hm'
    · intro j
      rw [hss]
      simp only [State.setSlot_mex, Option.map_some, Option.some.injEq]
      split
      · rename_i e; simp [e]
      · rename_i e; exact iff_of_false (hnone j) e
    · intro x v hx hv
      obtain rfl := Option.some.inj hx
      rw [hslot, if_pos rfl] at hv
      obtain rfl := Option.some.inj hv
      exact ⟨rfl, rfl, Nat.zero_le _, hk, by simp, by simp [Mex.offersSegment]⟩
  | refills m k hm hp hk =>
    refine h.of_mex hm rfl rfl rfl rfl (fun tag ht => by rw [hp] at ht; cases ht) ?_
    rintro w ⟨f1, f2, f3, f4, f5, f6⟩
    exact ⟨f1, f2, f3, hk, by simp, f6⟩
  | stopWaits m tag hm hp hw hs =>
    have hbase : ({ s with mex := some { m with offered := none } } : State).SlotsAgree := by
      refine h.of_mex hm rfl rfl rfl rfl (fun tag ht => by rw [hp] at ht; cases ht) ?_
      rintro w ⟨f1, f2, f3, f4, f5, f6⟩
      exact ⟨f1, f2, f3, f4, fun hx => ⟨rfl, (f5 hx).2⟩, by simp [Mex.offersSegment]⟩
    obtain ⟨h1, h2, h3, h4, h5, h6⟩ := hbase
    have hop := State.opens_of_none (s := { s with mex := some { m with offered := none } }) hp
    refine ⟨h1, fun n => ?_, by simp, fun _ _ => ⟨_, rfl, rfl, hs⟩, h5, h6⟩
    rw [show State.opens { s with mex := some { m with offered := none }, inProgress := some (.stopping tag) } =
      none from rfl, ← hop]
    exact h2 n
  | halts hp => exact h.endExport (.inl (by obtain ⟨_, _, _, e⟩ := State.haltExport_form s; rw [e])) (fun tag => by
      obtain ⟨_, _, _, e⟩ := State.haltExport_form s; rw [e]; exact hp tag) (State.haltExport_mex s) fun _ => rfl
  | stops tag f hp =>
    obtain ⟨_, _, _, e⟩ := State.haltExport_form { s with inProgress := none }
    have hnp : (({ s with inProgress := none } : State).haltExport.makeReady (.reply false f)).inProgress = none := by
      rw [State.makeReady_inProgress, e]
    refine h.endExport (.inr ⟨hnp, ?_⟩) (fun tag => by rw [hnp]; simp) ?_ fun n => ?_
    · unfold State.opens; rw [hp]
    · rw [State.makeReady_mex]; exact State.haltExport_mex _
    · rw [State.makeReady_slot]
      show State.slot { s with inProgress := none }.endExport n = _
      unfold State.endExport
      cases hm : s.mex <;> rfl
  | offersSegment m f hm hb hp =>
    simp only [Mex.mayBuild, Bool.and_eq_true, Bool.not_eq_true', decide_eq_true_eq] at hb
    obtain ⟨⟨⟨b1, b2⟩, b3⟩, b4⟩ := hb
    refine h.of_mex hm rfl rfl rfl rfl (fun tag ht => absurd ht (State.exportStops_eq_false hp tag)) ?_
    rintro w ⟨f1, f2, f3, f4, f5, f6⟩
    exact ⟨f1, f2, f3, f4, by simp [b1], fun _ => b4⟩
  | offersEnd m f hm hw hp =>
    refine h.of_mex hm rfl rfl rfl rfl (fun tag ht => absurd ht (State.exportStops_eq_false hp tag)) ?_
    rintro w ⟨f1, f2, f3, f4, f5, f6⟩
    exact ⟨f1, f2, f3, f4, by simp [hw], by simp [Mex.offersSegment]⟩
  | segmentTaken m f hm ho =>
    refine h.of_mex hm rfl rfl rfl rfl (fun tag ht => ?_) ?_
    · obtain ⟨x, hx, hno, -⟩ := h.stop tag ht
      rw [hm] at hx
      obtain rfl := Option.some.inj hx
      rw [ho] at hno
      cases hno
    · rintro w ⟨f1, f2, f3, f4, f5, f6⟩
      have hlt := f6 (by simp [Mex.offersSegment, ho])
      refine ⟨f1, f2, ?_, ?_, ?_, by simp [Mex.offersSegment, Mex.taken]⟩
      · simp only [Mex.taken]; omega
      · simp only [Mex.taken]; omega
      · intro hx
        have := of_decide_eq_true hx
        exact ⟨rfl, this⟩
  | endTaken m f hm ho =>
    obtain ⟨_, _, e⟩ := State.endExport_form s
    refine h.endExport (.inl (by rw [e])) (fun tag ht => ?_) ?_ fun _ => rfl
    · rw [e] at ht
      obtain ⟨x, hx, hno, -⟩ := h.stop tag ht
      rw [hm] at hx
      obtain rfl := Option.some.inj hx
      rw [ho] at hno
      cases hno
    · unfold State.endExport
      rw [hm]
      rfl

theorem State.reset_slotsAgree : State.reset.SlotsAgree := by
  rw [State.slotsAgree_iff]
  refine ⟨?_, ?_, ?_, ?_, ?_, ?_⟩ <;>
    simp [State.reset, State.slot, State.slotIs, State.opens, State.readFits, State.stopFits]

/-- Every move keeps the slots, the request in progress and the Map Export Unit in agreement, where bindings
keep their law and no lot expects more wafers than 50. -/
theorem Move.slotsAgree {d : Domain} {g g' : Hand} {s t : State} (m : Move d g s g' t) (hb : s.BindingIn g)
    (he : ∀ (e : Fin 16) l, s.lots[e] = some l → l.expected ≤ 50) (h : s.SlotsAgree) : t.SlotsAgree := by
  cases m with
  | host _ m => exact m.slotsAgree h
  | engine m => exact m.slotsAgree hb h
  | restart m =>
    cases m with
    | stations => exact h.congr rfl rfl rfl
    | closes n hg =>
      rw [State.finishClosing_of_not (hb.not_closing hg n)]
      exact h
  | accounts m => exact m.slotsAgree hb h
  | cells m => exact m.slotsAgree h
  | slots m => exact m.slotsAgree h
  | opens m => exact m.slotsAgree he h
  | mex m => exact m.slotsAgree h
  | reset m =>
    cases m
    exact State.reset_slotsAgree.congr rfl rfl rfl
  | alarms m =>
    have hf := (Move.alarms m).frame
    exact h.congr (hf.slots (by decide)) (hf.inProgress (by decide)) (hf.mex (by decide))
  | link _ m =>
    have hf := (Move.link g m).frame
    exact h.congr (hf.slots (by decide)) (hf.inProgress (by decide)) (hf.mex (by decide))
  | control | tick => exact h.congr rfl rfl rfl
  | plans m | classes m | rules m | settings m | lots m => cases m <;> exact h.congr rfl rfl rfl

end Sys2Proof.Machine
end

section
/-! PROOF. The law of the lots, over what it reads of the state. -/

namespace Sys2Proof.Machine

/-! ## Sums over the slots -/

theorem sum_map_filterMap {α β : Type} (l : List α) (g : α → Option β) (f : β → Nat) :
    ((l.filterMap g).map f).sum = (l.map fun a => ((g a).map f).getD 0).sum := by
  induction l with
  | nil => rfl
  | cons a l ih =>
    cases h : g a with
    | none => simp [List.filterMap_cons_none h, ih, h]
    | some b => simp [List.filterMap_cons_some h, ih, h]

theorem length_filter_eq_sum {α : Type} (l : List α) (p : α → Bool) :
    (l.filter p).length = (l.map fun a => if p a = true then 1 else 0).sum := by
  induction l with
  | nil => rfl
  | cons a l ih => cases h : p a <;> simp [h, ih, Nat.add_comm]

/-- A sum over a list without repeats, of which one summand changes. -/
theorem sum_map_change {α : Type} {l : List α} (hl : l.Nodup) {a : α} (ha : a ∈ l) {f g : α → Nat}
    (h : ∀ b, b ≠ a → f b = g b) : (l.map f).sum + g a = (l.map g).sum + f a := by
  induction l with
  | nil => cases ha
  | cons b l ih =>
    obtain ⟨hb, hl⟩ := List.nodup_cons.1 hl
    simp only [List.map_cons, List.sum_cons]
    rcases List.mem_cons.1 ha with rfl | ha
    · have : l.map f = l.map g := List.map_congr_left fun x hx => h x (by rintro rfl; exact hb hx)
      rw [this]
      omega
    · have := ih hl ha
      have hne := h b (by rintro rfl; exact hb ha)
      omega

/-- The sum over the slots. -/
def slotSum (f : SlotId → Nat) : Nat := ((List.finRange 32).map f).sum

theorem slotSum_change {n : SlotId} {f g : SlotId → Nat} (h : ∀ m, m ≠ n → f m = g m) :
    slotSum f + g n = slotSum g + f n :=
  sum_map_change (List.nodup_finRange 32) (List.mem_finRange n) h

theorem le_slotSum (f : SlotId → Nat) (n : SlotId) : f n ≤ slotSum f :=
  List.le_sum_of_mem (List.mem_map.2 ⟨n, List.mem_finRange n, rfl⟩)

theorem slotSum_congr {f g : SlotId → Nat} (h : ∀ m, f m = g m) : slotSum f = slotSum g := by
  unfold slotSum
  rw [List.map_congr_left fun m _ => h m]

/-! ## What a lot reads of a slot -/

/-- The slot is in CLOSED or EXPORTING. -/
def Wafer.done (w : Wafer) : Prop := w.state = .closed ∨ w.state = .exporting

theorem Wafer.isActive_iff (id : LotId) (w : Wafer) : w.isActive id = true ↔ w.lot = id ∧ ¬ w.done := by
  unfold Wafer.isActive Wafer.done
  cases w.state <;> simp

/-- One where a slot counts for its lot (R4). -/
def activeOf (id : LotId) (x : Option Wafer) : Nat := if x.any (Wafer.isActive id) = true then 1 else 0

/-- One of the figures of closing totals (R115). -/
inductive Figure where
  | tested | passed | gross
  | bin (b : Bin)

def Totals.figure (F : Figure) (t : Totals) : Nat :=
  match F with
  | .tested => t.tested
  | .passed => t.passed
  | .gross => t.gross
  | .bin b => t.hist[b]

/-- What of a slot stands in a figure of its lot's totals (R115). -/
def heldOf (id : LotId) (F : Figure) (x : Option Wafer) : Nat :=
  ((x.bind fun w => if w.lot = id then w.closing else none).map (Totals.figure F)).getD 0

@[simp] theorem activeOf_none (id : LotId) : activeOf id none = 0 := rfl
@[simp] theorem heldOf_none (id : LotId) (F : Figure) : heldOf id F none = 0 := rfl

theorem activeOf_of_not_done {id : LotId} {w : Wafer} (hl : w.lot = id) (hd : ¬ w.done) :
    activeOf id (some w) = 1 := by
  have : w.isActive id = true := (w.isActive_iff id).2 ⟨hl, hd⟩
  simp [activeOf, this]

theorem activeOf_of_done {id : LotId} {w : Wafer} (hd : w.done) : activeOf id (some w) = 0 := by
  have : ¬ w.isActive id = true := fun h => ((w.isActive_iff id).1 h).2 hd
  simp [activeOf, this]

theorem activeOf_of_ne {id : LotId} {w : Wafer} (hl : w.lot ≠ id) : activeOf id (some w) = 0 := by
  have : ¬ w.isActive id = true := fun h => hl ((w.isActive_iff id).1 h).1
  simp [activeOf, this]

theorem heldOf_of_ne {id : LotId} {w : Wafer} (F : Figure) (hl : w.lot ≠ id) :
    heldOf id F (some w) = 0 := by
  simp [heldOf, hl]

theorem heldOf_some {w : Wafer} (F : Figure) :
    heldOf w.lot F (some w) = (w.closing.map (Totals.figure F)).getD 0 := by
  simp [heldOf]

/-- What the law of the lots reads of a slot. -/
structure Wafer.Alike (v w : Wafer) : Prop where
  lot : w.lot = v.lot
  number : w.number = v.number
  done : w.done ↔ v.done
  closing : w.closing = v.closing

theorem Wafer.Alike.refl (w : Wafer) : w.Alike w := ⟨rfl, rfl, .rfl, rfl⟩

theorem Wafer.Alike.activeOf {v w : Wafer} (h : v.Alike w) (id : LotId) :
    activeOf id (some w) = activeOf id (some v) := by
  by_cases hl : v.lot = id
  · by_cases hd : v.done
    · rw [activeOf_of_done hd, activeOf_of_done (h.done.2 hd)]
    · rw [activeOf_of_not_done hl hd, activeOf_of_not_done (h.lot.trans hl) (mt h.done.1 hd)]
  · rw [activeOf_of_ne hl, activeOf_of_ne (by rwa [h.lot])]

theorem Wafer.Alike.heldOf {v w : Wafer} (h : v.Alike w) (id : LotId) (F : Figure) :
    heldOf id F (some w) = heldOf id F (some v) := by
  unfold Sys2Proof.Machine.heldOf
  simp only [Option.bind_some, h.lot, h.closing]

/-! ## The law, clause by clause -/

/-- A held lot against the slots. -/
structure State.LotFits (s : State) (l : Lot) : Prop where
  wf : LotId.wf l.id = true
  expected : 1 ≤ l.expected ∧ l.expected ≤ 50
  active : l.active = slotSum fun n => activeOf l.id (s.slot n)
  closing : l.state = .closing → 0 < l.active
  closed : l.state = .closed → l.active = 0
  sorted : l.closedList.Pairwise (· < ·)
  numbers : ∀ k ∈ l.closedList, 1 ≤ k ∧ k ≤ l.expected
  totals : ∀ F : Figure, (slotSum fun n => heldOf l.id F (s.slot n)) ≤ l.totals.figure F

theorem State.lotFits_iff (s : State) (l : Lot) : s.lotFits l = true ↔ s.LotFits l := by
  have hsum : ∀ F : Figure,
      ((s.closingTotals l.id).map (Totals.figure F)).sum = slotSum fun n => heldOf l.id F (s.slot n) :=
    fun F => sum_map_filterMap _ _ _
  have hact : ((List.finRange 32).filter fun n => (s.slot n).any (Wafer.isActive l.id)).length =
      slotSum fun n => activeOf l.id (s.slot n) := length_filter_eq_sum _ _
  have htot : s.totalsHold l ↔ ∀ F : Figure, (slotSum fun n => heldOf l.id F (s.slot n)) ≤ l.totals.figure F := by
    constructor
    · rintro ⟨h1, h2, h3, h4⟩ F
      rw [← hsum]
      cases F with
      | tested => exact h1
      | passed => exact h2
      | gross => exact h3
      | bin b => exact h4 b
    · intro h
      have h' : ∀ F : Figure, ((s.closingTotals l.id).map (Totals.figure F)).sum ≤ l.totals.figure F :=
        fun F => (hsum F).trans_le (h F)
      exact ⟨h' .tested, h' .passed, h' .gross, fun b => h' (.bin b)⟩
  unfold State.lotFits
  rw [decide_eq_true_eq, hact, htot]
  constructor
  · rintro ⟨h1, h2, h3, h4, h5, h6, h7, h8, h9⟩
    exact ⟨h1, ⟨h2, h3⟩, h4, h5, h6, h7, h8, h9⟩
  · rintro ⟨h1, ⟨h2, h3⟩, h4, h5, h6, h7, h8, h9⟩
    exact ⟨h1, h2, h3, h4, h5, h6, h7, h8, h9⟩

/-- The law of the lots, over what it reads of the state. -/
structure State.LotsAgree (s : State) : Prop where
  apart : ∀ (e f : Fin 16) l k, s.lots[e] = some l → s.lots[f] = some k → l.id = k.id → e = f
  fits : ∀ (e : Fin 16) l, s.lots[e] = some l → s.LotFits l
  named : ∀ n w, s.slot n = some w → ∃ (e : Fin 16) (l : Lot), s.lots[e] = some l ∧ l.id = w.lot ∧
    w.number ≤ l.expected ∧ (w.number ∈ l.closedList ↔ w.done)
  distinct : ∀ n m w v, s.slot n = some w → s.slot m = some v → w.lot = v.lot → w.number = v.number → n = m

theorem State.lotsAgree_iff (s : State) : s.LotsAgree ↔ s.LotLaw := by
  constructor
  · rintro ⟨h1, h2, h3, h4⟩
    refine ⟨?_, ?_, ?_, ?_⟩
    · intro e f hef l hl k hk he
      exact hef (h1 e f l k (by simpa using hl) (by simpa using hk) he)
    · intro e l hl
      exact (s.lotFits_iff l).2 (h2 e l (by simpa using hl))
    · intro n w hw
      obtain ⟨e, l, hl, hx⟩ := h3 n w (by simpa using hw)
      unfold State.waferNamed
      refine List.any_eq_true.2 ⟨e, List.mem_finRange e, (Option.any_eq_true _ _).2 ⟨l, hl, ?_⟩⟩
      rw [decide_eq_true_iff]
      exact hx
    · intro n m hnm w hw v hv hl hk
      exact hnm (h4 n m w v (by simpa using hw) (by simpa using hv) hl hk)
  · rintro ⟨h1, h2, h3, h4⟩
    refine ⟨?_, ?_, ?_, ?_⟩
    · intro e f l k hl hk he
      by_contra hef
      exact h1 e f hef l (by simpa using hl) k (by simpa using hk) he
    · intro e l hl
      exact (s.lotFits_iff l).1 (h2 e l (by simpa using hl))
    · intro n w hw
      obtain ⟨e, -, he⟩ := List.any_eq_true.1 (h3 n w (by simpa using hw))
      obtain ⟨l, hl, hx⟩ := (Option.any_eq_true _ _).1 he
      rw [decide_eq_true_iff] at hx
      exact ⟨e, l, hl, hx⟩
    · intro n m w v hw hv hl hk
      by_contra hnm
      exact h4 n m hnm w (by simpa using hw) v (by simpa using hv) hl hk

/-- Where slots read alike, the lots agree with them as before. -/
theorem State.LotsAgree.of_alike {s t : State} (h : s.LotsAgree) (hl : t.lots = s.lots)
    (hs : ∀ n, ∃ f : Wafer → Wafer, t.slot n = (s.slot n).map f ∧ ∀ w, s.slot n = some w → w.Alike (f w)) :
    t.LotsAgree := by
  obtain ⟨h1, h2, h3, h4⟩ := h
  have hact : ∀ id n, activeOf id (t.slot n) = activeOf id (s.slot n) := by
    intro id n
    obtain ⟨f, he, hf⟩ := hs n
    rw [he]
    cases hw : s.slot n with
    | none => rfl
    | some w => exact (hf w hw).activeOf id
  have hheld : ∀ id F n, heldOf id F (t.slot n) = heldOf id F (s.slot n) := by
    intro id F n
    obtain ⟨f, he, hf⟩ := hs n
    rw [he]
    cases hw : s.slot n with
    | none => rfl
    | some w => exact (hf w hw).heldOf id F
  have hsome : ∀ n w, t.slot n = some w → ∃ v, s.slot n = some v ∧ v.Alike w := by
    intro n w hw
    obtain ⟨f, he, hf⟩ := hs n
    rw [he] at hw
    obtain ⟨v, hv, rfl⟩ := Option.map_eq_some_iff.1 hw
    exact ⟨v, hv, hf v hv⟩
  refine ⟨by rw [hl]; exact h1, ?_, ?_, ?_⟩
  · intro e l hle
    rw [hl] at hle
    obtain ⟨f1, f2, f3, f4, f5, f6, f7, f8⟩ := h2 e l hle
    refine ⟨f1, f2, ?_, f4, f5, f6, f7, ?_⟩ <;> simpa only [hact, hheld]
  · intro n w hw
    obtain ⟨v, hv, ha⟩ := hsome n w hw
    obtain ⟨e, l, hle, hx⟩ := h3 n v hv
    rw [hl]
    exact ⟨e, l, hle, by rw [ha.lot, ha.number, ha.done]; exact hx⟩
  · intro n m w v hw hv hlot hnum
    obtain ⟨w', hw', ha⟩ := hsome n w hw
    obtain ⟨v', hv', hb⟩ := hsome m v hv
    exact h4 n m w' v' hw' hv' (by rw [← ha.lot, ← hb.lot, hlot]) (by rw [← ha.number, ← hb.number, hnum])

/-! ## One slot and its lot -/

/-- What a lot becomes where one of its slots changes. -/
structure Lot.Takes (l l' : Lot) (x x' : Option Wafer) : Prop where
  id : l'.id = l.id
  expected : l'.expected = l.expected
  active : l'.active + activeOf l.id x = l.active + activeOf l.id x'
  closing : l'.state = .closing → 0 < l'.active
  closed : l'.state = .closed → l'.active = 0
  sorted : l'.closedList.Pairwise (· < ·)
  numbers : ∀ k ∈ l'.closedList, 1 ≤ k ∧ k ≤ l.expected
  others : ∀ k, (∀ w, x = some w → k ≠ w.number) → (∀ w, x' = some w → k ≠ w.number) →
    (k ∈ l'.closedList ↔ k ∈ l.closedList)
  totals : ∀ (F : Figure) r, r + heldOf l.id F x ≤ l.totals.figure F → r + heldOf l.id F x' ≤ l'.totals.figure F

/-- One slot changes, and its lot with it. -/
theorem State.LotsAgree.of_takes {s t : State} (h : s.LotsAgree) {n : SlotId} {x x' : Option Wafer}
    {e : Fin 16} {l l' : Lot} (hx : s.slot n = x) (hl : s.lots[e] = some l)
    (hs : ∀ m, t.slot m = if n = m then x' else s.slot m)
    (ht : ∀ f : Fin 16, t.lots[f] = if e = f then some l' else s.lots[f])
    (hown : ∀ w, x = some w → w.lot = l.id) (hown' : ∀ w, x' = some w → w.lot = l.id)
    (hk : l.Takes l' x x')
    (hnew : ∀ w, x' = some w → w.number ≤ l.expected ∧ (w.number ∈ l'.closedList ↔ w.done) ∧
      ∀ m v, n ≠ m → s.slot m = some v → v.lot = l.id → v.number ≠ w.number) : t.LotsAgree := by
  obtain ⟨h1, h2, h3, h4⟩ := h
  have hlots : ∀ (f : Fin 16) k, t.lots[f] = some k →
      ∃ k', s.lots[f] = some k' ∧ k.id = k'.id ∧ k.expected = k'.expected := by
    intro f k hf
    rw [ht] at hf
    split at hf
    · rename_i ef
      subst ef
      obtain rfl := Option.some.inj hf
      exact ⟨l, hl, hk.id, hk.expected⟩
    · exact ⟨k, hf, rfl, rfl⟩
  have hchange : ∀ F : Option Wafer → Nat,
      (slotSum fun m => F (t.slot m)) + F x = (slotSum fun m => F (s.slot m)) + F x' := by
    intro F
    have := slotSum_change (n := n) (f := fun m => F (t.slot m)) (g := fun m => F (s.slot m))
      fun m hm => by rw [hs, if_neg hm.symm]
    rw [hs, if_pos rfl, hx] at this
    exact this
  have hforeign : ∀ (id : LotId), id ≠ l.id → ∀ y, (∀ w, y = some w → w.lot = l.id) →
      activeOf id y = 0 ∧ ∀ F, heldOf id F y = 0 := by
    intro id hid y hy
    cases y with
    | none => exact ⟨rfl, fun _ => rfl⟩
    | some w =>
      have hne : w.lot ≠ id := by rw [hy w rfl]; exact hid.symm
      exact ⟨activeOf_of_ne hne, fun F => heldOf_of_ne F hne⟩
  refine ⟨?_, ?_, ?_, ?_⟩
  · intro f g k k' hf hg hid
    obtain ⟨a, ha, ha', -⟩ := hlots f k hf
    obtain ⟨b, hb, hb', -⟩ := hlots g k' hg
    exact h1 f g a b ha hb (by rw [← ha', ← hb', hid])
  · intro f k hf
    rw [ht] at hf
    split at hf
    · rename_i ef
      subst ef
      obtain rfl := Option.some.inj hf
      obtain ⟨f1, f2, f3, f4, f5, f6, f7, f8⟩ := h2 e l hl
      refine ⟨hk.id ▸ f1, hk.expected ▸ f2, ?_, hk.closing, hk.closed, hk.sorted, hk.expected ▸ hk.numbers, ?_⟩
      · rw [hk.id]
        have := hchange (activeOf l.id)
        have := hk.active
        omega
      · intro F
        rw [hk.id]
        have hsum := hchange (heldOf l.id F)
        have hle := le_slotSum (fun m => heldOf l.id F (s.slot m)) n
        rw [hx] at hle
        have hnew := hk.totals F ((slotSum fun m => heldOf l.id F (s.slot m)) - heldOf l.id F x)
        have hold := f8 F
        omega
    · rename_i ef
      have hid : k.id ≠ l.id := fun hid => ef (h1 f e k l hf hl hid).symm
      obtain ⟨a1, b1⟩ := hforeign k.id hid x hown
      obtain ⟨a2, b2⟩ := hforeign k.id hid x' hown'
      obtain ⟨f1, f2, f3, f4, f5, f6, f7, f8⟩ := h2 f k hf
      have hheld : ∀ F, (slotSum fun n => heldOf k.id F (t.slot n)) = slotSum fun n => heldOf k.id F (s.slot n) := by
        intro F
        have := hchange (heldOf k.id F)
        rw [b1, b2] at this
        omega
      have hact := hchange (activeOf k.id)
      rw [a1, a2] at hact
      exact ⟨f1, f2, f3.trans (by omega), f4, f5, f6, f7, fun F => by rw [hheld]; exact f8 F⟩
  · intro m w hw
    rw [hs] at hw
    split at hw
    · obtain ⟨g1, g2, -⟩ := hnew w hw
      exact ⟨e, l', by rw [ht, if_pos rfl], by rw [hk.id, hown' w hw], by rw [hk.expected]; exact g1, g2⟩
    · rename_i hnm
      obtain ⟨f, k, hf, hid, hnum, hcl⟩ := h3 m w hw
      by_cases ef : e = f
      · subst ef
        obtain rfl : l = k := by rw [hl] at hf; exact Option.some.inj hf
        refine ⟨e, l', by rw [ht, if_pos rfl], by rw [hk.id, hid], by rw [hk.expected]; exact hnum, ?_⟩
        rw [hk.others w.number ?_ ?_]
        · exact hcl
        · intro v hv hne
          exact hnm (h4 n m v w (hx.trans hv) hw (by rw [hown v hv, hid]) hne.symm)
        · intro v hv hne
          exact (hnew v hv).2.2 m w hnm hw hid.symm hne
      · exact ⟨f, k, by rw [ht, if_neg ef]; exact hf, hid, hnum, hcl⟩
  · intro m m' w v hw hv hlot hnum
    rw [hs] at hw hv
    split at hw <;> split at hv
    · rename_i e1 e2; rw [← e1, ← e2]
    · rename_i e1 e2
      exact absurd hnum.symm ((hnew w hw).2.2 m' v e2 hv (by rw [← hlot, hown' w hw]))
    · rename_i e1 e2
      exact absurd hnum ((hnew v hv).2.2 m w e1 hw (by rw [hlot, hown' v hv]))
    · exact h4 m m' w v hw hv hlot hnum

end Sys2Proof.Machine
end

section
/-! PROOF. Every move keeps the law of the lots: O55 and O56. -/

namespace Sys2Proof.Machine

/-! ## Lookups -/

theorem State.lots_some_findLot {s : State} (h : s.LotsAgree) {e : Fin 16} {l : Lot} (hl : s.lots[e] = some l) :
    s.findLot l.id = some e := by
  cases hf : s.findLot l.id with
  | none =>
    have := List.find?_eq_none.1 hf e (List.mem_finRange e)
    rw [hl] at this
    simp at this
  | some f =>
    obtain ⟨k, hk, hid⟩ := Option.map_eq_some_iff.1 (State.findLot_spec hf)
    rw [h.apart f e k l hk hl hid]

/-- The lot that a slot names, and its entry (R2, R8). -/
theorem State.LotsAgree.lot_of_slot {s : State} (h : s.LotsAgree) {n : SlotId} {w : Wafer}
    (hw : s.slot n = some w) : ∃ (e : Fin 16) (l : Lot), s.lots[e] = some l ∧ l.id = w.lot ∧
      s.findLot w.lot = some e ∧ w.number ≤ l.expected ∧ (w.number ∈ l.closedList ↔ w.done) := by
  obtain ⟨e, l, hl, hid, hx⟩ := h.named n w hw
  exact ⟨e, l, hl, hid, hid ▸ State.lots_some_findLot h hl, hx⟩

/-- Lookup by id hangs on the ids alone. -/
theorem State.findLot_congr {s t : State} (h : ∀ f : Fin 16, t.lots[f].map Lot.id = s.lots[f].map Lot.id)
    (id : LotId) : t.findLot id = s.findLot id := by
  unfold State.findLot
  congr 1
  funext f
  rw [h]

theorem State.lots_modLot (s : State) (e f : Fin 16) (F : Lot → Lot) :
    (s.modLot e F).lots[f] = if e = f then s.lots[e].map F else s.lots[f] := State.lots_setLot s e f _

theorem State.findLot_modLot {F : Lot → Lot} (hF : ∀ l, (F l).id = l.id) (s : State) (e : Fin 16) (id : LotId) :
    (s.modLot e F).findLot id = s.findLot id := by
  refine State.findLot_congr (fun f => ?_) id
  rw [State.lots_modLot]
  split
  · rename_i h
    subst h
    cases s.lots[e] <;> simp [hF]
  · rfl

/-! ## The lot after a close -/

/-- A lot after one of its slots is no longer active (R4, R6). -/
def Lot.released (l : Lot) : Lot :=
  if l.active - 1 = 0 ∧ l.state = .closing then { l with active := 0, state := .closed }
  else { l with active := l.active - 1 }

/-- A lot after a close of one of its wafers (R7, R21). -/
def Lot.closes (w : Wafer) (l : Lot) : Lot := (l.join w.number w.totals).released

theorem State.releaseActive_lots {s : State} {id : LotId} {e : Fin 16} {l : Lot} (he : s.findLot id = some e)
    (hl : s.lots[e] = some l) : (s.releaseActive id).lots = s.lots.set e (some l.released) := by
  unfold State.releaseActive Lot.released
  rw [he]
  dsimp only
  rw [hl]
  dsimp only
  split
  · rw [State.addCause_lots]; rfl
  · rfl

theorem State.unbindSlot_lots (n : SlotId) (s : State) : (s.unbindSlot n).lots = s.lots := by
  unfold State.unbindSlot
  split <;> rfl

/-- A close adds its wafer to its lot, whose active slot count falls (R21 steps 2, 3 and 6). -/
theorem State.completeClose_lots {s : State} {n : SlotId} {w : Wafer} {e : Fin 16} {l : Lot}
    (hw : s.slot n = some w) (he : s.findLot w.lot = some e) (hl : s.lots[e] = some l) (d : Bool) :
    (s.completeClose n d).lots = s.lots.set e (some (l.closes w)) := by
  have hu : (s.unbindSlot n).findLot w.lot = some e := by
    rw [State.findLot_congr (s := s) fun f => by rw [State.unbindSlot_lots]]
    exact he
  have hul : (s.unbindSlot n).lots[e] = some l := by rw [State.unbindSlot_lots]; exact hl
  have hjl : ((s.unbindSlot n).modLot e (Lot.join w.number w.totals)).lots =
      s.lots.set e (some (l.join w.number w.totals)) := by
    unfold State.modLot State.setLot
    rw [hul, State.unbindSlot_lots]
    rfl
  have hje : ((s.unbindSlot n).modLot e (Lot.join w.number w.totals)).findLot w.lot = some e :=
    (State.findLot_modLot (F := Lot.join w.number w.totals) (fun _ => rfl) _ e _).trans hu
  have hfinal : ∀ u : State, u.lots = ((s.unbindSlot n).modLot e (Lot.join w.number w.totals)).lots →
      (u.releaseActive w.lot).lots = s.lots.set e (some (l.closes w)) := by
    intro u hu'
    have hue : u.findLot w.lot = some e := by
      rw [← hje]
      exact State.findLot_congr (fun f => by rw [hu']) _
    have hue' : u.lots[e] = some (l.join w.number w.totals) := by
      rw [hu', hjl]
      simp
    rw [State.releaseActive_lots hue hue', hu', hjl]
    simp [Lot.closes]
  unfold State.completeClose
  rw [hw]
  dsimp only
  rw [hu]
  dsimp only
  split
  · exact hfinal _ (by rw [State.addCause_lots]; rfl)
  · exact hfinal _ rfl

/-! ### Closed lists -/

theorem mem_insertNumber {n k : Nat} {l : List Nat} : k ∈ insertNumber n l ↔ k = n ∨ k ∈ l := by
  induction l with
  | nil => simp [insertNumber]
  | cons m l ih =>
    unfold insertNumber
    split
    · simp
    · simp only [List.mem_cons, ih]
      tauto

theorem pairwise_insertNumber {n : Nat} {l : List Nat} (h : l.Pairwise (· < ·)) (hn : n ∉ l) :
    (insertNumber n l).Pairwise (· < ·) := by
  induction l with
  | nil => simp [insertNumber]
  | cons m l ih =>
    obtain ⟨hm, hl⟩ := List.pairwise_cons.1 h
    simp only [List.mem_cons, not_or] at hn
    unfold insertNumber
    split
    · rename_i hlt
      refine List.pairwise_cons.2 ⟨?_, h⟩
      intro x hx
      rcases List.mem_cons.1 hx with rfl | hx
      · exact hlt
      · exact hlt.trans (hm x hx)
    · rename_i hge
      refine List.pairwise_cons.2 ⟨?_, ih hl hn.2⟩
      intro x hx
      rcases mem_insertNumber.1 hx with rfl | hx
      · omega
      · exact hm x hx

@[simp] theorem Totals.figure_add (F : Figure) (a b : Totals) :
    (a.add b).figure F = a.figure F + b.figure F := by
  cases F <;> simp [Totals.figure, Totals.add]

@[simp] theorem Totals.figure_sub (F : Figure) (a b : Totals) :
    (a.sub b).figure F = a.figure F - b.figure F := by
  cases F <;> simp [Totals.figure, Totals.sub]

@[simp] theorem Lot.released_id (l : Lot) : l.released.id = l.id := by unfold Lot.released; split <;> rfl
@[simp] theorem Lot.released_expected (l : Lot) : l.released.expected = l.expected := by
  unfold Lot.released; split <;> rfl
@[simp] theorem Lot.released_closedList (l : Lot) : l.released.closedList = l.closedList := by
  unfold Lot.released; split <;> rfl
@[simp] theorem Lot.released_totals (l : Lot) : l.released.totals = l.totals := by
  unfold Lot.released; split <;> rfl
@[simp] theorem Lot.released_plan (l : Lot) : l.released.plan = l.plan := by
  unfold Lot.released; split <;> rfl
theorem Lot.released_active (l : Lot) : l.released.active = l.active - 1 := by
  unfold Lot.released
  split
  · rename_i h; exact h.1.symm
  · rfl

theorem Lot.released_state_closing {l : Lot} (h : l.released.state = .closing) : 0 < l.active - 1 := by
  unfold Lot.released at h
  split at h
  · cases h
  · rename_i hn
    have := mt (fun he => And.intro he h) hn
    omega

theorem Lot.released_state_closed {l : Lot} (h : l.released.state = .closed) (hl : l.state ≠ .closed) :
    l.released.active = 0 := by
  unfold Lot.released at h ⊢
  split at h
  · rename_i hc; rw [if_pos hc]
  · exact absurd h hl

/-- A lot that agrees with its slots takes the close of one of them (R7, R21). -/
theorem Lot.closes_takes {s : State} {l : Lot} (hf : s.LotFits l) {n : SlotId} {w : Wafer}
    (hw : s.slot n = some w) (hl : w.lot = l.id) (ho : w.state = .opened ∨ w.state = .closing)
    (hlaw : w.Lawful) (hnum : w.number ≤ l.expected) (hnot : w.number ∉ l.closedList) :
    l.Takes (l.closes w) (some w) (some w.closed) := by
  have hnd : ¬ w.done := by rcases ho with h | h <;> simp [Wafer.done, h]
  have hact : activeOf l.id (some w) = 1 := activeOf_of_not_done hl hnd
  have hact' : activeOf l.id (some w.closed) = 0 := activeOf_of_done (.inl rfl)
  have hpos : 1 ≤ l.active := by
    rw [hf.active, ← hact, ← hw]
    exact le_slotSum (fun n => activeOf l.id (s.slot n)) n
  have hsc : l.state ≠ .closed := fun h => by have := hf.closed h; omega
  refine ⟨by simp [Lot.closes, Lot.join], by simp [Lot.closes, Lot.join], ?_, ?_, ?_, ?_, ?_, ?_, ?_⟩
  · rw [hact, hact', Lot.closes, Lot.released_active]
    simp only [Lot.join]
    omega
  · intro h
    have := Lot.released_state_closing h
    rw [Lot.closes, Lot.released_active]
    exact this
  · exact fun h => Lot.released_state_closed h hsc
  · rw [Lot.closes, Lot.released_closedList]
    exact pairwise_insertNumber hf.sorted hnot
  · intro k hk
    rw [Lot.closes, Lot.released_closedList] at hk
    rcases mem_insertNumber.1 hk with rfl | hk
    · exact ⟨hlaw.1, hnum⟩
    · exact hf.numbers k hk
  · intro k hk _
    rw [Lot.closes, Lot.released_closedList]
    exact mem_insertNumber.trans (by simp [hk w rfl])
  · intro F r hr
    have hheld : heldOf l.id F (some w.closed) = w.totals.figure F := by
      rw [← hl]
      exact heldOf_some F (w := w.closed)
    rw [hheld, Lot.closes, Lot.released_totals]
    simp only [Lot.join, Totals.figure_add]
    omega

/-- A close keeps the law of the lots. -/
theorem State.LotsAgree.closes {s t : State} (h : s.LotsAgree) {n : SlotId} {w : Wafer}
    (hw : s.slot n = some w) (ho : w.state = .opened ∨ w.state = .closing) (hlaw : w.Lawful)
    (hs : ∀ m, t.slot m = if n = m then some w.closed else s.slot m)
    (ht : ∀ e l, s.findLot w.lot = some e → s.lots[e] = some l → t.lots = s.lots.set e (some (l.closes w))) :
    t.LotsAgree := by
  obtain ⟨e, l, hl, hid, he, hnum, hmem⟩ := h.lot_of_slot hw
  have hnd : ¬ w.done := by rcases ho with h | h <;> simp [Wafer.done, h]
  have hnot : w.number ∉ l.closedList := mt hmem.1 hnd
  refine h.of_takes hw hl hs (fun f => ?_) (fun v hv => ?_) (fun v hv => ?_)
    (Lot.closes_takes (h.fits e l hl) hw hid.symm ho hlaw hnum hnot) fun v hv => ?_
  · rw [ht e l he hl]
    exact State.lots_setLot s e f _
  · obtain rfl := Option.some.inj hv; exact hid.symm
  · obtain rfl := Option.some.inj hv; exact hid.symm
  · obtain rfl := Option.some.inj hv
    refine ⟨hnum, ?_, ?_⟩
    · rw [Lot.closes, Lot.released_closedList]
      exact iff_of_true (mem_insertNumber.2 (.inl rfl)) (.inl rfl)
    · intro m v hnm hv hvl hne
      exact hnm (h.distinct n m w v hw hv (by rw [hvl, hid]) hne.symm)

/-! ## Move by move -/

theorem State.LotsAgree.endGroup {s : State} (h : s.LotsAgree)
    (hsl : s.SlotsAgree) (i : StationId) : (s.endGroup i).LotsAgree := by
  cases hc : s.endCloses i with
  | false =>
    rw [State.endGroup_of_not_closes i hc]
    exact h.of_alike rfl fun n => ⟨id, by simp, fun w _ => .refl w⟩
  | true =>
    obtain ⟨n, hn, hcl⟩ := State.endCloses_iff.1 hc
    obtain ⟨b, hbi, rfl⟩ := Option.map_eq_some_iff.1 hn
    obtain ⟨w, hw, hst⟩ := State.slot_of_slotState hcl
    refine h.closes hw (.inr hst) (hsl.lawful _ w hw) (fun m => ?_) fun e l he hl => ?_
    · rw [State.endGroup_slot, hc, hn]
      by_cases hm : b.slot = m
      · subst hm; simp [hw]
      · simp [hm]
    · rw [State.endGroup_of_closing i hbi hcl, State.modStation_lots]
      exact State.completeClose_lots (s := s.modStation i _) hw he hl true

theorem SlotMove.lotsAgree {s t : State} (m : SlotMove s t) (hsl : s.SlotsAgree) (h : s.LotsAgree) :
    t.LotsAgree := by
  cases m with
  | initialised tag n f hp =>
    have hsn : s.slotState n = some .opening := (hsl.opening n).2 (State.opens_eq_some.2 ⟨tag, hp⟩)
    refine h.of_alike rfl fun k => ?_
    rw [State.makeReady_slot, State.slot_modWafer]
    split
    · rename_i e
      subst e
      refine ⟨fun w => { w with state := .opened }, rfl, fun w hw => ⟨rfl, rfl, ?_, rfl⟩⟩
      rw [State.slotState_of_slot hw] at hsn
      simp [Wafer.done, Option.some.inj hsn]
    · exact ⟨id, by simp [State.slot], fun w _ => .refl w⟩
  | closes n ho hg =>
    rw [State.slotIs_iff_slotState] at ho
    obtain ⟨w, hw, hst⟩ := State.slot_of_slotState ho
    exact h.closes hw (.inl hst) (hsl.lawful n w hw) (State.completeClose_slot hw false)
      fun e l he hl => State.completeClose_lots hw he hl false
  | waits n ho hg =>
    rw [State.slotIs_iff_slotState] at ho
    refine h.of_alike rfl fun k => ?_
    rw [State.slot_modWafer]
    split
    · rename_i e
      subst e
      refine ⟨fun w => { w with state := .closing }, rfl, fun w hw => ⟨rfl, rfl, ?_, rfl⟩⟩
      rw [State.slotState_of_slot hw] at ho
      simp [Wafer.done, Option.some.inj ho]
    · exact ⟨id, by simp, fun w _ => .refl w⟩
  | reopens n w e hw hc he hl =>
    obtain ⟨e', l, hle, hid, he', hnum, hmem⟩ := h.lot_of_slot hw
    obtain rfl : e = e' := by rw [he] at he'; exact Option.some.inj he'
    have hdone : w.done := .inl hc
    have hclosing : w.closing = some w.totals := by
      rw [(hsl.lawful n w hw).closing_eq]
      exact if_pos hdone
    have hf := h.fits e l hle
    have hact : activeOf l.id (some w) = 0 := activeOf_of_done hdone
    have hact' : activeOf l.id (some { w with state := .opened, closing := none }) = 1 :=
      activeOf_of_not_done hid.symm (by simp [Wafer.done])
    have hstate : l.state ≠ .closed := fun hx => hl (by rw [hle]; simp [hx])
    refine h.of_takes (l' := { l.leave w.number (w.closing.getD Totals.zero) with active := l.active + 1 })
      hw hle (State.slot_setSlot (s.modLot e _) n · _) (fun f => ?_)
      (fun v hv => ?_) (fun v hv => ?_) ⟨rfl, rfl, ?_, ?_, ?_, ?_, ?_, ?_, ?_⟩ fun v hv => ?_
    · rw [State.reopen, State.setSlot_lots, State.lots_modLot, hle]
      rfl
    · obtain rfl := Option.some.inj hv; exact hid.symm
    · obtain rfl := Option.some.inj hv; exact hid.symm
    · rw [hact, hact']
    · exact fun _ => Nat.succ_pos _
    · exact fun hx => absurd hx hstate
    · exact hf.sorted.filter _
    · intro k hk
      exact hf.numbers k (List.mem_of_mem_filter hk)
    · intro k hk _
      simp only [Lot.leave, List.mem_filter, decide_eq_true_eq]
      exact ⟨fun hx => hx.1, fun hx => ⟨hx, hk w rfl⟩⟩
    · intro F r hr
      have hheld : heldOf l.id F (some w) = w.totals.figure F := by
        rw [hid, heldOf_some, hclosing]; rfl
      have hheld' : heldOf l.id F (some { w with state := .opened, closing := none }) = 0 := by
        rw [hid]; exact heldOf_some F (w := { w with state := .opened, closing := none })
      rw [hheld] at hr
      rw [hheld', hclosing]
      simp only [Lot.leave, Option.getD_some, Totals.figure_sub]
      omega
    · obtain rfl := Option.some.inj hv
      refine ⟨hnum, iff_of_false ?_ (by simp [Wafer.done]), ?_⟩
      · simp [Lot.leave]
      · intro m v hnm hv hvl hne
        exact hnm (h.distinct n m w v hw hv (by rw [hvl, hid]) hne.symm)
  | frees n hc hp =>
    rw [State.slotIs_iff_slotState] at hc
    obtain ⟨w, hw, hst⟩ := State.slot_of_slotState hc
    obtain ⟨e, l, hle, hid, he, hnum, hmem⟩ := h.lot_of_slot hw
    have hf := h.fits e l hle
    refine h.of_takes (l' := l) hw hle (State.slot_setSlot s n · none) (fun f => ?_)
      (fun v hv => ?_) (by simp) ⟨rfl, rfl, ?_, hf.closing, hf.closed, hf.sorted, hf.numbers,
        fun _ _ _ => .rfl, ?_⟩ (by simp)
    · rw [State.setSlot_lots]
      split
      · rename_i ef; subst ef; exact hle
      · rfl
    · obtain rfl := Option.some.inj hv; exact hid.symm
    · rw [activeOf_of_done (.inl hst)]
      rfl
    · intro F r hr
      rw [heldOf_none]
      omega

theorem OpenMove.lotsAgree {s t : State} (m : OpenMove s t) (h : s.LotsAgree) : t.LotsAgree := by
  cases m with
  | takes n e l tag p hp hw hf hl ho hg hx hv hn =>
    simp only [gridValid, Bool.and_eq_true, decide_eq_true_eq] at hg
    obtain ⟨⟨⟨⟨⟨g1, g2⟩, -⟩, -⟩, -⟩, -⟩ := hg
    simp only [State.waferExists, Bool.or_eq_false_iff, decide_eq_false_iff_not] at hx
    obtain ⟨hx1, hx2⟩ := hx
    have hfit := h.fits e l hl
    have hnd : ¬ (Wafer.new l.id p).done := by simp [Wafer.done, Wafer.new]
    refine h.of_takes (l' := { l with active := l.active + 1 }) hn hl
      (State.takeSlot_slot n e tag _ s) (fun f => ?_) (by simp) (fun v hv => ?_) ⟨rfl, rfl, ?_, ?_, ?_, hfit.sorted, hfit.numbers,
        fun _ _ _ => .rfl, ?_⟩ fun v hv => ?_
    · have hlots : (s.takeSlot n e tag (Wafer.new l.id p)).lots =
        ((s.setSlot n (some (Wafer.new l.id p))).modLot e fun l => { l with active := l.active + 1 }).lots := rfl
      rw [hlots, State.lots_modLot, State.setSlot_lots, hl]
      rfl
    · obtain rfl := Option.some.inj hv; rfl
    · rw [activeOf_of_not_done (id := l.id) rfl hnd]
      rfl
    · exact fun _ => Nat.succ_pos _
    · intro hx; rw [show l.state = .closed from hx] at ho; cases ho
    · intro F r hr
      rw [show heldOf l.id F (some (Wafer.new l.id p)) = 0 from heldOf_some F (w := Wafer.new l.id p)]
      exact hr
    · obtain rfl := Option.some.inj hv
      refine ⟨g2, iff_of_false hx2 hnd, ?_⟩
      intro m v hnm hv hvl hne
      have hfind : s.findWafer [.opening, .opened, .closing, .closed, .exporting] l.id (u8 p 13) = none := by
        cases hfw : s.findWafer [.opening, .opened, .closing, .closed, .exporting] l.id (u8 p 13) with
        | none => rfl
        | some x => rw [hfw] at hx1; cases hx1
      have := List.find?_eq_none.1 hfind m (List.mem_finRange m)
      rw [hv] at this
      refine this ?_
      have hst : v.state ∈ [WaferState.opening, .opened, .closing, .closed, .exporting] := by
        cases v.state <;> simp
      simp only [Bool.and_eq_true, decide_eq_true_eq]
      exact ⟨⟨hst, hvl⟩, hne⟩

/-- A lot that no slot names counts no slot. -/
theorem State.slotSum_unnamed {s : State} {id : LotId} (h : ∀ n w, s.slot n = some w → w.lot ≠ id) :
    (slotSum fun n => activeOf id (s.slot n)) = 0 ∧ ∀ F, (slotSum fun n => heldOf id F (s.slot n)) = 0 := by
  have hzero : ∀ f : SlotId → Nat, (∀ n, f n = 0) → slotSum f = 0 := by
    intro f hf
    rw [slotSum_congr hf]
    simp [slotSum]
  refine ⟨hzero _ fun n => ?_, fun F => hzero _ fun n => ?_⟩
  · cases hw : s.slot n with
    | none => rfl
    | some w => exact activeOf_of_ne (h n w hw)
  · cases hw : s.slot n with
    | none => rfl
    | some w => exact heldOf_of_ne F (h n w hw)

/-- A lot's state changes at a request (R5). -/
theorem State.LotsAgree.setState {s : State} (h : s.LotsAgree) {e : Fin 16} {l : Lot} (hl : s.lots[e] = some l)
    {x : LotState} (hc : x = .closing → 0 < l.active) (hd : x = .closed → l.active = 0) :
    (s.setLot e (some { l with state := x })).LotsAgree := by
  obtain ⟨h1, h2, h3, h4⟩ := h
  have hlots : ∀ (f : Fin 16) (k : Lot), (s.setLot e (some { l with state := x })).lots[f] = some k →
      ∃ k', s.lots[f] = some k' ∧ k.id = k'.id := by
    intro f k hf
    rw [State.lots_setLot] at hf
    split at hf
    · rename_i ef
      subst ef
      obtain rfl := Option.some.inj hf
      exact ⟨l, hl, rfl⟩
    · exact ⟨k, hf, rfl⟩
  refine ⟨?_, ?_, ?_, h4⟩
  · intro f g k k' hf hg hid
    obtain ⟨a, ha, ha'⟩ := hlots f k hf
    obtain ⟨b, hb, hb'⟩ := hlots g k' hg
    exact h1 f g a b ha hb (by rw [← ha', ← hb', hid])
  · intro f k hf
    rw [State.lots_setLot] at hf
    split at hf
    · obtain rfl := Option.some.inj hf
      obtain ⟨f1, f2, f3, f4, f5, f6, f7, f8⟩ := h2 e l hl
      exact ⟨f1, f2, f3, hc, hd, f6, f7, f8⟩
    · obtain ⟨f1, f2, f3, f4, f5, f6, f7, f8⟩ := h2 f k hf
      exact ⟨f1, f2, f3, f4, f5, f6, f7, f8⟩
  · intro n w hw
    obtain ⟨f, k, hf, hx⟩ := h3 n w hw
    by_cases ef : e = f
    · subst ef
      obtain rfl : l = k := by rw [hl] at hf; exact Option.some.inj hf
      exact ⟨e, { l with state := x }, by simp, hx⟩
    · exact ⟨f, k, by rw [State.lots_setLot, if_neg ef]; exact hf, hx⟩

theorem LotMove.lotsAgree {s t : State} (m : LotMove s t) (h : s.LotsAgree) : t.LotsAgree := by
  cases m with
  | opens e id k n hi hn hf he =>
    have hun : ∀ (f : Fin 16) l, s.lots[f] = some l → l.id ≠ id := by
      intro f l hl hid
      have := List.find?_eq_none.1 hf f (List.mem_finRange f)
      rw [hl] at this
      simp [hid] at this
    have hslot : ∀ m w, s.slot m = some w → w.lot ≠ id := by
      intro m w hw hid
      obtain ⟨f, l, hl, hlid, -⟩ := h.named m w hw
      exact hun f l hl (hlid.trans hid)
    obtain ⟨ha, hheld⟩ := State.slotSum_unnamed hslot
    obtain ⟨h1, h2, h3, h4⟩ := h
    refine ⟨?_, ?_, ?_, h4⟩
    · intro f g l l' hl hl' hid
      rw [State.lots_setLot] at hl hl'
      split at hl <;> split at hl'
      · rename_i e1 e2; rw [← e1, ← e2]
      · obtain rfl := Option.some.inj hl
        exact absurd hid.symm (hun g l' hl')
      · obtain rfl := Option.some.inj hl'
        exact absurd hid (hun f l hl)
      · exact h1 f g l l' hl hl' hid
    · intro f l hl
      rw [State.lots_setLot] at hl
      split at hl
      · obtain rfl := Option.some.inj hl
        refine ⟨hi, hn, ha.symm, by simp [Lot.new], by simp [Lot.new], .nil, by simp [Lot.new], fun F => ?_⟩
        exact (hheld F).trans_le (Nat.zero_le _)
      · obtain ⟨f1, f2, f3, f4, f5, f6, f7, f8⟩ := h2 f l hl
        exact ⟨f1, f2, f3, f4, f5, f6, f7, f8⟩
    · intro m w hw
      obtain ⟨f, l, hl, hx⟩ := h3 m w hw
      have hef : e ≠ f := by rintro rfl; rw [he] at hl; cases hl
      exact ⟨f, l, by rw [State.lots_setLot, if_neg hef]; exact hl, hx⟩
  | closes e l hl ho ha => exact h.setState hl (by simp) fun _ => ha
  | waits e l hl ho ha => exact h.setState hl (fun _ => Nat.pos_of_ne_zero ha) (by simp)
  | frees e l hl hc hs =>
    have hslot : ∀ m w, s.slot m = some w → w.lot ≠ l.id := by
      intro m w hw hid
      have := List.any_eq_false.1 hs m (List.mem_finRange m)
      rw [hw] at this
      simp [hid] at this
    obtain ⟨h1, h2, h3, h4⟩ := h
    have hlots : ∀ (f : Fin 16) (k : Lot), (s.setLot e none).lots[f] = some k → s.lots[f] = some k := by
      intro f k hf
      rw [State.lots_setLot] at hf
      split at hf
      · cases hf
      · exact hf
    refine ⟨fun f g k k' hf hg => h1 f g k k' (hlots f k hf) (hlots g k' hg), ?_, ?_, h4⟩
    · intro f k hf
      obtain ⟨f1, f2, f3, f4, f5, f6, f7, f8⟩ := h2 f k (hlots f k hf)
      exact ⟨f1, f2, f3, f4, f5, f6, f7, f8⟩
    · intro m w hw
      obtain ⟨f, k, hf, hid, hx⟩ := h3 m w hw
      have hef : e ≠ f := by
        rintro rfl
        rw [hl] at hf
        obtain rfl := Option.some.inj hf
        exact hslot m w hw hid.symm
      exact ⟨f, k, by rw [State.lots_setLot, if_neg hef]; exact hf, hid, hx⟩

theorem Wafer.endExport_alike (w : Wafer) : w.Alike w.endExport := by
  unfold Wafer.endExport
  split
  · rename_i h
    exact ⟨rfl, rfl, by simp [Wafer.done, h], rfl⟩
  · exact .refl w

theorem State.LotsAgree.endExport {s t : State} (h : s.LotsAgree) (hl : t.lots = s.lots)
    (hs : ∀ n, t.slot n = s.endExport.slot n) : t.LotsAgree := by
  refine h.of_alike hl fun n => ?_
  cases hm : s.mex with
  | none =>
    refine ⟨id, ?_, fun w _ => .refl w⟩
    rw [hs]
    unfold State.endExport
    rw [hm]
    simp
  | some m =>
    refine ⟨_, (hs n).trans (State.endExport_slot hm n), fun w _ => ?_⟩
    split
    · exact w.endExport_alike
    · exact .refl w

theorem MexMove.lotsAgree {s t : State} (m : MexMove s t) (h : s.LotsAgree) : t.LotsAgree := by
  have hl := (Move.mex m).frame.lots (by decide)
  cases m with
  | starts n w d k hm hw hc hk =>
    refine h.of_alike hl fun j => ?_
    rw [State.slot_setSlot]
    split
    · rename_i e
      subst e
      rw [hw]
      refine ⟨fun w => { w with state := .exporting }, rfl, fun v hv => ⟨rfl, rfl, ?_, rfl⟩⟩
      obtain rfl := Option.some.inj hv
      simp [Wafer.done, hc]
    · exact ⟨id, by simp [State.slot], fun w _ => .refl w⟩
  | halts => exact h.endExport hl fun _ => rfl
  | stops tag f hp =>
    refine h.endExport hl fun n => ?_
    rw [State.makeReady_slot]
    show State.slot { s with inProgress := none }.endExport n = _
    unfold State.endExport
    cases hm : s.mex <;> rfl
  | endTaken => exact h.endExport hl fun _ => rfl
  | _ => exact h.of_alike hl fun n => ⟨id, by simp [State.slot], fun w _ => .refl w⟩

theorem State.reset_lotsAgree : State.reset.LotsAgree := by
  rw [State.lotsAgree_iff]
  refine ⟨?_, ?_, ?_, ?_⟩ <;> simp [State.reset, State.slot]

/-- Every move keeps the law of the lots, where bindings and slots keep theirs. -/
theorem Move.lotsAgree {d : Domain} {g g' : Hand} {s t : State} (m : Move d g s g' t) (hb : s.BindingIn g)
    (hsl : s.SlotsAgree) (h : s.LotsAgree) : t.LotsAgree := by
  have same : t.lots = s.lots → t.slots = s.slots → t.LotsAgree := fun hl hs =>
    h.of_alike hl fun n => ⟨id, by rw [State.slot_congr hs]; simp, fun w _ => .refl w⟩
  cases m with
  | engine m =>
    cases m with
    | ends => exact h.endGroup hsl _
    | _ => exact same rfl rfl
  | restart m =>
    cases m with
    | stations => exact same rfl rfl
    | closes n hg =>
      rw [State.finishClosing_of_not (hb.not_closing hg n)]
      exact h
  | accounts m =>
    have hl := (Move.accounts m).frame.lots (by decide)
    obtain ⟨i, b, hib, f, hf⟩ := m.slot_eq
    refine h.of_alike hl fun k => ⟨_, hf k, fun w _ => ?_⟩
    split
    · exact ⟨rfl, rfl, .rfl, rfl⟩
    · exact .refl w
  | cells m =>
    have hl := (Move.cells m).frame.lots (by decide)
    refine h.of_alike hl fun n => ?_
    obtain ⟨d, hd⟩ := m.slot_eq n
    exact ⟨_, hd, fun w _ => ⟨rfl, rfl, .rfl, rfl⟩⟩
  | slots m => exact m.lotsAgree hsl h
  | opens m => exact m.lotsAgree h
  | lots m => exact m.lotsAgree h
  | mex m => exact m.lotsAgree h
  | reset m =>
    cases m
    exact State.reset_lotsAgree.of_alike rfl fun n => ⟨id, by simp [State.slot], fun w _ => .refl w⟩
  | host _ m =>
    have hf := (Move.host g m).frame
    exact same (hf.lots (by decide)) (hf.slots (by decide))
  | alarms m =>
    have hf := (Move.alarms m).frame
    exact same (hf.lots (by decide)) (hf.slots (by decide))
  | link _ m =>
    have hf := (Move.link g m).frame
    exact same (hf.lots (by decide)) (hf.slots (by decide))
  | control | tick => exact same rfl rfl
  | plans m | classes m | rules m | settings m => cases m; exact same rfl rfl

/-! ## O55 and O56 -/

/-- The laws of bindings, slots and lots together, with the work in hand. -/
structure State.TablesIn (g : Hand) (s : State) : Prop where
  bindings : s.BindingIn g
  slots : s.SlotsAgree
  lots : s.LotsAgree

theorem Move.tablesIn {d : Domain} {g g' : Hand} {s t : State} (m : Move d g s g' t) (h : s.TablesIn g) :
    t.TablesIn g' :=
  ⟨m.bindingIn h.bindings,
    m.slotsAgree h.bindings (fun e l hl => (h.lots.fits e l hl).expected.2) h.slots,
    m.lotsAgree h.bindings h.slots h.lots⟩

theorem State.tablesIn_idle (s : State) : s.TablesIn .idle ↔ s.BindingLaw ∧ s.SlotLaw ∧ s.LotLaw := by
  rw [← State.bindingIn_idle, ← State.slotsAgree_iff, ← State.lotsAgree_iff]
  exact ⟨fun h => ⟨h.1, h.2, h.3⟩, fun h => ⟨h.1, h.2.1, h.2.2⟩⟩

/-- Every step keeps the laws of bindings, slots and lots together. -/
theorem step_tables {s t : State} (hs : s.BindingLaw ∧ s.SlotLaw ∧ s.LotLaw) (he : step s = .next t) :
    t.BindingLaw ∧ t.SlotLaw ∧ t.LotLaw := by
  rw [← State.tablesIn_idle] at hs ⊢
  refine step_keeps (P := fun g u => u.TablesIn g) (fun _ _ _ _ _ m hu => m.tablesIn hu) ?_ he hs
  intro u q hu
  rw [State.tablesIn_idle] at hu ⊢
  exact hu

/-- Settles O55: every move keeps the laws of bindings, slots and lots together. -/
theorem everyStepKeepsSlotLaw : Obligations.EveryStepKeepsSlotLaw := by
  intro s t hb hl hs he
  exact (step_tables ⟨hb, hs, hl⟩ he).2.1

/-- Settles O56: every move keeps the laws of bindings, slots and lots together. -/
theorem everyStepKeepsLotLaw : Obligations.EveryStepKeepsLotLaw := by
  intro s t hb hs hl he
  exact (step_tables ⟨hb, hs, hl⟩ he).2.2

end Sys2Proof.Machine
end

section
/-! PROOF. A slot's plan, and the law of the accounts, past moves that leave the counts and the map. -/

namespace Sys2Proof.Machine

/-! ## The plan of a slot stays -/

theorem State.planOf_of_lot {s : State} (h : s.LotsAgree) {e : Fin 16} {l : Lot} (hl : s.lots[e] = some l) :
    s.planOf l.id = s.plans[l.plan] := by
  unfold State.planOf State.lotOf
  rw [State.lots_some_findLot h hl]
  dsimp only [Option.bind_some]
  rw [hl]

/-- The lot at an entry keeps its id and its plan. -/
def State.LotKept (s t : State) (e : Fin 16) : Prop :=
  ∀ l, s.lots[e] = some l → ∃ l' : Lot, t.lots[e] = some l' ∧ l'.id = l.id ∧ l'.plan = l.plan

theorem State.LotKept.of_eq {s t : State} (h : t.lots = s.lots) (e : Fin 16) : s.LotKept t e :=
  fun l hl => ⟨l, by rw [h]; exact hl, rfl, rfl⟩

theorem State.LotKept.of_set {s t : State} {f : Fin 16} {k k' : Lot} (hk : s.lots[f] = some k)
    (hid : k'.id = k.id) (hp : k'.plan = k.plan) (h : t.lots = s.lots.set f (some k')) (e : Fin 16) :
    s.LotKept t e := by
  intro l hl
  have ht : t.lots[e] = if f = e then some k' else s.lots[e] := by
    rw [h]; exact State.lots_setLot s f e _
  rw [ht]
  split
  · rename_i ef
    subst ef
    obtain rfl : k = l := by rw [hk] at hl; exact Option.some.inj hl
    exact ⟨k', rfl, hid, hp⟩
  · exact ⟨l, hl, rfl, rfl⟩

theorem Lot.closes_id (w : Wafer) (l : Lot) : (l.closes w).id = l.id := by simp [Lot.closes, Lot.join]
theorem Lot.closes_plan (w : Wafer) (l : Lot) : (l.closes w).plan = l.plan := by simp [Lot.closes, Lot.join]

theorem State.completeClose_lotKept {s : State} (h : s.LotsAgree) (n : SlotId) (d : Bool) (e : Fin 16) :
    s.LotKept (s.completeClose n d) e := by
  cases hw : s.slot n with
  | none => rw [State.completeClose_of_none hw]; exact .of_eq rfl e
  | some w =>
    obtain ⟨f, l, hl, -, hf, -⟩ := h.lot_of_slot hw
    exact .of_set hl (Lot.closes_id w l) (Lot.closes_plan w l) (State.completeClose_lots hw hf hl d) e

theorem State.endGroup_lotKept {s : State} (h : s.LotsAgree) (i : StationId) (e : Fin 16) :
    s.LotKept (s.endGroup i) e := by
  cases hc : s.endCloses i with
  | false => rw [State.endGroup_of_not_closes i hc]; exact .of_eq rfl e
  | true =>
    obtain ⟨n, hn, hcl⟩ := State.endCloses_iff.1 hc
    obtain ⟨b, hbi, rfl⟩ := Option.map_eq_some_iff.1 hn
    obtain ⟨w, hw, -⟩ := State.slot_of_slotState hcl
    obtain ⟨f, l, hl, -, hf, -⟩ := h.lot_of_slot hw
    refine .of_set hl (Lot.closes_id w l) (Lot.closes_plan w l) ?_ e
    rw [State.endGroup_of_closing i hbi hcl, State.modStation_lots]
    exact State.completeClose_lots (s := s.modStation i _) hw hf hl true

/-- Every move but a reset leaves a lot that a slot names its id and its plan. -/
theorem Move.lotKept {d : Domain} {g g' : Hand} {s t : State} (m : Move d g s g' t) (hr : d ≠ .reset)
    (hb : s.BindingIn g) (h : s.LotsAgree) {n : SlotId} {w : Wafer} (hw : s.slot n = some w) {e : Fin 16}
    {l : Lot} (hl : s.lots[e] = some l) (hid : l.id = w.lot) : s.LotKept t e := by
  by_cases hd : d ∈ [.engine, .restart, .lots, .slots, .opens, .reset]
  case neg => exact .of_eq (m.frame.lots hd) e
  cases m with
  | engine m =>
    cases m with
    | ends => exact State.endGroup_lotKept h _ e
    | _ => exact .of_eq rfl e
  | restart m =>
    cases m with
    | stations => exact .of_eq rfl e
    | closes n hg =>
      rw [State.finishClosing_of_not (hb.not_closing hg n)]
      exact .of_eq rfl e
  | lots m =>
    cases m with
    | opens f id k n hi hn hf he =>
      intro k' hk'
      have hef : f ≠ e := by rintro rfl; rw [he] at hl; cases hl
      exact ⟨k', by rw [State.lots_setLot, if_neg hef]; exact hk', rfl, rfl⟩
    | closes f k hk => exact .of_set hk (k' := { k with state := .closed }) rfl rfl rfl e
    | waits f k hk => exact .of_set hk (k' := { k with state := .closing }) rfl rfl rfl e
    | frees f k hk hc hs =>
      intro k' hk'
      have hef : f ≠ e := by
        rintro rfl
        rw [hl] at hk
        obtain rfl := Option.some.inj hk
        have := List.any_eq_false.1 hs n (List.mem_finRange n)
        rw [hw] at this
        simp [hid] at this
      exact ⟨k', by rw [State.lots_setLot, if_neg hef]; exact hk', rfl, rfl⟩
  | slots m =>
    cases m with
    | closes n => exact State.completeClose_lotKept h n false e
    | reopens n v f hv hc hf hx =>
      obtain ⟨f', k, hk, -, hf', -⟩ := h.lot_of_slot hv
      obtain rfl : f = f' := by rw [hf] at hf'; exact Option.some.inj hf'
      refine .of_set hk (k' := { k.leave v.number (v.closing.getD Totals.zero) with active := k.active + 1 })
        rfl rfl ?_ e
      show s.lots.set f (s.lots[f].map _) = _
      rw [hk]
      rfl
    | _ => exact .of_eq rfl e
  | opens m =>
    cases m with
    | takes n f k tag p hp hc hf hk =>
      refine .of_set hk (k' := { k with active := k.active + 1 }) rfl rfl ?_ e
      show s.lots.set f (s.lots[f].map _) = _
      rw [hk]
      rfl
  | reset => exact absurd rfl hr
  | _ => simp at hd

/-- The plan of a slot's lot stays through every move but a reset: a plan in use cannot be loaded (R12). -/
theorem Move.planOf_eq {d : Domain} {g g' : Hand} {s t : State} (m : Move d g s g' t) (hr : d ≠ .reset)
    (h : s.TablesIn g) {n : SlotId} {w : Wafer} (hw : s.slot n = some w) :
    t.planOf w.lot = s.planOf w.lot := by
  obtain ⟨e, l, hl, hid, -⟩ := h.lots.named n w hw
  obtain ⟨l', hl', hid', hp'⟩ := m.lotKept hr h.bindings h.lots hw hl hid l hl
  have ht := State.planOf_of_lot (m.tablesIn h).lots hl'
  rw [hid', hid] at ht
  replace ht := ht.trans (congrArg (fun p => t.plans[p]) hp')
  have hs := State.planOf_of_lot h.lots hl
  rw [hid] at hs
  rw [ht, hs]
  by_cases hd : d = .plans
  · subst hd
    cases m with
    | plans m =>
      cases m with
      | loads k p hu =>
        have hne : k ≠ l.plan := by
          rintro rfl
          have := List.any_eq_false.1 hu e (List.mem_finRange e)
          rw [hl] at this
          simp at this
        have : k.val ≠ l.plan.val := fun hx => hne (Fin.ext hx)
        simp [this]
  · rw [m.frame.plans (by simp [hd, hr])]

/-! ## The accounts with the work in hand -/

/-- The law of the accounts, while work is in hand: of the group in hand only the entries that are still to be
committed have to fit, and they name distinct cells (R69). -/
structure State.AccountIn (h : Hand) (s : State) : Prop where
  slots : ∀ n w, s.slot n = some w → s.SlotAccounts n w
  entries : ∀ i b g w, (s.station i).binding = some b → (s.station i).group = some g → s.slot b.slot = some w →
    ∀ e ∈ h.entries i g, s.EntryFits b.slot w e
  left : ∀ i f o es, h = .busy i f o (some es) → (es.map Entry.cell).Nodup

theorem State.accountIn_idle (s : State) : s.AccountIn .idle ↔ s.AccountLaw := by
  constructor
  · rintro ⟨h1, h2, -⟩
    refine ⟨fun n w hw => h1 n w (by simpa using hw), ?_⟩
    intro i b hb g hg w hw e he
    exact h2 i b g w (by simpa using hb) (by simpa using hg) (by simpa using hw) e he
  · rintro ⟨h1, h2⟩
    refine ⟨fun n w hw => h1 n w (by simpa using hw), ?_, by simp⟩
    intro i b g w hb hg hw e he
    exact h2 i b (by simpa using hb) g (by simpa using hg) w (by simpa using hw) e he

/-- Two records of a slot with one outline, lot and counts of its cells. -/
structure Wafer.SameLedger (v w : Wafer) : Prop where
  lot : w.lot = v.lot
  cols : w.cols = v.cols
  rows : w.rows = v.rows
  spans : w.spans = v.spans
  gross : w.gross = v.gross
  tested : w.acc.tested = v.acc.tested
  passed : w.acc.passed = v.acc.passed
  hist : w.acc.hist = v.acc.hist
  damaged : w.acc.damaged = v.acc.damaged

theorem Wafer.SameLedger.refl (w : Wafer) : w.SameLedger w := ⟨rfl, rfl, rfl, rfl, rfl, rfl, rfl, rfl, rfl⟩

/-- The words of a slot's area stay listed with their records. -/
structure State.MapKept (s t : State) (n : SlotId) : Prop where
  keys : ∀ k < 65536, cellAddress n k ∈ s.mem.map Prod.fst → cellAddress n k ∈ t.mem.map Prod.fst
  records : ∀ k < 65536, t.cellRecord n k = s.cellRecord n k

theorem State.MapKept.of_mem {s t : State} (h : t.mem = s.mem) (n : SlotId) : s.MapKept t n :=
  ⟨fun k _ => by rw [h]; exact id, fun k _ => by unfold State.cellRecord State.cellWord; rw [h]⟩

theorem Wafer.Lawful.cells_le {w : Wafer} (h : w.Lawful) : w.cols * w.rows ≤ 65536 := by
  obtain ⟨-, -, -, h4, -, h6, -⟩ := h
  calc w.cols * w.rows ≤ 256 * 256 := Nat.mul_le_mul h4 h6
    _ = 65536 := rfl

theorem State.MapKept.cells_eq {s t : State} {n : SlotId} (h : s.MapKept t n) {w : Wafer} (hw : w.Lawful) :
    t.cells n w = s.cells n w := by
  have := hw.cells_le
  exact List.map_congr_left fun k hk => h.records k (by have := List.mem_range.1 hk; omega)

/-- The accounts of a slot hang on its words, its plan, its outline and its accumulators. -/
theorem State.SlotAccounts.transfer {s t : State} {n : SlotId} {v w : Wafer} (h : s.SlotAccounts n v)
    (hv : v.Lawful) (hm : s.MapKept t n) (hp : t.planOf v.lot = s.planOf v.lot) (hl : v.SameLedger w) :
    t.SlotAccounts n w := by
  obtain ⟨l1, l2, l3, l4, l5, l6, l7, l8, l9⟩ := hl
  have hcells : t.cells n w = s.cells n v := by
    rw [← hm.cells_eq hv]
    unfold State.cells
    rw [l2, l3]
  have hlt := hv.cells_le
  unfold State.SlotAccounts at h ⊢
  rw [hcells, l1, l2, l3, l4, l5, l6, l7, l8, l9, hp]
  obtain ⟨h1, h2, h3⟩ := h
  refine ⟨fun k hk => hm.keys k (by omega) (h1 k hk), fun k hk hon => ?_, h3⟩
  rw [hm.records k (by omega)]
  exact h2 k hk hon

theorem State.EntryFits.transfer {s t : State} {n : SlotId} {v w : Wafer} {e : Entry} (h : s.EntryFits n v e)
    (hr : t.cellRecord n e.cell = s.cellRecord n e.cell) (hp : t.planOf v.lot = s.planOf v.lot)
    (hl : w.lot = v.lot) (hc : w.cols = v.cols) (hrw : w.rows = v.rows) : t.EntryFits n w e := by
  unfold State.EntryFits at h ⊢
  rw [hr, hl, hc, hrw, hp]
  exact h

/-- Moves that leave the counts and the words of every slot. -/
theorem State.AccountIn.of_kept {g g' : Hand} {s t : State} (h : s.AccountIn g) (hsl : s.SlotsAgree)
    (hslot : ∀ n w, t.slot n = some w → ∃ v, s.slot n = some v ∧ v.SameLedger w)
    (hmap : ∀ n w, s.slot n = some w → s.MapKept t n)
    (hplan : ∀ n w, s.slot n = some w → t.planOf w.lot = s.planOf w.lot)
    (hent : ∀ i b gr, (t.station i).binding = some b → (t.station i).group = some gr → ∀ e ∈ g'.entries i gr,
      (∃ gr', (s.station i).binding = some b ∧ (s.station i).group = some gr' ∧ e ∈ g.entries i gr') ∨
        ∀ w, s.slot b.slot = some w → s.EntryFits b.slot w e)
    (hleft : ∀ i f o es, g' = .busy i f o (some es) → (es.map Entry.cell).Nodup) : t.AccountIn g' := by
  refine ⟨?_, ?_, hleft⟩
  · intro n w hw
    obtain ⟨v, hv, hl⟩ := hslot n w hw
    exact (h.slots n v hv).transfer (hsl.lawful n v hv) (hmap n v hv) (hplan n v hv) hl
  · intro i b gr w hb hg hw e he
    obtain ⟨v, hv, hl⟩ := hslot b.slot w hw
    have hfit : s.EntryFits b.slot v e := by
      rcases hent i b gr hb hg e he with ⟨gr', hb', hg', he'⟩ | hf
      · exact h.entries i b gr' v hb' hg' hv e he'
      · exact hf v hv
    have hlt : e.cell < 65536 := by
      have := (hsl.lawful b.slot v hv).cells_le
      have := hfit.1
      omega
    exact hfit.transfer ((hmap b.slot v hv).records _ hlt) (hplan b.slot v hv) hl.lot hl.cols hl.rows

/-- The same, where bindings and the entries of groups stay too, and the hand. -/
theorem State.AccountIn.of_stations {g : Hand} {s t : State} (h : s.AccountIn g) (hsl : s.SlotsAgree)
    (hslot : ∀ n w, t.slot n = some w → ∃ v, s.slot n = some v ∧ v.SameLedger w)
    (hmap : ∀ n w, s.slot n = some w → s.MapKept t n)
    (hplan : ∀ n w, s.slot n = some w → t.planOf w.lot = s.planOf w.lot)
    (hb : ∀ i b, (t.station i).binding = some b → (s.station i).binding = some b)
    (hg : ∀ i gr, (t.station i).group = some gr → ∃ gr', (s.station i).group = some gr' ∧ gr.entries = gr'.entries) :
    t.AccountIn g := by
  refine h.of_kept hsl hslot hmap hplan (fun i b gr hb' hg' e he => ?_) h.left
  obtain ⟨gr', hgr, hee⟩ := hg i gr hg'
  refine .inl ⟨gr', hb i b hb', hgr, ?_⟩
  have : g.entries i gr = g.entries i gr' := by
    cases g with
    | idle => exact hee
    | busy j f o l =>
      cases l with
      | none => exact hee
      | some es =>
        simp only [Hand.entries_busy_some]
        rw [hee]
  rw [← this]
  exact he

end Sys2Proof.Machine
end

section
/-! PROOF. The law of the accounts past the moves that change no count and no word. -/

namespace Sys2Proof.Machine

/-! ## Binding and entries of a station -/

/-- What the law of the accounts reads of a station: its binding and the entries of its group. -/
def Station.work (x : Station) : Option Binding × Option (List Entry) := (x.binding, x.group.map Group.entries)

theorem Station.work_congr {x y : Station} (hb : y.binding = x.binding) (hg : y.group = x.group) :
    y.work = x.work := by
  unfold Station.work
  rw [hb, hg]

theorem Move.work_eq {d : Domain} {g g' : Hand} {s t : State} (m : Move d g s g' t)
    (hd : d ∉ [.engine, .restart, .slots, .reset]) (j : StationId) :
    (t.station j).work = (s.station j).work := by
  by_cases hn : d ∈ [.link, .control, .tick, .engine, .restart, .accounts, .alarms, .settings, .slots, .reset]
  case neg => rw [State.station_congr (m.frame.stations hn)]
  cases m with
  | link _ m =>
    cases m with
    | quiet i f hq => exact State.modStation_keeps Station.work i s (Station.work_congr hq.binding hq.group) j
    | arms => rfl
  | control _ i f hc =>
    exact State.modStation_keeps Station.work i s (Station.work_congr hc.binding hc.group) j
  | tick => simp [State.station, Station.work, Station.tick, Function.comp_def]
  | accounts m =>
    cases m with
    | timeout => rfl
    | _ => exact State.modStation_keeps Station.work _ _ rfl j
  | alarms m =>
    cases m with
    | judges w f a =>
      refine State.judge_keeps Station.work (fun k l x => ?_) w f a s j
      obtain ⟨it, tr, hx⟩ := Station.hold_form k l x
      rw [hx]
      rfl
    | acknowledges level =>
      obtain ⟨_, _, _, _, e⟩ := State.acknowledge_form level s
      rw [e]
      rfl
    | clears => rfl
  | settings m =>
    cases m
    exact State.modStation_keeps Station.work _ s rfl j
  | engine | restart | slots | reset => simp at hd
  | _ => simp at hn

theorem State.AccountIn.of_work {g : Hand} {s t : State} (h : s.AccountIn g) (hsl : s.SlotsAgree)
    (hslot : ∀ n w, t.slot n = some w → ∃ v, s.slot n = some v ∧ v.SameLedger w)
    (hmap : ∀ n w, s.slot n = some w → s.MapKept t n)
    (hplan : ∀ n w, s.slot n = some w → t.planOf w.lot = s.planOf w.lot)
    (hw : ∀ j, (t.station j).work = (s.station j).work) : t.AccountIn g := by
  refine h.of_stations hsl hslot hmap hplan (fun i b hb => ?_) fun i gr hg => ?_
  · rw [← hb]
    exact (congrArg Prod.fst (hw i)).symm
  · have := congrArg Prod.snd (hw i)
    simp only [Station.work, hg, Option.map_some] at this
    obtain ⟨gr', h1, h2⟩ := Option.map_eq_some_iff.1 this.symm
    exact ⟨gr', h1, h2.symm⟩

/-! ## The slots past the moves of slots and of the Map Export Unit -/

theorem Wafer.SameLedger.of_state (w : Wafer) (x : WaferState) (c : Option Totals) :
    w.SameLedger { w with state := x, closing := c } :=
  ⟨rfl, rfl, rfl, rfl, rfl, rfl, rfl, rfl, rfl⟩

/-- Every slot that is not FREE has the ledger it had. -/
def State.LedgersKept (s t : State) : Prop :=
  ∀ n w, t.slot n = some w → ∃ v, s.slot n = some v ∧ v.SameLedger w

theorem State.LedgersKept.of_slots {s t : State} (h : t.slots = s.slots) : s.LedgersKept t := by
  intro n w hw
  rw [State.slot_congr h] at hw
  exact ⟨w, hw, .refl w⟩

theorem State.LedgersKept.of_set {s t : State} {n : SlotId} {v : Wafer} {x : Option Wafer}
    (hv : s.slot n = some v) (hx : ∀ w, x = some w → v.SameLedger w)
    (ht : ∀ m, t.slot m = if n = m then x else s.slot m) : s.LedgersKept t := by
  intro m w hw
  rw [ht] at hw
  split at hw
  · rename_i e
    subst e
    exact ⟨v, hv, hx w hw⟩
  · exact ⟨w, hw, .refl w⟩

theorem State.completeClose_ledgersKept (n : SlotId) (d : Bool) (s : State) :
    s.LedgersKept (s.completeClose n d) := by
  cases hv : s.slot n with
  | none => rw [State.completeClose_of_none hv]; exact .of_slots rfl
  | some v =>
    refine .of_set hv (x := some v.closed) (fun w hw => ?_) (State.completeClose_slot hv d)
    obtain rfl := Option.some.inj hw
    exact .of_state v _ _

theorem State.endExport_ledgersKept (s : State) : s.LedgersKept s.endExport := by
  intro n w hw
  cases hm : s.mex with
  | none =>
    unfold State.endExport at hw
    rw [hm] at hw
    exact ⟨w, hw, .refl w⟩
  | some m =>
    rw [State.endExport_slot hm] at hw
    obtain ⟨v, hv, rfl⟩ := Option.map_eq_some_iff.1 hw
    refine ⟨v, hv, ?_⟩
    split
    · obtain ⟨x, hx⟩ := v.endExport_form
      rw [hx]
      exact .of_state v _ _
    · exact .refl v

theorem State.modWafer_ledgersKept {n : SlotId} {f : Wafer → Wafer} (hf : ∀ w : Wafer, w.SameLedger (f w)) (s : State) :
    s.LedgersKept (s.modWafer n f) := by
  intro m w hw
  rw [State.slot_modWafer] at hw
  split at hw
  · rename_i e
    subst e
    obtain ⟨v, hv, rfl⟩ := Option.map_eq_some_iff.1 hw
    exact ⟨v, hv, hf v⟩
  · exact ⟨w, hw, .refl w⟩

theorem SlotMove.ledgersKept {s t : State} (m : SlotMove s t) : s.LedgersKept t := by
  cases m with
  | initialised tag n f h =>
    exact State.modWafer_ledgersKept (fun w => .of_state w .opened w.closing) { s with inProgress := none }
  | closes n => exact State.completeClose_ledgersKept n false s
  | waits n => exact State.modWafer_ledgersKept (fun w => .of_state w .closing w.closing) s
  | reopens n v e hv =>
    refine .of_set hv (x := some { v with state := .opened, closing := none }) (fun w hw => ?_)
      fun k => State.slot_setSlot (s.modLot e _) n k _
    obtain rfl := Option.some.inj hw
    exact .of_state v _ _
  | frees n hc =>
    intro k w hw
    rw [State.slot_setSlot] at hw
    split at hw
    · cases hw
    · exact ⟨w, hw, .refl w⟩

theorem MexMove.ledgersKept {s t : State} (m : MexMove s t) : s.LedgersKept t := by
  cases m with
  | starts n v d k hm hv =>
    refine .of_set hv (x := some { v with state := .exporting }) (fun w hw => ?_)
      fun j => State.slot_setSlot ({ s with mex := _ } : State) n j _
    obtain rfl := Option.some.inj hw
    exact .of_state v .exporting v.closing
  | halts => exact State.endExport_ledgersKept s
  | stops => exact State.endExport_ledgersKept { s with inProgress := none }
  | endTaken => exact State.endExport_ledgersKept s
  | _ => exact .of_slots rfl

theorem SlotMove.stations_kept {s t : State} (m : SlotMove s t) (i : StationId) :
    (t.station i).group = (s.station i).group ∧
      ∀ b, (t.station i).binding = some b → (s.station i).binding = some b := by
  cases m with
  | closes n =>
    refine ⟨State.completeClose_keeps Station.group (fun _ => rfl) n false s i, fun b hb => ?_⟩
    cases hv : s.slot n with
    | none => rw [State.completeClose_of_none hv] at hb; exact hb
    | some v =>
      rw [State.completeClose_station hv] at hb
      split at hb
      · cases hb
      · exact hb
  | _ => exact ⟨rfl, fun _ => id⟩

/-! ## The engine's work for a station -/

/-- The cell of an entry that the checks of Table 4.2 let through has room for it (R66, R67). -/
theorem cellHasRoom_of_limitCheck {p : Plan} {b : Bin} {c : CellRecord} (hr : p.isResult b = true)
    (ho : c ≠ .offWafer) (hl : limitCheck p b c = none) : cellHasRoom p.limit c = true := by
  cases c with
  | offWafer => exact absurd rfl ho
  | untested => rfl
  | damaged => rfl
  | tested final first count site st =>
    unfold limitCheck at hl
    rw [hr] at hl
    dsimp only at hl
    split at hl
    · contradiction
    · split at hl
      · cases hl
      · simp [cellHasRoom]; omega

theorem State.AccountIn.lawful_entries {g : Hand} {s : State} (h : s.TablesIn g) {i : StationId} {gr : Group}
    (hg : (s.station i).group = some gr) : (gr.entries.map Entry.cell).Nodup :=
  (h.bindings.lawful i gr hg).2.2.2

/-- Work for a station that changes its own record alone, with entries that stood in hand before or fit. -/
theorem State.AccountIn.of_modStation {g g' : Hand} {s : State} (h : s.AccountIn g) (hsl : s.SlotsAgree)
    {i : StationId} {f : Station → Station}
    (hself : ∀ b gr, (f (s.station i)).binding = some b → (f (s.station i)).group = some gr →
      ∀ e ∈ g'.entries i gr,
      (∃ gr', (s.station i).binding = some b ∧ (s.station i).group = some gr' ∧ e ∈ g.entries i gr') ∨
        ∀ w, s.slot b.slot = some w → s.EntryFits b.slot w e)
    (hother : ∀ j gr, i ≠ j → g'.entries j gr = g.entries j gr)
    (hleft : ∀ i f o es, g' = .busy i f o (some es) → (es.map Entry.cell).Nodup) :
    (s.modStation i f).AccountIn g' := by
  refine h.of_kept hsl (State.LedgersKept.of_slots rfl) (fun n _ _ => State.MapKept.of_mem (s := s) (t := s.modStation i f) rfl n)
    (fun _ _ _ => rfl) ?_ hleft
  intro j b gr hb hg e he
  rw [State.station_modStation] at hb hg
  split at hb
  · rename_i hij
    subst hij
    rw [if_pos rfl] at hg
    exact hself b gr hb hg e he
  · rename_i hij
    rw [if_neg hij] at hg
    rw [hother j gr hij] at he
    exact .inl ⟨gr, hb, hg, he⟩

theorem Hand.entries_of_left_none (i j : StationId) (f o : Bool) (g : Group) :
    (Hand.busy j f o none).entries i g = Hand.idle.entries i g := rfl

theorem Hand.entries_isFor {g : Hand} {i j : StationId} (h : g.isFor i) (hij : i ≠ j) (gr : Group) :
    g.entries j gr = gr.entries := by
  cases g with
  | idle => rfl
  | busy k f o l =>
    obtain rfl := h k f o l rfl
    cases l with
    | none => rfl
    | some es => rw [Hand.entries_busy_some, if_neg (Ne.symm hij)]

theorem State.endGroup_mem (i : StationId) (s : State) : (s.endGroup i).mem = s.mem := by
  obtain ⟨_, _, _, _, _, e⟩ := State.endGroup_ended i s
  rw [e]

theorem EngineMove.accountIn {g g' : Hand} {s t : State} (m : EngineMove g s g' t) (ht : s.TablesIn g)
    (hplan : ∀ n w, s.slot n = some w → t.planOf w.lot = s.planOf w.lot) (h : s.AccountIn g) : t.AccountIn g' := by
  have quiet : ∀ {g g' : Hand} {s : State} {i : StationId} {f : Station → Station}, s.AccountIn g → s.SlotsAgree →
      (∀ b, (f (s.station i)).binding = some b → (s.station i).binding = some b) →
      ((f (s.station i)).group = (s.station i).group) → (∀ j gr, g'.entries j gr = g.entries j gr) →
      (∀ i f o es, g' = .busy i f o (some es) → (es.map Entry.cell).Nodup) → (s.modStation i f).AccountIn g' := by
    intro g g' s i f h hsl hb hg he hl
    refine h.of_modStation hsl (fun b gr hb' hg' e he' => .inl ⟨gr, hb b hb', by rw [← hg]; exact hg', ?_⟩)
      (fun j gr _ => he j gr) hl
    rw [← he]; exact he'
  have regrip : ∀ {g g' : Hand} {s : State}, s.AccountIn g → (∀ j gr, g'.entries j gr = g.entries j gr) →
      (∀ i f o es, g' = .busy i f o (some es) → (es.map Entry.cell).Nodup) → s.AccountIn g' := by
    intro g g' s h he hl
    exact ⟨h.slots, fun i b gr w hb hg hw e hm => h.entries i b gr w hb hg hw e (he i gr ▸ hm), hl⟩
  cases m with
  | takes _ i r rest hs => exact quiet h ht.slots (fun _ => id) rfl (fun _ _ => rfl) (by simp)
  | picks _ i => exact regrip h (fun _ _ => rfl) (by simp)
  | lays _ i o => exact regrip h (fun _ _ => rfl) (by simp)
  | faults _ i _ hh hf =>
    refine quiet h ht.slots (fun _ => id) rfl (fun j gr => ?_) (by simp)
    rcases hh with rfl | ⟨o, rfl⟩ <;> rfl
  | faulted _ i hg => exact quiet h ht.slots (fun _ hb => by cases hb) rfl (fun _ _ => rfl) (by simp)
  | delivers _ i y =>
    exact quiet h ht.slots (fun b hb => by rw [← hb]; unfold Station.deliver; split <;> rfl)
      (Station.deliver_group y _) (fun _ _ => rfl) (by simp)
  | discards _ i y =>
    exact quiet h ht.slots (fun b hb => by rw [← hb]; unfold Station.deliver; split <;> rfl)
      (Station.deliver_group y _) (fun _ _ => rfl) (by simp)
  | unbinds _ i f o hg => exact quiet h ht.slots (fun _ hb => by cases hb) rfl (fun _ _ => rfl) (by simp)
  | binds _ i f o n q hb hn hf =>
    refine h.of_modStation ht.slots (fun b gr hb' hg' e he => ?_) (fun _ _ _ => rfl) (by simp)
    have hg : (s.station i).group = some gr := hg'
    have := ht.bindings.grouped i (by rw [hg]; rfl)
    simp [Station.bound, hb] at this
  | opens _ i f o gr hb hg hi ha he =>
    refine h.of_modStation ht.slots (fun b gr' hb' hg' e he' => ?_) (fun _ _ _ => rfl) (by simp)
    obtain rfl : gr = gr' := Option.some.inj hg'
    rw [Hand.entries_busy_none, he] at he'
    cases he'
  | joins _ i f o b gr w e hb hg hw hs hn hc hk hu hd hl =>
    refine h.of_modStation ht.slots (fun b' gr' hb' hg' e' he' => ?_) (fun _ _ _ => rfl) (by simp)
    have hgj : (some gr).map (fun g => { g with entries := g.entries ++ [e] }) = some gr' := by
      rw [← hg]; exact hg'
    obtain rfl := Option.some.inj hgj
    obtain rfl : b = b' := by
      have : (s.station i).binding = some b' := hb'
      rw [hb] at this
      exact Option.some.inj this
    simp only [Hand.entries_busy_none, List.mem_append, List.mem_singleton] at he'
    rcases he' with he' | rfl
    · exact .inl ⟨gr, hb, hg, he'⟩
    · refine .inr fun w' hw' => ?_
      obtain rfl : w = w' := by rw [hw] at hw'; exact Option.some.inj hw'
      have hoff := (h.slots b.slot w hw).2.1 e'.cell hk.1 hk.2
      exact ⟨hk.1, hu, hoff, fun hr => cellHasRoom_of_limitCheck hr hoff hl⟩
  | begins _ i f o gr es hg hp =>
    refine ⟨h.slots, fun j b gr' w hb hg' hw e he => h.entries j b gr' w hb hg' hw e ?_, ?_⟩
    · rw [Hand.entries_busy_some] at he
      split at he
      · rename_i hij
        subst hij
        obtain rfl : gr = gr' := by rw [hg] at hg'; exact Option.some.inj hg'
        exact hp.mem_iff.1 he
      · exact he
    · intro i' f' o' es' e
      cases e
      exact (hp.map Entry.cell).nodup_iff.2 (State.AccountIn.lawful_entries ht hg)
  | passes _ i f o e es =>
    refine ⟨h.slots, fun j b gr' w hb hg' hw e' he => h.entries j b gr' w hb hg' hw e' ?_, ?_⟩
    · rw [Hand.entries_busy_some] at he ⊢
      split
      · rename_i hij
        rw [if_pos hij] at he
        exact List.mem_cons_of_mem _ he
      · rename_i hij
        rw [if_neg hij] at he
        exact he
    · intro i' f' o' es' e'
      cases e'
      have := h.left i f o (e :: es) rfl
      exact (List.nodup_cons.1 this).2
  | ends _ i _ hh =>
    have hst := State.endGroup_station ht.bindings.apart (i := i) (s := s)
    have hsl := State.endGroup_slot (i := i) (s := s)
    refine h.of_kept ht.slots ?_ (fun n _ _ => .of_mem (State.endGroup_mem i s) n) hplan ?_ ?_
    · intro n w hw
      rw [hsl] at hw
      split at hw
      · obtain ⟨v, hv, rfl⟩ := Option.map_eq_some_iff.1 hw
        exact ⟨v, hv, .of_state v _ _⟩
      · exact ⟨w, hw, .refl w⟩
    · intro j b gr hb hg e he
      rw [hst] at hb hg
      split at hb
      · rename_i hij
        subst hij
        rw [if_pos rfl, Station.ended_group] at hg
        cases hg
      · rename_i hij
        rw [if_neg hij] at hg
        rw [Hand.entries_cleared] at he
        exact .inl ⟨gr, hb, hg, by rw [Hand.entries_isFor hh hij]; exact he⟩
    · intro i' f' o' es' e'
      cases g <;> cases e'

end Sys2Proof.Machine
end

section
/-! PROOF. The law of the accounts where one word is rewritten: the counts of a map of which one cell changes. -/

namespace Sys2Proof.Machine

/-! ## Counts over a map -/

/-- 1 for true, 0 for false. -/
def oneIf (b : Bool) : Nat := if b = true then 1 else 0

@[simp] theorem oneIf_true : oneIf true = 1 := rfl
@[simp] theorem oneIf_false : oneIf false = 0 := rfl

theorem countP_range_change {p : CellRecord → Bool} {f g : Nat → CellRecord} {N k : Nat} (hk : k < N)
    (h : ∀ m < N, m ≠ k → g m = f m) :
    ((List.range N).map g).countP p + oneIf (p (f k)) = ((List.range N).map f).countP p + oneIf (p (g k)) := by
  induction N with
  | zero => omega
  | succ N ih =>
    simp only [List.range_succ, List.map_append, List.map_cons, List.map_nil, List.countP_append,
      List.countP_singleton]
    change _ + oneIf (p (g N)) + _ = _ + oneIf (p (f N)) + _
    by_cases hN : k = N
    · subst hN
      have : (List.range k).map g = (List.range k).map f :=
        List.map_congr_left fun m hm => h m (by have := List.mem_range.1 hm; omega)
          (by have := List.mem_range.1 hm; omega)
      rw [this]
      omega
    · have := ih (by omega) fun m hm => h m (by omega)
      rw [h N (by omega) (fun e => hN e.symm)]
      omega

theorem hist_sum_eq (h : Vector Nat 64) : h.toList.sum = ((List.finRange 64).map fun b => h[b]).sum := by
  congr 1
  apply List.ext_getElem
  · simp
  · intro n h1 h2
    simp

theorem hist_set (h : Vector Nat 64) (a b : Bin) (x : Nat) : (h.set a x)[b] = if a = b then x else h[b] := by
  rw [Fin.getElem_fin, Vector.getElem_set]
  simp only [Fin.ext_iff]
  rfl

/-- The sum of a histogram of which one bin changes. -/
theorem hist_sum_set (h : Vector Nat 64) (a : Bin) (x : Nat) :
    (h.set a x).toList.sum + h[a] = h.toList.sum + x := by
  rw [hist_sum_eq, hist_sum_eq]
  have := sum_map_change (List.nodup_finRange 64) (List.mem_finRange a) (f := fun b => (h.set a x)[b])
    (g := fun b => h[b]) fun b hb => by rw [hist_set, if_neg (Ne.symm hb)]
  rw [hist_set, if_pos rfl] at this
  exact this

/-- The PASS bins of a histogram of which one bin changes. -/
theorem passes_set (p : Plan) (h : Vector Nat 64) (a : Bin) (x : Nat) :
    p.passes (h.set a x) + (if p.cls a = .pass then h[a] else 0) =
      p.passes h + if p.cls a = .pass then x else 0 := by
  unfold Plan.passes
  split
  · rename_i hp
    have := sum_map_change ((List.nodup_finRange 64).filter fun b => decide (p.cls b = .pass))
      (List.mem_filter.2 ⟨List.mem_finRange a, by simpa using hp⟩) (f := fun b => (h.set a x)[b])
      (g := fun b => h[b]) fun b hb => by rw [hist_set, if_neg (Ne.symm hb)]
    rw [hist_set, if_pos rfl] at this
    exact this
  · rename_i hp
    have : (((List.finRange 64).filter fun b => decide (p.cls b = .pass)).map fun b => (h.set a x)[b]) =
        (((List.finRange 64).filter fun b => decide (p.cls b = .pass)).map fun b => h[b]) := by
      refine List.map_congr_left fun b hb => ?_
      have hb' := (List.mem_filter.1 hb).2
      rw [hist_set, if_neg]
      rintro rfl
      exact hp (by simpa using hb')
    rw [this]

theorem hist_le_sum (h : Vector Nat 64) (a : Bin) : h[a] ≤ h.toList.sum := by
  rw [hist_sum_eq]
  exact List.le_sum_of_mem (List.mem_map.2 ⟨a, List.mem_finRange a, rfl⟩)

theorem hist_le_passes {p : Plan} (h : Vector Nat 64) {a : Bin} (ha : p.cls a = .pass) : h[a] ≤ p.passes h := by
  unfold Plan.passes
  exact List.le_sum_of_mem
    (List.mem_map.2 ⟨a, List.mem_filter.2 ⟨List.mem_finRange a, by simpa using ha⟩, rfl⟩)

/-! ## One word rewritten -/

theorem cellAddress_inj {n m : SlotId} {j k : Nat} (hj : j < 65536) (hk : k < 65536)
    (h : cellAddress m j = cellAddress n k) : m = n ∧ j = k := by
  unfold cellAddress at h
  constructor
  · apply Fin.ext
    omega
  · omega

/-- The word of one cell becomes the record c; every word stays listed, and the other records stay. -/
structure State.Rewrites (s t : State) (n : SlotId) (k : Nat) (c : CellRecord) : Prop where
  keys : ∀ a ∈ s.mem.map Prod.fst, a ∈ t.mem.map Prod.fst
  here : t.cellRecord n k = c
  other : ∀ m, ∀ j < 65536, (m = n → j ≠ k) → t.cellRecord m j = s.cellRecord m j

theorem State.Rewrites.of_write {s t : State} {n : SlotId} {k : Nat} {c : CellRecord} (hk : k < 65536)
    (h : t.mem = s.mem.write (cellAddress n k) ⟨c, .clean⟩) : s.Rewrites t n k c := by
  refine ⟨fun a ha => ?_, ?_, fun m j hj hne => ?_⟩
  · rw [h]
    exact (Mem.mem_keys_write _ _ _ _).2 (.inr ha)
  · unfold State.cellRecord State.cellWord
    rw [h, Mem.word_write_self]
  · unfold State.cellRecord State.cellWord
    rw [h, Mem.word_write_ne]
    intro e
    obtain ⟨rfl, rfl⟩ := cellAddress_inj hj hk e
    exact hne rfl rfl

theorem State.Rewrites.mapKept {s t : State} {n m : SlotId} {k : Nat} {c : CellRecord} (h : s.Rewrites t n k c)
    (hm : m ≠ n) : s.MapKept t m :=
  ⟨fun _ _ => h.keys _, fun j hj => h.other m j hj fun e => absurd e hm⟩

/-- A rewrite with the record that stood there. -/
theorem State.Rewrites.mapKept_of_same {s t : State} {n : SlotId} {k : Nat} {c : CellRecord}
    (h : s.Rewrites t n k c) (hc : c = s.cellRecord n k) (m : SlotId) : s.MapKept t m := by
  refine ⟨fun _ _ => h.keys _, fun j hj => ?_⟩
  by_cases e : m = n ∧ j = k
  · obtain ⟨rfl, rfl⟩ := e
    rw [h.here, hc]
  · exact h.other m j hj fun e1 e2 => e ⟨e1, e2⟩

theorem State.Rewrites.countP {s t : State} {n : SlotId} {k : Nat} {c : CellRecord} (h : s.Rewrites t n k c)
    {w : Wafer} (hw : w.Lawful) (hk : k < w.cols * w.rows) (p : CellRecord → Bool) :
    (t.cells n w).countP p + oneIf (p (s.cellRecord n k)) = (s.cells n w).countP p + oneIf (p c) := by
  rw [← h.here]
  have := hw.cells_le
  exact countP_range_change hk fun m hm hne => h.other n m (by omega) fun _ => hne

theorem State.cells_congr {s : State} {n : SlotId} {v w : Wafer} (hc : w.cols = v.cols) (hr : w.rows = v.rows) :
    s.cells n w = s.cells n v := by
  unfold State.cells
  rw [hc, hr]

/-- The figures of a wafer before and after one of its cells changes from the record x to the record c. -/
structure Wafer.Books (p : Plan) (v w : Wafer) (x c : CellRecord) : Prop where
  lot : w.lot = v.lot
  cols : w.cols = v.cols
  rows : w.rows = v.rows
  spans : w.spans = v.spans
  gross : w.gross = v.gross
  offWafer : c = .offWafer → x = .offWafer
  sum : v.acc.hist.toList.sum = v.acc.tested → w.acc.hist.toList.sum = w.acc.tested
  passes : p.passes v.acc.hist = v.acc.passed → p.passes w.acc.hist = w.acc.passed
  bins : ∀ b, v.acc.hist[b] + oneIf (cellHasFinal b c) ≤ w.acc.hist[b] + oneIf (cellHasFinal b x)
  untested : w.acc.tested + oneIf (decide (c = .untested)) ≤ v.acc.tested + oneIf (decide (x = .untested))
  damaged : w.acc.tested + oneIf (cellIsTested x) + v.acc.damaged ≤
      v.acc.tested + oneIf (cellIsTested c) + w.acc.damaged ∨ 65536 ≤ w.acc.damaged
  keeps : cellKeepsPlan p c = true

/-- The accounts of a slot of which one cell changes together with the figures. -/
theorem State.SlotAccounts.rewrite {s t : State} {n : SlotId} {v w : Wafer} (h : s.SlotAccounts n v)
    (hv : v.Lawful) (hgr : v.gross ≤ 65536) {k : Nat} {c : CellRecord} (hr : s.Rewrites t n k c)
    (hk : k < v.cols * v.rows)
    (hp : t.planOf v.lot = s.planOf v.lot) (hb : v.Books (s.planOf v.lot) w (s.cellRecord n k) c) :
    t.SlotAccounts n w := by
  obtain ⟨b1, b2, b3, b4, b5, b6, b7, b8, b9, b10, b11, b12⟩ := hb
  obtain ⟨h1, h2, h3, h4, h5, h6, h7, h8⟩ := h
  have hN := hv.cells_le
  have hcount := hr.countP hv hk
  unfold State.SlotAccounts
  rw [State.cells_congr b2 b3, b1, b2, b3, b4, b5, hp]
  refine ⟨fun j hj => hr.keys _ (h1 j hj), fun j hj hon => ?_, b7 h3, b8 h4, fun b => ?_, ?_, ?_, ?_⟩
  · by_cases e : j = k
    · subst e
      rw [hr.here]
      exact fun hc => h2 j hj hon (b6 hc)
    · rw [hr.other n j (by omega) fun _ => e]
      exact h2 j hj hon
  · have := hcount (cellHasFinal b)
    have := h5 b
    have := b9 b
    omega
  · have := hcount (fun c => decide (c = .untested))
    omega
  · have hc1 := hcount cellIsTested
    have hc2 := hcount (fun c => decide (c = .untested))
    rcases b11 with e | e
    · omega
    · omega
  · intro x hx
    obtain ⟨j, hj, rfl⟩ := List.mem_map.1 hx
    have hj' := List.mem_range.1 hj
    by_cases e : j = k
    · subst e
      rw [hr.here]
      exact b12
    · rw [hr.other n j (by omega) fun _ => e]
      exact h8 _ (List.mem_map_of_mem hj)

/-! ## The gross count -/

theorem grossCount_rows {cols rows : Nat} {spans : List Span} {r : Nat}
    (ha : spans.all (fun x => decide (x.first ≤ x.last) && decide (x.last < cols) && decide (x.row < rows)) = true)
    (hr : rowsAscend spans = true) (h0 : ∀ x ∈ spans.head?, r ≤ x.row) :
    grossCount spans ≤ cols * (rows - r) := by
  induction spans generalizing r with
  | nil => simp [grossCount]
  | cons x rest ih =>
    simp only [List.all_cons, Bool.and_eq_true, decide_eq_true_eq] at ha
    obtain ⟨⟨⟨hfl, hlc⟩, hrow⟩, hrest⟩ := ha
    have hx : r ≤ x.row := h0 x (by simp)
    have key : grossCount rest ≤ cols * (rows - (x.row + 1)) := by
      refine ih hrest ?_ ?_
      · cases rest with
        | nil => rfl
        | cons y ys =>
          simp only [rowsAscend, Bool.and_eq_true] at hr
          exact hr.2
      · intro y hy
        cases rest with
        | nil => cases hy
        | cons z zs =>
          obtain rfl : z = y := by simpa using hy
          simp only [rowsAscend, Bool.and_eq_true, decide_eq_true_eq] at hr
          exact hr.1
    have hc : x.cells ≤ cols := by unfold Span.cells; omega
    have hsum : grossCount (x :: rest) = x.cells + grossCount rest := by simp [grossCount]
    rw [hsum]
    calc x.cells + grossCount rest ≤ cols * 1 + cols * (rows - (x.row + 1)) := by omega
      _ = cols * (1 + (rows - (x.row + 1))) := (Nat.mul_add _ _ _).symm
      _ ≤ cols * (rows - r) := Nat.mul_le_mul_left _ (by omega)

theorem Wafer.Lawful.gross_le {w : Wafer} (h : w.Lawful) : w.gross ≤ 65536 := by
  have hc := h.cells_le
  obtain ⟨-, -, -, -, -, -, -, -, hs, hg, -⟩ := h
  simp only [spansValid, Bool.and_eq_true] at hs
  have := grossCount_rows (r := 0) hs.1.2 hs.2 (fun _ _ => Nat.zero_le _)
  rw [hg]
  simp only [Nat.sub_zero] at this
  omega

end Sys2Proof.Machine
end

section
/-! PROOF. The law of the accounts past the commit of an entry and past a read of a cell. -/

namespace Sys2Proof.Machine

/-! ## The figures after an item -/

theorem Plan.isResult_iff {p : Plan} {b : Bin} : p.isResult b = true ↔ p.cls b = .pass ∨ p.cls b = .fail := by
  unfold Plan.isResult
  cases p.cls b <;> simp

@[simp] theorem Acc.site_tested (i : SiteId) (f : SiteTriple → SiteTriple) (a : Acc) :
    (a.site i f).tested = a.tested := rfl
@[simp] theorem Acc.site_passed (i : SiteId) (f : SiteTriple → SiteTriple) (a : Acc) :
    (a.site i f).passed = a.passed := rfl
@[simp] theorem Acc.site_hist (i : SiteId) (f : SiteTriple → SiteTriple) (a : Acc) : (a.site i f).hist = a.hist := rfl
@[simp] theorem Acc.site_damaged (i : SiteId) (f : SiteTriple → SiteTriple) (a : Acc) :
    (a.site i f).damaged = a.damaged := rfl

/-- A first result (R87). -/
theorem Wafer.books_first {p : Plan} {e : Entry} (hl : 1 ≤ p.limit) (hr : p.isResult e.bin = true) (v : Wafer)
    (i : StationId) :
    v.Books p { v with acc := Acc.applied p e (Acc.first p e.bin) v.acc } .untested
      (.tested e.bin e.bin 1 e.site i) where
  lot := rfl
  cols := rfl
  rows := rfl
  spans := rfl
  gross := rfl
  offWafer := by simp
  sum h := by
    have := hist_sum_set v.acc.hist e.bin (v.acc.hist[e.bin] + 1)
    show (v.acc.hist.set e.bin (v.acc.hist[e.bin] + 1)).toList.sum = v.acc.tested + 1
    omega
  passes h := by
    have := passes_set p v.acc.hist e.bin (v.acc.hist[e.bin] + 1)
    show p.passes (v.acc.hist.set e.bin (v.acc.hist[e.bin] + 1)) =
      if p.cls e.bin = .pass then v.acc.passed + 1 else v.acc.passed
    split at this <;> split <;> first | contradiction | omega
  bins b := by
    have := hist_set v.acc.hist e.bin b (v.acc.hist[e.bin] + 1)
    show v.acc.hist[b] + oneIf (decide (e.bin = b)) ≤ (v.acc.hist.set e.bin (v.acc.hist[e.bin] + 1))[b] + 0
    rw [this]
    by_cases hb : e.bin = b
    · subst hb; simp
    · simp [hb]
  untested := by
    show v.acc.tested + 1 + 0 ≤ v.acc.tested + 1
    omega
  damaged := by
    left
    show v.acc.tested + 1 + 0 + v.acc.damaged ≤ v.acc.tested + 1 + v.acc.damaged
    omega
  keeps := by
    simp only [cellKeepsPlan, hr, Bool.and_true, Bool.and_eq_true, decide_eq_true_eq]
    omega

/-- P after a retest whose final bin goes from a to b, against the PASS bins (R90). -/
theorem Plan.passedAfter_eq {p : Plan} {h : Vector Nat 64} {a b : Bin} (ha : p.isResult a = true)
    (hb : p.isResult b = true) (hpos : 1 ≤ h[a]) (hab : a ≠ b) :
    p.passes ((h.set a (h[a] - 1)).set b (h[b] + 1)) = p.passedAfter a b (p.passes h) := by
  have h1 := passes_set p h a (h[a] - 1)
  have h2 := passes_set p (h.set a (h[a] - 1)) b (h[b] + 1)
  rw [hist_set, if_neg hab] at h2
  rw [Plan.isResult_iff] at ha hb
  have hle : p.cls a = .pass → h[a] ≤ p.passes h := fun e => hist_le_passes h e
  unfold Plan.passedAfter
  rcases ha with ha | ha <;> rcases hb with hb | hb <;>
    simp only [ha, hb, if_true, reduceCtorEq, if_false] at h1 h2 hle ⊢
  · have := hle trivial
    omega
  · have := hle trivial
    omega
  · omega
  · omega

theorem Acc.retest_hist (p : Plan) (a b : Bin) (x : Acc) : (Acc.retest p a b x).hist =
    if a = b then x.hist else (x.hist.set a (x.hist[a] - 1)).set b (x.hist[b] + 1) := by
  unfold Acc.retest
  split
  · rfl
  · rename_i h
    dsimp only
    rw [hist_set, if_neg h]

theorem Acc.retest_hist_get (p : Plan) (a f : Bin) (x : Acc) (b : Bin) : (Acc.retest p a f x).hist[b] =
    if a = f then x.hist[b] else if f = b then x.hist[f] + 1 else if a = b then x.hist[b] - 1 else x.hist[b] := by
  rw [show (Acc.retest p a f x).hist[b] = _ from congrArg (fun h : Vector Nat 64 => h[b]) (Acc.retest_hist p a f x)]
  split
  · rfl
  · rw [hist_set, hist_set]
    split
    · rfl
    · split
      · rename_i e
        rw [e]
      · rfl

theorem Acc.retest_passed (p : Plan) (a b : Bin) (x : Acc) : (Acc.retest p a b x).passed =
    if a = b then x.passed else p.passedAfter a b x.passed := by
  unfold Acc.retest
  split <;> rfl

theorem Acc.retest_counts (p : Plan) (a b : Bin) (x : Acc) :
    (Acc.retest p a b x).tested = x.tested ∧ (Acc.retest p a b x).damaged = x.damaged := by
  unfold Acc.retest
  split <;> exact ⟨rfl, rfl⟩

theorem Plan.finalBin_isResult {p : Plan} {a b : Bin} (ha : p.isResult a = true) (hb : p.isResult b = true) :
    p.isResult (p.finalBin a b) = true := by
  unfold Plan.finalBin
  split
  · exact hb
  · split
    · exact hb
    · exact ha

/-- A retest (R88 to R90). -/
theorem Wafer.books_retest {p : Plan} {e : Entry} {final first fb : Bin} {count : Nat} {k : SiteId}
    {st : StationId} (hc : count < p.limit) (ha : p.isResult final = true) (hb : p.isResult fb = true) (v : Wafer)
    (hpos : 1 ≤ v.acc.hist[final]) (i : StationId) :
    v.Books p { v with acc := Acc.applied p e (Acc.retest p final fb) v.acc }
      (.tested final first count k st) (.tested fb first (count + 1) e.site i) := by
  have hh := Acc.retest_hist p final fb v.acc
  have hp := Acc.retest_passed p final fb v.acc
  obtain ⟨ht, hd⟩ := Acc.retest_counts p final fb v.acc
  refine ⟨rfl, rfl, rfl, rfl, rfl, by simp, ?_, ?_, ?_, ?_, ?_, ?_⟩
  · intro h
    simp only [Acc.applied, Acc.site_hist, Acc.site_tested, hh, ht]
    split
    · exact h
    · rename_i hab
      have h1 := hist_sum_set v.acc.hist final (v.acc.hist[final] - 1)
      have h2 := hist_sum_set (v.acc.hist.set final (v.acc.hist[final] - 1)) fb (v.acc.hist[fb] + 1)
      rw [hist_set, if_neg hab] at h2
      omega
  · intro h
    simp only [Acc.applied, Acc.site_hist, Acc.site_passed, hh, hp]
    split
    · exact h
    · rename_i hab
      rw [Plan.passedAfter_eq ha hb hpos hab, h]
  · intro b
    have hbin := Acc.retest_hist_get p final fb v.acc b
    show v.acc.hist[b] + oneIf (decide (fb = b)) ≤
      (Acc.retest p final fb v.acc).hist[b] + oneIf (decide (final = b))
    by_cases hab : final = fb
    · rw [if_pos hab] at hbin
      subst hab
      omega
    · rw [if_neg hab] at hbin
      by_cases e1 : fb = b
      · rw [if_pos e1, ← e1] at hbin
        rw [← e1, decide_eq_true rfl, decide_eq_false hab, oneIf_true, oneIf_false]
        omega
      · rw [if_neg e1] at hbin
        rw [decide_eq_false e1, oneIf_false]
        by_cases e2 : final = b
        · rw [if_pos e2] at hbin
          rw [decide_eq_true e2, oneIf_true]
          omega
        · rw [if_neg e2] at hbin
          omega
  · simp [Acc.applied, ht]
  · left
    simp [Acc.applied, ht, hd, cellIsTested]
  · simp only [cellKeepsPlan, hb, Bool.and_true, Bool.and_eq_true, decide_eq_true_eq]
    omega

/-- A cell found DAMAGED at a read (R98, R99). -/
theorem Wafer.books_damaged (p : Plan) (v : Wafer) (x : CellRecord) :
    v.Books p { v with acc := { v.acc with damaged := bump topCount v.acc.damaged } } x .damaged := by
  refine ⟨rfl, rfl, rfl, rfl, rfl, by simp, id, id, fun b => ?_, ?_, ?_, rfl⟩
  · simp [cellHasFinal]
  · simp
  · have hx : oneIf (cellIsTested x) ≤ 1 := by
      generalize cellIsTested x = y
      cases y <;> decide
    show v.acc.tested + oneIf (cellIsTested x) + v.acc.damaged ≤ v.acc.tested + 0 + bump topCount v.acc.damaged ∨
      65536 ≤ bump topCount v.acc.damaged
    unfold bump topCount
    by_cases hd : v.acc.damaged < 4294967295
    · rw [if_pos hd]
      left
      omega
    · rw [if_neg hd]
      right
      omega

/-! ## One cell and its figures -/

theorem State.AccountIn.of_rewrite {g g' : Hand} {s t : State} (h : s.AccountIn g) (ht : s.TablesIn g)
    {n : SlotId} {k : Nat} {c : CellRecord} {F : Wafer → Wafer} (hr : s.Rewrites t n k c)
    (hslot : ∀ m, t.slot m = (s.slot m).map fun w => if n = m then F w else w)
    (hk : ∀ v, s.slot n = some v → k < v.cols * v.rows)
    (hbooks : ∀ v, s.slot n = some v → v.Books (s.planOf v.lot) (F v) (s.cellRecord n k) c)
    (hplan : ∀ m w, s.slot m = some w → t.planOf w.lot = s.planOf w.lot)
    (hwork : ∀ j, (t.station j).work = (s.station j).work)
    (hent : ∀ j b gr, (s.station j).binding = some b → (s.station j).group = some gr → ∀ e ∈ g'.entries j gr,
      e ∈ g.entries j gr ∧ (b.slot = n → e.cell ≠ k ∨ c = .damaged))
    (hsame : ∀ j gr gr', gr.entries = gr'.entries → g'.entries j gr = g'.entries j gr')
    (hleft : ∀ i f o es, g' = .busy i f o (some es) → (es.map Entry.cell).Nodup) : t.AccountIn g' := by
  refine ⟨?_, ?_, hleft⟩
  · intro m w hw
    rw [hslot] at hw
    obtain ⟨v, hv, rfl⟩ := Option.map_eq_some_iff.1 hw
    split
    · rename_i e
      subst e
      have hl := ht.slots.lawful n v hv
      exact (h.slots n v hv).rewrite hl hl.gross_le hr (hk v hv) (hplan n v hv) (hbooks v hv)
    · rename_i e
      exact (h.slots m v hv).transfer (ht.slots.lawful m v hv) (hr.mapKept (Ne.symm e)) (hplan m v hv) (.refl v)
  · intro j b gr w hb hg hw e he
    have hbs : (s.station j).binding = some b := by
      rw [← hb]
      exact (congrArg Prod.fst (hwork j)).symm
    have hgs := congrArg Prod.snd (hwork j)
    simp only [Station.work, hg, Option.map_some] at hgs
    obtain ⟨gr', hg', hee⟩ := Option.map_eq_some_iff.1 hgs.symm
    rw [hsame j gr gr' hee.symm] at he
    obtain ⟨he', hcell⟩ := hent j b gr' hbs hg' e he
    rw [hslot] at hw
    obtain ⟨v, hv, rfl⟩ := Option.map_eq_some_iff.1 hw
    have hfit := h.entries j b gr' v hbs hg' hv e he'
    have hlt := (ht.slots.lawful b.slot v hv).cells_le
    by_cases hn : b.slot = n
    · have hB := hbooks v (hn ▸ hv)
      rw [if_pos hn.symm]
      by_cases hc : e.cell = k
      · have hd : c = .damaged := (hcell hn).resolve_left fun h => h hc
        have hrec : t.cellRecord b.slot e.cell = .damaged := by rw [hn, hc, hr.here, hd]
        obtain ⟨f1, f2, f3, f4⟩ := hfit
        unfold State.EntryFits
        rw [hB.cols, hB.rows, hB.lot, hplan b.slot v hv, hrec]
        exact ⟨f1, f2, by simp, fun _ => rfl⟩
      · refine hfit.transfer (hr.other _ _ ?_ fun _ => hc) (hplan b.slot v hv) hB.lot hB.cols hB.rows
        have := hfit.1
        omega
    · rw [if_neg (Ne.symm hn)]
      refine hfit.transfer (hr.other _ _ ?_ fun e => absurd e hn) (hplan b.slot v hv) rfl rfl rfl
      have := hfit.1
      omega

theorem Hand.entries_congr (g : Hand) (j : StationId) {gr gr' : Group} (h : gr.entries = gr'.entries) :
    g.entries j gr = g.entries j gr' := by
  cases g with
  | idle => exact h
  | busy i f o l =>
    cases l with
    | none => exact h
    | some es =>
      simp only [Hand.entries_busy_some]
      rw [h]

theorem State.slotPlan_of_slot {s : State} {n : SlotId} {v : Wafer} (h : s.slot n = some v) :
    s.slotPlan n = s.planOf v.lot := by
  unfold State.slotPlan
  rw [h]

theorem State.SlotAccounts.hist_pos {s : State} {n : SlotId} {v : Wafer} (h : s.SlotAccounts n v) {k : Nat}
    (hk : k < v.cols * v.rows) {final first : Bin} {count : Nat} {x : SiteId} {st : StationId}
    (hc : s.cellRecord n k = .tested final first count x st) : 1 ≤ v.acc.hist[final] := by
  obtain ⟨-, -, -, -, h5, -⟩ := h
  refine le_trans (List.countP_pos_iff.2 ⟨s.cellRecord n k, ?_, ?_⟩) (h5 final)
  · exact List.mem_map_of_mem (List.mem_range.2 hk)
  · rw [hc]; simp [cellHasFinal]

theorem State.SlotAccounts.keeps {s : State} {n : SlotId} {v : Wafer} (h : s.SlotAccounts n v) {k : Nat}
    (hk : k < v.cols * v.rows) : cellKeepsPlan (s.planOf v.lot) (s.cellRecord n k) = true := by
  obtain ⟨-, -, -, -, -, -, -, h8⟩ := h
  exact h8 _ (List.mem_map_of_mem (List.mem_range.2 hk))

/-- The slot a station is bound to, with its record. -/
theorem State.BindingIn.slot_of_bound {g : Hand} {s : State} (h : s.BindingIn g) {i : StationId} {b : Binding}
    (hb : (s.station i).binding = some b) : ∃ w, s.slot b.slot = some w := by
  rcases h.bound i b.slot (by simp [Station.bound, hb]) with e | e <;>
    · obtain ⟨w, hw, -⟩ := State.slot_of_slotState e
      exact ⟨w, hw⟩

/-- The item of an entry: one cell and the figures of its slot change, and the entry leaves the work in hand. -/
theorem State.AccountIn.of_apply {g : Hand} {s : State} {i : StationId} {f o : Bool} {e : Entry} {es : List Entry}
    {b : Binding} {gr : Group} {p : Plan} {c : CellRecord} {F : Acc → Acc}
    (h : s.AccountIn (.busy i f o (some (e :: es)))) (ht : s.TablesIn (.busy i f o (some (e :: es))))
    (hg : g = .busy i f o (some es)) (hb : (s.station i).binding = some b) (hgr : (s.station i).group = some gr)
    (hbooks : ∀ v, s.slot b.slot = some v → s.EntryFits b.slot v e →
      v.Books (s.planOf v.lot) { v with acc := Acc.applied p e F v.acc } (s.cellRecord b.slot e.cell) c) :
    (s.applyItem b.slot i p e c F).AccountIn g := by
  subst hg
  have hfit : ∀ v, s.slot b.slot = some v → s.EntryFits b.slot v e := fun v hv =>
    h.entries i b gr v hb hgr hv e (by simp)
  obtain ⟨v, hv⟩ := ht.bindings.slot_of_bound hb
  have hk : e.cell < 65536 := by
    have := (ht.slots.lawful _ v hv).cells_le
    have := (hfit v hv).1
    omega
  have hnd := List.nodup_cons.1 (h.left i f o (e :: es) rfl)
  refine h.of_rewrite ht (n := b.slot) (k := e.cell) (c := c)
    (F := fun v => { v with acc := Acc.applied p e F v.acc }) (.of_write hk rfl)
    (State.slot_applyItem b.slot i p e c F) (fun v hv => (hfit v hv).1) (fun v hv => hbooks v hv (hfit v hv))
    (fun _ _ _ => rfl) (State.modStation_keeps Station.work i _ rfl) ?_
    (fun j gr gr' hee => Hand.entries_congr _ j hee) ?_
  · intro j b' gr' hb' hg' e' he'
    rw [Hand.entries_busy_some] at he' ⊢
    split at he'
    · rename_i hij
      subst hij
      rw [if_pos rfl]
      refine ⟨List.mem_cons_of_mem _ he', fun _ => .inl fun hc => hnd.1 ?_⟩
      rw [← hc]
      exact List.mem_map_of_mem he'
    · rename_i hij
      rw [if_neg hij]
      refine ⟨he', fun hn => absurd (ht.bindings.apart j i b.slot ?_ ?_) hij⟩
      · simp [Station.bound, hb', hn]
      · simp [Station.bound, hb]
  · intro i' f' o' es' e'
    cases e'
    exact hnd.2

theorem State.planOf_limit {s : State} (h : s.LotsAgree) (hs : s.SettingsLaw) {n : SlotId} {v : Wafer}
    (hv : s.slot n = some v) : 1 ≤ (s.planOf v.lot).limit := by
  obtain ⟨e, l, hl, hid, -⟩ := h.named n v hv
  rw [← hid, State.planOf_of_lot h hl]
  exact (hs.1 l.plan).1

theorem AccountMove.accountIn {g g' : Hand} {s t : State} (m : AccountMove g s g' t) (ht : s.TablesIn g)
    (hs : s.SettingsLaw) (h : s.AccountIn g) : t.AccountIn g' := by
  have ledger : ∀ {g : Hand} {s t : State} {n : SlotId} {F : Acc → Acc}, s.AccountIn g → s.TablesIn g →
      (∀ a, (F a).tested = a.tested ∧ (F a).passed = a.passed ∧ (F a).hist = a.hist ∧ (F a).damaged = a.damaged) →
      (∀ m, t.slot m = (s.slot m).map fun w => if n = m then { w with acc := F w.acc } else w) →
      t.mem = s.mem → (∀ id, t.planOf id = s.planOf id) → (∀ j, (t.station j).work = (s.station j).work) →
      t.AccountIn g := by
    intro g s t n F h ht hF hslot hm hp hw
    refine h.of_work ht.slots (fun m w hmw => ?_) (fun m _ _ => .of_mem hm m) (fun _ w _ => hp w.lot) hw
    rw [hslot] at hmw
    obtain ⟨v, hv, rfl⟩ := Option.map_eq_some_iff.1 hmw
    refine ⟨v, hv, ?_⟩
    split
    · obtain ⟨f1, f2, f3, f4⟩ := hF v.acc
      exact ⟨rfl, rfl, rfl, rfl, rfl, f1, f2, f3, f4⟩
    · exact .refl v
  cases m with
  | voids _ i f o l b k hb =>
    exact ledger (F := Acc.site k SiteTriple.void) h ht (fun _ => ⟨rfl, rfl, rfl, rfl⟩)
      (fun j => State.slot_modAcc b.slot j (Acc.site k SiteTriple.void))
      rfl (fun _ => rfl) (State.modStation_keeps Station.work i _ rfl)
  | timeout _ i f o l b hb =>
    exact ledger (F := Acc.timeout) h ht (fun _ => ⟨rfl, rfl, rfl, rfl⟩)
      (fun j => State.slot_modAcc b.slot j Acc.timeout)
      rfl (fun _ => rfl) (fun _ => rfl)
  | first _ i f o e es b gr hb hg hr hc =>
    refine h.of_apply ht rfl hb hg fun v hv hfit => ?_
    rw [State.slotPlan_of_slot hv] at hr ⊢
    rw [hc]
    exact Wafer.books_first (State.planOf_limit ht.lots hs hv) hr v i
  | retest _ i f o e es b gr final first count k st hb hg hr hc =>
    refine h.of_apply ht rfl hb hg fun v hv hfit => ?_
    rw [State.slotPlan_of_slot hv] at hr ⊢
    have hacc := h.slots b.slot v hv
    have hroom := hfit.2.2.2 hr
    have hkeep := hacc.keeps hfit.1
    rw [hc] at hroom hkeep ⊢
    simp only [cellKeepsPlan, Bool.and_eq_true, decide_eq_true_eq] at hkeep
    exact Wafer.books_retest (by simpa [cellHasRoom] using hroom) hkeep.2 (Plan.finalBin_isResult hkeep.2 hr) v
      (hacc.hist_pos hfit.1 hc) i

/-! ## Reads -/

theorem gridIndex_lt {cols rows row col : Nat} (hr : row < rows) (hc : col < cols) :
    row * cols + col < cols * rows := by
  calc row * cols + col < row * cols + cols := by omega
    _ = (row + 1) * cols := by rw [Nat.add_mul, Nat.one_mul]
    _ ≤ rows * cols := Nat.mul_le_mul_right _ hr
    _ = cols * rows := Nat.mul_comm _ _

theorem spansValid_mem {cols rows : Nat} {spans : List Span} (h : spansValid cols rows spans = true) {x : Span}
    (hx : x ∈ spans) : x.first ≤ x.last ∧ x.last < cols ∧ x.row < rows := by
  simp only [spansValid, Bool.and_eq_true, List.all_eq_true, decide_eq_true_eq] at h
  obtain ⟨⟨-, h⟩, -⟩ := h
  obtain ⟨⟨h1, h2⟩, h3⟩ := h x hx
  exact ⟨h1, h2, h3⟩

/-- Every read of the part is of a cell inside the grid of a slot. -/
theorem Reads.inGrid {g : Hand} {s : State} {n : SlotId} {k : Nat} (h : Reads g s n k) (ht : s.TablesIn g)
    (ha : s.AccountIn g) : ∃ w, s.slot n = some w ∧ k < w.cols * w.rows := by
  cases h with
  | inFlight hp hc hk =>
    obtain ⟨w, hw, hr, hf, hb, -, -⟩ := ht.slots.read _ _ _ _ _ _ _ hp
    refine ⟨w, hw, ?_⟩
    rw [hk, hb, Nat.add_assoc]
    exact gridIndex_lt hr (by omega)
  | arrival hw hk => exact ⟨_, hw, hk.1⟩
  | commit hh hb hn hg he hk =>
    subst hn hh
    obtain ⟨w, hw⟩ := ht.bindings.slot_of_bound hb
    refine ⟨w, hw, ?_⟩
    rw [← hk]
    exact (ha.entries _ _ _ w hb hg hw _ (by simpa using he)).1
  | @segment m w x c hm hn hw hx hc hk =>
    obtain ⟨-, -, -, -, -, -, -, -, hs, -⟩ := ht.slots.lawful n w hw
    obtain ⟨h1, h2, h3⟩ := spansValid_mem hs (List.mem_of_getElem? hx)
    refine ⟨w, hw, ?_⟩
    unfold Span.cells at hc
    rw [hk, Nat.add_assoc]
    exact gridIndex_lt h3 (by omega)

theorem State.slot_damage (n : SlotId) (k : Nat) (s : State) (m : SlotId) : (s.damage n k).slot m =
    (s.slot m).map fun w =>
      if n = m then { w with acc := { w.acc with damaged := bump topCount w.acc.damaged } } else w := by
  unfold State.damage
  rw [State.addCause_slot]
  exact State.slot_modAcc (s := s.writeCell n k .damaged) n m fun a => { a with damaged := bump topCount a.damaged }

/-- A read of a cell in the grid keeps the accounts of every slot (R97 to R99). -/
theorem State.AccountIn.readCell {g : Hand} {s : State} (h : s.AccountIn g) (ht : s.TablesIn g) {n : SlotId}
    {w : Wafer} {k : Nat} (hw : s.slot n = some w) (hk : k < w.cols * w.rows) : (s.readCell n k).1.AccountIn g := by
  have hlt : k < 65536 := by
    have := (ht.slots.lawful n w hw).cells_le
    omega
  unfold State.readCell
  split
  · exact h
  · have hr : s.Rewrites (s.correct n k (s.cellWord n k).record) n k (s.cellWord n k).record := .of_write hlt rfl
    exact h.of_work ht.slots (fun m v hv => ⟨v, hv, .refl v⟩) (fun m _ _ => hr.mapKept_of_same rfl m)
      (fun _ _ _ => rfl) fun _ => rfl
  · have hr : s.Rewrites (s.damage n k) n k .damaged := by
      refine .of_write hlt ?_
      unfold State.damage
      rw [State.addCause_mem]
      rfl
    have hpl : ∀ m v, s.slot m = some v → (s.damage n k).planOf v.lot = s.planOf v.lot := fun _ v _ =>
      State.addCause_keeps (fun u => u.planOf v.lot) (fun _ _ _ => rfl) _ _
    have hst : ∀ j, ((s.damage n k).station j).work = (s.station j).work := fun j =>
      State.addCause_keeps (fun u => (u.station j).work) (fun _ _ _ => rfl) _ _
    refine h.of_rewrite ht hr (State.slot_damage n k s) ?_ (fun v _ => Wafer.books_damaged _ v _) hpl hst
      (fun j b gr _ _ e he => ⟨he, fun _ => .inr rfl⟩) (fun j gr gr' => Hand.entries_congr g j) h.left
    intro v hv
    rw [hw] at hv
    obtain rfl := Option.some.inj hv
    exact hk

theorem CellMove.accountIn {g : Hand} {s t : State} (m : CellMove g s t) (ht : s.TablesIn g) (h : s.AccountIn g) :
    t.AccountIn g := by
  cases m with
  | upset us =>
    obtain ⟨me, e, -, hkeys, hrec⟩ := State.upset_form us s
    rw [e]
    refine h.of_work ht.slots (fun m v hv => ⟨v, hv, .refl v⟩) (fun m _ _ => ⟨fun k _ ha => ?_, fun k _ => hrec _⟩)
      (fun _ _ _ => rfl) fun _ => rfl
    show _ ∈ me.map Prod.fst
    rw [hkeys]
    exact ha
  | read n k hr =>
    obtain ⟨w, hw, hk⟩ := hr.inGrid ht h
    exact h.readCell ht hw hk

end Sys2Proof.Machine
end

section
/-! PROOF. The law of the accounts past WAFER_OPEN, and O58. -/

namespace Sys2Proof.Machine

/-! ## The map of a new wafer -/

theorem Mem.mem_keys_writeRun (m : Mem) (base n : Nat) (f : Nat → CellRecord) (a : Nat) :
    a ∈ (Mem.writeRun base n f m).map Prod.fst ↔ a ∈ m.map Prod.fst ∨ base ≤ a ∧ a < base + n := by
  simp only [Mem.writeRun, List.map_append, List.mem_append, List.map_map, List.mem_map, List.mem_filter,
    List.mem_range, decide_eq_true_eq, Function.comp]
  constructor
  · rintro ((⟨x, ⟨hx, -⟩, rfl⟩ | ⟨k, hk, rfl⟩) | ⟨x, ⟨hx, -⟩, rfl⟩)
    · exact .inl ⟨x, hx, rfl⟩
    · exact .inr (by omega)
    · exact .inl ⟨x, hx, rfl⟩
  · rintro (⟨x, hx, rfl⟩ | h)
    · rcases Nat.lt_or_ge x.1 base with h | h
      · exact .inl (.inl ⟨x, ⟨hx, h⟩, rfl⟩)
      · rcases Nat.lt_or_ge x.1 (base + n) with h' | h'
        · exact .inl (.inr ⟨x.1 - base, by omega, by omega⟩)
        · exact .inr ⟨x, ⟨hx, h'⟩, rfl⟩
    · exact .inl (.inr ⟨a - base, by omega, by omega⟩)

/-- At most as many cells of a grid lie in a span as the span has columns. -/
theorem countP_span_le (cols N : Nat) (x : Span) :
    (List.range N).countP (fun k => decide (x.row = k / cols) && decide (x.first ≤ k % cols) &&
      decide (k % cols ≤ x.last)) ≤ x.cells := by
  rw [List.countP_eq_length_filter]
  have hsub : (List.range N).filter (fun k => decide (x.row = k / cols) && decide (x.first ≤ k % cols) &&
      decide (k % cols ≤ x.last)) ⊆ (List.range' x.first x.cells).map fun c => x.row * cols + c := by
    intro k hk
    simp only [List.mem_filter, Bool.and_eq_true, decide_eq_true_eq] at hk
    obtain ⟨-, ⟨h1, h2⟩, h3⟩ := hk
    refine List.mem_map.2 ⟨k % cols, ?_, ?_⟩
    · rw [List.mem_range'_1]
      unfold Span.cells
      omega
    · rw [h1, Nat.mul_comm]
      exact Nat.div_add_mod k cols
  have := (List.subperm_of_subset (List.nodup_range.filter _) hsub).length_le
  simpa using this

theorem countP_or_le {α : Type} (p q : α → Bool) (l : List α) :
    l.countP (fun a => p a || q a) ≤ l.countP p + l.countP q := by
  induction l with
  | nil => simp
  | cons a l ih =>
    simp only [List.countP_cons]
    cases p a <;> cases q a <;> simp <;> omega

/-- The on-wafer cells of a grid are at most the gross count (R17). -/
theorem countP_onWafer_le (cols N : Nat) (spans : List Span) :
    (List.range N).countP (fun k => onWafer spans (k % cols) (k / cols)) ≤ grossCount spans := by
  induction spans with
  | nil => simp [onWafer]
  | cons x rest ih =>
    calc (List.range N).countP (fun k => onWafer (x :: rest) (k % cols) (k / cols))
        ≤ (List.range N).countP (fun k => decide (x.row = k / cols) && decide (x.first ≤ k % cols) &&
            decide (k % cols ≤ x.last)) + (List.range N).countP (fun k => onWafer rest (k % cols) (k / cols)) :=
          countP_or_le _ _ _
      _ ≤ x.cells + grossCount rest := Nat.add_le_add (countP_span_le cols N x) ih
      _ = grossCount (x :: rest) := by simp [grossCount]

theorem initialRecord_tested (cols : Nat) (spans : List Span) (k : Nat) {p : CellRecord → Bool}
    (hp : ∀ c, p c = true → cellIsTested c = true) : p (initialRecord cols spans k) = false := by
  rw [← Bool.not_eq_true]
  intro h
  have := hp _ h
  unfold initialRecord at this
  split at this <;> cases this

theorem Plan.passes_zero (p : Plan) : p.passes (Vector.replicate 64 0) = 0 := by
  unfold Plan.passes
  rw [List.sum_eq_zero]
  intro x hx
  obtain ⟨b, -, rfl⟩ := List.mem_map.1 hx
  simp

/-- The accounts of a slot whose whole map has just been written (R19). -/
theorem State.accounts_of_initial {t : State} {n : SlotId} {w : Wafer}
    (hk : ∀ k < w.cols * w.rows, cellAddress n k ∈ t.mem.map Prod.fst)
    (hr : ∀ k < w.cols * w.rows, t.cellRecord n k = initialRecord w.cols w.spans k)
    (hg : w.gross = grossCount w.spans) (ha : w.acc = Acc.zero) : t.SlotAccounts n w := by
  have hcells : t.cells n w = (List.range (w.cols * w.rows)).map (initialRecord w.cols w.spans) :=
    List.map_congr_left fun k hk => hr k (List.mem_range.1 hk)
  have hnone : ∀ p : CellRecord → Bool, (∀ c, p c = true → cellIsTested c = true) → (t.cells n w).countP p = 0 := by
    intro p hp
    rw [hcells, List.countP_eq_zero]
    intro c hc
    obtain ⟨k, -, rfl⟩ := List.mem_map.1 hc
    rw [initialRecord_tested w.cols w.spans k hp]
    simp
  unfold State.SlotAccounts
  rw [ha]
  refine ⟨hk, fun k hlt hon => ?_, by decide, Plan.passes_zero _, fun b => ?_, ?_, ?_, ?_⟩
  · rw [hr k hlt, initialRecord, if_pos hon]
    simp
  · rw [hnone (cellHasFinal b) fun c hc => by cases c <;> first | rfl | cases hc]
    exact Nat.zero_le _
  · rw [hg]
    refine le_trans ?_ (countP_onWafer_le w.cols (w.cols * w.rows) w.spans)
    show 0 + _ ≤ _
    rw [Nat.zero_add, hcells, List.countP_map]
    refine List.countP_mono_left fun k _ hk => ?_
    simp only [Function.comp, initialRecord] at hk
    split at hk
    · assumption
    · cases hk
  · exact Nat.zero_le _
  · intro c hc
    rw [hcells] at hc
    obtain ⟨k, -, rfl⟩ := List.mem_map.1 hc
    unfold initialRecord
    split <;> rfl

/-- WAFER_OPEN writes no word of a slot that is not FREE. -/
theorem OpenMove.mapKept {s t : State} (m : OpenMove s t) (ht : t.SlotsAgree) {k : SlotId} {v : Wafer}
    (hv : s.slot k = some v) : s.MapKept t k := by
  cases m with
  | takes n e l tag p hp hw he hl ho hg hx hvl hn =>
    have hN := (ht.lawful n (Wafer.new l.id p) (by rw [State.takeSlot_slot, if_pos rfl])).cells_le
    have hmem : (s.takeSlot n e tag (Wafer.new l.id p)).mem = s.mem.writeRun (cellAddress n 0)
        ((Wafer.new l.id p).cols * (Wafer.new l.id p).rows)
        (initialRecord (Wafer.new l.id p).cols (Wafer.new l.id p).spans) := rfl
    have hnk : n.val ≠ k.val := by
      intro e
      rw [Fin.ext e, hv] at hn
      cases hn
    generalize s.takeSlot n e tag (Wafer.new l.id p) = t at *
    generalize Wafer.new l.id p = w at *
    refine ⟨fun j _ ha => ?_, fun j hj => ?_⟩
    · rw [hmem, Mem.mem_keys_writeRun]
      exact .inl ha
    · unfold State.cellRecord State.cellWord
      rw [hmem, Mem.word_writeRun_ne]
      unfold cellAddress
      omega

theorem OpenMove.accountIn {g : Hand} {s t : State} (m : OpenMove s t) (ht : s.TablesIn g) (ht' : t.TablesIn g)
    (hplan : ∀ n w, s.slot n = some w → t.planOf w.lot = s.planOf w.lot)
    (hwork : ∀ j, (t.station j).work = (s.station j).work) (h : s.AccountIn g) : t.AccountIn g := by
  have hmap : ∀ k v, s.slot k = some v → s.MapKept t k := fun _ _ => m.mapKept ht'.slots
  cases m with
  | takes n e l tag p hp hw he hl ho hg hx hv hn =>
    have hslot := State.takeSlot_slot n e tag (Wafer.new l.id p) s
    have hlaw := ht'.slots.lawful n _ (by rw [hslot, if_pos rfl])
    have hN := hlaw.cells_le
    have hmem : (s.takeSlot n e tag (Wafer.new l.id p)).mem = s.mem.writeRun (cellAddress n 0)
        ((Wafer.new l.id p).cols * (Wafer.new l.id p).rows)
        (initialRecord (Wafer.new l.id p).cols (Wafer.new l.id p).spans) := rfl
    generalize s.takeSlot n e tag (Wafer.new l.id p) = t at *
    have hgross : (Wafer.new l.id p).gross = grossCount (Wafer.new l.id p).spans := rfl
    have hacc : (Wafer.new l.id p).acc = Acc.zero := rfl
    generalize Wafer.new l.id p = w at *
    have hother : ∀ m v, t.slot m = some v → n ≠ m → s.slot m = some v := by
      intro m v hm hnm
      rw [hslot, if_neg hnm] at hm
      exact hm
    refine ⟨fun m v hm => ?_, fun j b gr v hb hg hm x hxe => ?_, h.left⟩
    · by_cases hnm : n = m
      · subst hnm
        rw [hslot, if_pos rfl] at hm
        obtain rfl := Option.some.inj hm
        refine State.accounts_of_initial (fun k hk => ?_) (fun k hk => ?_) hgross hacc
        · rw [hmem, Mem.mem_keys_writeRun]
          unfold cellAddress
          exact .inr (by omega)
        · have := Mem.word_writeRun_mem s.mem (cellAddress n 0) (w.cols * w.rows) (initialRecord w.cols w.spans) hk
          unfold State.cellRecord State.cellWord
          rw [hmem, show cellAddress n k = cellAddress n 0 + k by unfold cellAddress; omega, this]
      · have hs := hother m v hm hnm
        exact (h.slots m v hs).transfer (ht.slots.lawful m v hs) (hmap m v hs) (hplan m v hs) (.refl v)
    · have hbs : (s.station j).binding = some b := by
        rw [← hb]
        exact (congrArg Prod.fst (hwork j)).symm
      have hnm : n ≠ b.slot := by
        rintro rfl
        obtain ⟨v', hv'⟩ := ht.bindings.slot_of_bound hbs
        rw [hn] at hv'
        cases hv'
      have hgs := congrArg Prod.snd (hwork j)
      simp only [Station.work, hg, Option.map_some] at hgs
      obtain ⟨gr', hg', hee⟩ := Option.map_eq_some_iff.1 hgs.symm
      have hs := hother b.slot v hm hnm
      have hfit := h.entries j b gr' v hbs hg' hs x (by rw [Hand.entries_congr g j hee]; exact hxe)
      have := (ht.slots.lawful b.slot v hs).cells_le
      refine hfit.transfer ((hmap b.slot v hs).records _ ?_) (hplan b.slot v hs) rfl rfl rfl
      have := hfit.1
      omega

/-! ## Every move -/

theorem Move.accountIn {d : Domain} {g g' : Hand} {s t : State} (m : Move d g s g' t) (ht : s.TablesIn g)
    (hs : s.SettingsLaw) (h : s.AccountIn g) : t.AccountIn g' := by
  by_cases hr : d = .reset
  · subst hr
    cases m with
    | reset m =>
      cases m
      refine ⟨fun n w hw => ?_, fun i b gr w hb => ?_, by simp⟩
      · simp [State.slot, State.reset] at hw
      · simp [State.station, State.reset, Station.reset] at hb
  have hplan : ∀ n w, s.slot n = some w → t.planOf w.lot = s.planOf w.lot := fun n w hw => m.planOf_eq hr ht hw
  have hwork := m.work_eq
  have quiet : d ∉ [.engine, .restart, .slots, .reset] → s.LedgersKept t → t.mem = s.mem → g' = g →
      t.AccountIn g' := by
    rintro hd hl hm rfl
    exact h.of_work ht.slots hl (fun n _ _ => .of_mem hm n) hplan fun j => hwork hd j
  have hf := m.frame
  have same : d ∉ [.engine, .restart, .slots, .reset, .accounts, .cells, .opens, .mex] → g' = g →
      t.AccountIn g' := fun hd =>
    quiet (by simp_all) (.of_slots (hf.slots (by simp_all))) (hf.mem (by simp_all))
  cases m with
  | engine m => exact m.accountIn ht hplan h
  | accounts m => exact m.accountIn ht hs h
  | cells m => exact m.accountIn ht h
  | opens m => exact m.accountIn ht ((Move.opens m).tablesIn ht) hplan (fun j => hwork (by decide) j) h
  | mex m => exact quiet (by decide) m.ledgersKept (hf.mem (by decide)) rfl
  | slots m =>
    refine h.of_stations ht.slots m.ledgersKept (fun n _ _ => .of_mem (hf.mem (by decide)) n) hplan
      (fun i b => (m.stations_kept i).2 b) fun i gr hg => ⟨gr, ?_, rfl⟩
    rw [← (m.stations_kept i).1]
    exact hg
  | restart m =>
    cases m with
    | stations hg =>
      refine h.of_stations ht.slots (State.LedgersKept.of_slots rfl)
        (fun n _ _ => State.MapKept.of_mem (s := s) (t := s.restartStations) rfl n) hplan (fun i b hb => ?_)
        fun i gr hg' => ?_
      · simp [State.station, State.restartStations, Station.restart, State.arm] at hb
      · have : (s.restartStations.station i).group = (s.station i).group := by
          simp [State.station, State.restartStations, Station.restart, State.arm]
        rw [this, hg i] at hg'
        cases hg'
    | closes n hg =>
      rw [State.finishClosing_of_not (ht.bindings.not_closing hg n)]
      exact h
  | reset => exact absurd rfl hr
  | _ => exact same (by decide) rfl

/-- The laws that keep the accounts: of the tables, of the settings, and of the accounts themselves. -/
structure State.BooksIn (g : Hand) (s : State) : Prop where
  tables : s.TablesIn g
  settings : s.SettingsLaw
  accounts : s.AccountIn g

theorem Move.booksIn {d : Domain} {g g' : Hand} {s t : State} (m : Move d g s g' t) (h : s.BooksIn g) :
    t.BooksIn g' :=
  ⟨m.tablesIn h.tables, m.settingsLaw h.settings, m.accountIn h.tables h.settings h.accounts⟩

theorem State.booksIn_idle (s : State) :
    s.BooksIn .idle ↔ s.TablesIn .idle ∧ s.SettingsLaw ∧ s.AccountLaw := by
  rw [← State.accountIn_idle]
  exact ⟨fun h => ⟨h.1, h.2, h.3⟩, fun h => ⟨h.1, h.2.1, h.2.2⟩⟩

theorem State.Lawful.booksIn {s : State} (h : s.Lawful) : s.BooksIn .idle := by
  obtain ⟨-, -, hb, hs, hl, -, hset, ha⟩ := h
  exact (State.booksIn_idle s).2 ⟨(State.tablesIn_idle s).2 ⟨hb, hs, hl⟩, hset, ha⟩

theorem State.BooksIn.setPending {s : State} (h : s.BooksIn .idle) (q : List Instr) :
    ({ s with pending := q } : State).BooksIn .idle := by
  rw [State.booksIn_idle, State.tablesIn_idle] at h ⊢
  exact h

/-- Settles O58: every move keeps the accounts, with the work in hand. -/
theorem everyStepKeepsAccountLaw : Obligations.EveryStepKeepsAccountLaw := by
  intro s t hs he
  have := step_keeps (P := fun g u => u.BooksIn g) (fun _ _ _ _ _ m hu => m.booksIn hu)
    (fun _ q hu => hu.setPending q) he hs.booksIn
  exact (State.accountIn_idle t).1 this.accounts

end Sys2Proof.Machine
end

section
/-! PROOF. O59: the cells of a CLOSED or EXPORTING slot change only by becoming DAMAGED (R85). -/

namespace Sys2Proof.Machine

/-- A read leaves every record, or makes it DAMAGED (R98). -/
theorem State.readCell_record {n : SlotId} {k : Nat} (hk : k < 65536) (s : State) (m : SlotId) {j : Nat}
    (hj : j < 65536) :
    (s.readCell n k).1.cellRecord m j = s.cellRecord m j ∨ (s.readCell n k).1.cellRecord m j = .damaged := by
  unfold State.readCell
  split
  · exact .inl rfl
  · have hr : s.Rewrites (s.correct n k (s.cellWord n k).record) n k (s.cellWord n k).record := .of_write hk rfl
    exact .inl ((hr.mapKept_of_same rfl m).records j hj)
  · have hr : s.Rewrites (s.damage n k) n k .damaged := by
      refine .of_write hk ?_
      unfold State.damage
      rw [State.addCause_mem]
      rfl
    by_cases e : m = n ∧ j = k
    · obtain ⟨rfl, rfl⟩ := e
      exact .inr hr.here
    · exact .inl (hr.other m j hj fun e1 e2 => e ⟨e1, e2⟩)

/-- Slot n is CLOSED or EXPORTING with the outline of w, and its cells are those of s or DAMAGED. -/
def State.ClosedMap (s : State) (n : SlotId) (w : Wafer) (u : State) : Prop :=
  (∃ v, u.slot n = some v ∧ v.done ∧ v.cols = w.cols ∧ v.rows = w.rows) ∧
    ∀ k < w.cols * w.rows, u.cellRecord n k = s.cellRecord n k ∨ u.cellRecord n k = .damaged

theorem Wafer.endExport_done (w : Wafer) (h : w.done) :
    w.endExport.done ∧ w.endExport.cols = w.cols ∧ w.endExport.rows = w.rows := by
  unfold Wafer.endExport
  split
  · exact ⟨.inl rfl, rfl, rfl⟩
  · exact ⟨h, rfl, rfl⟩

/-- A CLOSED or EXPORTING slot stays so with its outline through every move but those of slots and resets. -/
theorem Move.done_slot {d : Domain} {g g' : Hand} {s t : State} (m : Move d g s g' t)
    (hd : d ∉ [.slots, .reset]) (hb : s.BindingIn g) {n : SlotId} {v : Wafer} (hv : s.slot n = some v)
    (hc : v.done) : ∃ v', t.slot n = some v' ∧ v'.done ∧ v'.cols = v.cols ∧ v'.rows = v.rows := by
  have same : t.slots = s.slots → ∃ v', t.slot n = some v' ∧ v'.done ∧ v'.cols = v.cols ∧ v'.rows = v.rows :=
    fun hs => ⟨v, by rw [State.slot_congr hs]; exact hv, hc, rfl, rfl⟩
  by_cases hn : d ∈ [.engine, .restart, .accounts, .cells, .slots, .opens, .mex, .reset]
  case neg => exact same (m.frame.slots hn)
  have ended : ∀ u : State, u.slots = s.slots → ∃ v', u.endExport.slot n = some v' ∧ v'.done ∧
      v'.cols = v.cols ∧ v'.rows = v.rows := by
    intro u hu
    have huv : u.slot n = some v := by rw [State.slot_congr hu]; exact hv
    cases hm : u.mex with
    | none =>
      refine ⟨v, ?_, hc, rfl, rfl⟩
      unfold State.endExport
      rw [hm]
      exact huv
    | some m =>
      rw [State.endExport_slot hm, huv]
      refine ⟨_, rfl, ?_⟩
      split
      · exact v.endExport_done hc
      · exact ⟨hc, rfl, rfl⟩
  cases m with
  | engine m =>
    cases m with
    | ends =>
      rw [State.endGroup_slot, hv]
      split
      · exact ⟨v.closed, rfl, .inl rfl, rfl, rfl⟩
      · exact ⟨v, rfl, hc, rfl, rfl⟩
    | _ => exact same rfl
  | restart m =>
    cases m with
    | stations => exact same rfl
    | closes k hg =>
      rw [State.finishClosing_of_not (hb.not_closing hg k)]
      exact ⟨v, hv, hc, rfl, rfl⟩
  | accounts m =>
    obtain ⟨i, b, -, f, hf⟩ := m.slot_eq
    refine ⟨_, by rw [hf, hv]; rfl, ?_⟩
    split <;> exact ⟨hc, rfl, rfl⟩
  | cells m =>
    obtain ⟨f, hf⟩ := m.slot_eq n
    rw [hv] at hf
    exact ⟨_, hf, hc, rfl, rfl⟩
  | opens m =>
    cases m with
    | takes k e l tag p hp hw he hl ho hg hx hvl hk =>
      rw [State.takeSlot_slot, if_neg]
      · exact ⟨v, hv, hc, rfl, rfl⟩
      · rintro rfl
        rw [hv] at hk
        cases hk
  | mex m =>
    cases m with
    | starts k x d j hm hx =>
      rw [State.slot_setSlot]
      split
      · rename_i e
        subst e
        rw [hv] at hx
        obtain rfl := Option.some.inj hx
        exact ⟨_, rfl, .inr rfl, rfl, rfl⟩
      · exact ⟨v, hv, hc, rfl, rfl⟩
    | halts => exact ended s rfl
    | stops => exact ended { s with inProgress := none } rfl
    | endTaken => exact ended s rfl
    | _ => exact same rfl
  | slots | reset => simp at hd
  | _ => simp at hn

/-- The cells of a CLOSED or EXPORTING slot change only by becoming DAMAGED in every move but a reset (R85). -/
theorem Move.done_record {d : Domain} {g g' : Hand} {s t : State} (m : Move d g s g' t) (hd : d ≠ .reset)
    (h : s.BooksIn g) {n : SlotId} {v : Wafer} (hv : s.slot n = some v) (hc : v.done) {k : Nat}
    (hk : k < v.cols * v.rows) : t.cellRecord n k = s.cellRecord n k ∨ t.cellRecord n k = .damaged := by
  have hlt : k < 65536 := by
    have := (h.tables.slots.lawful n v hv).cells_le
    omega
  by_cases hm : d ∈ [.accounts, .cells, .opens, .reset]
  case neg => exact .inl ((State.MapKept.of_mem (m.frame.mem hm) n).records k hlt)
  have ht := (m.tablesIn h.tables).slots
  have applies : ∀ {i b p c F e}, (s.station i).binding = some b →
      (∀ w, s.slot b.slot = some w → s.EntryFits b.slot w e) →
      (s.applyItem b.slot i p e c F).cellRecord n k = s.cellRecord n k := by
    intro i b p c F e hb hfit
    obtain ⟨w, hw⟩ := h.tables.bindings.slot_of_bound hb
    have hcell : e.cell < 65536 := by
      have := (h.tables.slots.lawful _ w hw).cells_le
      have := (hfit w hw).1
      omega
    have hr : s.Rewrites (s.applyItem b.slot i p e c F) b.slot e.cell c := .of_write hcell rfl
    refine (hr.mapKept ?_).records k hlt
    rintro rfl
    rw [hv] at hw
    obtain rfl := Option.some.inj hw
    rcases h.tables.bindings.open_of_bound hb hv with e | e <;> simp [Wafer.done, e] at hc
  cases m with
  | accounts m =>
    cases m with
    | first _ i f o e es b gr hb hg =>
      exact .inl (applies hb fun w hw => h.accounts.entries i b gr w hb hg hw e (by simp))
    | retest _ i f o e es b gr final first count x st hb hg =>
      exact .inl (applies hb fun w hw => h.accounts.entries i b gr w hb hg hw e (by simp))
    | _ => exact .inl rfl
  | cells m =>
    cases m with
    | upset us =>
      obtain ⟨me, e, -, -, hrec⟩ := State.upset_form us s
      rw [e]
      exact .inl (hrec _)
    | read j x hr =>
      obtain ⟨w, hw, hx⟩ := hr.inGrid h.tables h.accounts
      have := (h.tables.slots.lawful j w hw).cells_le
      exact State.readCell_record (by omega) s n hlt
  | opens m => exact .inl ((m.mapKept ht hv).records k hlt)
  | reset => exact absurd rfl hd
  | _ => simp at hm

theorem Move.closedMap {d : Domain} {g g' : Hand} {s u v : State} (m : Move d g u g' v)
    (hd : d ∉ [.slots, .reset]) (hu : u.BooksIn g) {n : SlotId} {w : Wafer} (h : s.ClosedMap n w u) :
    s.ClosedMap n w v := by
  obtain ⟨⟨x, hx, hdone, hcols, hrows⟩, hrec⟩ := h
  obtain ⟨x', hx', hdone', hcols', hrows'⟩ := m.done_slot hd hu.tables.bindings hx hdone
  refine ⟨⟨x', hx', hdone', hcols'.trans hcols, hrows'.trans hrows⟩, fun k hk => ?_⟩
  rcases m.done_record (by simp_all) hu hx hdone (k := k) (by rw [hcols, hrows]; exact hk) with e | e
  · rw [e]; exact hrec k hk
  · exact .inr e

/-- A command that works on the slots' requests leaves the map memory alone. -/
theorem domainsOf_slots {c : Instr} (h : Domain.slots ∈ domainsOf c) :
    ∀ d ∈ domainsOf c, d ∉ [Domain.accounts, .cells, .opens, .reset] := by
  cases c <;> simp [domainsOf] at h ⊢

theorem domainsOf_reset {c : Instr} (h : Domain.reset ∈ domainsOf c) :
    ∀ d ∈ domainsOf c, d = .host ∨ d = .reset := by
  cases c <;> simp [domainsOf] at h ⊢

/-- Settles O59: of the moves that touch the map memory, only reads reach a CLOSED or EXPORTING slot. -/
theorem closedMapOnlyTurnsDamaged : Obligations.ClosedMapOnlyTurnsDamaged := by
  intro s t n w hs he hw hc hn k hk
  unfold step at he
  split at he
  · obtain rfl : s = t := by cases he; rfl
    exact .inl rfl
  rename_i c rest _
  have hbooks := hs.booksIn.setPending rest
  by_cases hsl : .slots ∈ domainsOf c
  · have hm : t.mem = s.mem := exec_keeps (P := fun _ u => u.mem = s.mem)
      (fun d hd _ _ _ _ m hu => (m.frame.mem (domainsOf_slots hsl d hd)).trans hu) he rfl
    unfold State.cellRecord State.cellWord
    rw [hm]
    exact .inl rfl
  by_cases hr : .reset ∈ domainsOf c
  · have key : t.mem = s.mem ∨ t.slots = State.reset.slots :=
      exec_keeps (P := fun _ u => u.mem = s.mem ∨ u.slots = State.reset.slots) (fun d hd g u g' v m hu => by
        rcases domainsOf_reset hr d hd with rfl | rfl
        · rw [m.frame.mem (by decide), m.frame.slots (by decide)]
          exact hu
        · cases m with
          | reset m =>
            cases m
            exact .inr rfl) he (.inl rfl)
    rcases key with hm | hsl
    · unfold State.cellRecord State.cellWord
      rw [hm]
      exact .inl rfl
    · refine absurd ?_ hn
      rw [State.slot_congr hsl]
      simp [State.slot, State.reset]
  · have key : t.BooksIn .idle ∧ s.ClosedMap n w t :=
      exec_keeps (P := fun g u => u.BooksIn g ∧ s.ClosedMap n w u) (fun d hd g u g' v m hu => by
        refine ⟨m.booksIn hu.1, m.closedMap ?_ hu.1 hu.2⟩
        simp only [List.mem_cons, List.not_mem_nil, or_false, not_or]
        exact ⟨fun e => hsl (e ▸ hd), fun e => hr (e ▸ hd)⟩) he
        ⟨hbooks, ⟨w, hw, hc, rfl, rfl⟩, fun _ _ => .inl rfl⟩
    exact key.2.2 k hk

end Sys2Proof.Machine
end

section
/-! PROOF. O60: the records of a station leave every other station as it is, and the map memory and the settings
change by their own rows alone. -/

namespace Sys2Proof.Machine

/-! ## Changes of one station -/

/-- Only the record of station i changes, and not in the slot it is bound to. -/
structure State.OnlyAt (i : StationId) (s t : State) : Prop where
  other : ∀ j, i ≠ j → t.station j = s.station j
  bound : (t.station i).bound = (s.station i).bound

theorem State.OnlyAt.of_stations {i : StationId} {s t : State} (h : t.stations = s.stations) : s.OnlyAt i t :=
  ⟨fun j _ => State.station_congr h j, by rw [State.station_congr h]⟩

theorem State.OnlyAt.refl (i : StationId) (s : State) : s.OnlyAt i s := .of_stations rfl

theorem State.OnlyAt.trans {i : StationId} {s t u : State} (h : s.OnlyAt i t) (h' : t.OnlyAt i u) : s.OnlyAt i u :=
  ⟨fun j hj => (h'.other j hj).trans (h.other j hj), h'.bound.trans h.bound⟩

theorem State.OnlyAt.modStation {i : StationId} {f : Station → Station} {s : State}
    (h : (f (s.station i)).binding = (s.station i).binding) : s.OnlyAt i (s.modStation i f) := by
  refine ⟨fun j hj => State.station_modStation_ne s hj f, ?_⟩
  rw [State.station_modStation_self]
  unfold Station.bound
  rw [h]

/-- Work for station i leaves the other stations alone and no slot bound twice. -/
def State.Spares (i : StationId) (s t : State) : Prop :=
  s.Apart → (∀ j, i ≠ j → t.station j = s.station j) ∧ t.Apart

theorem State.Spares.trans {i : StationId} {s t u : State} (h : s.Spares i t) (h' : t.Spares i u) : s.Spares i u := by
  intro ha
  obtain ⟨h1, ha⟩ := h ha
  obtain ⟨h2, ha⟩ := h' ha
  exact ⟨fun j hj => (h2 j hj).trans (h1 j hj), ha⟩

/-- Where the changed station is bound as before or not at all, no slot becomes bound twice. -/
theorem State.Apart.of_bound {i : StationId} {s t : State} (h : s.Apart)
    (ho : ∀ j, i ≠ j → t.station j = s.station j)
    (hb : ∀ n, (t.station i).bound = some n → (s.station i).bound = some n) : t.Apart := by
  have key : ∀ j n, (t.station j).bound = some n → (s.station j).bound = some n := by
    intro j n hj
    by_cases e : i = j
    · subst e; exact hb n hj
    · rw [ho j e] at hj; exact hj
  exact fun j k n hj hk => h j k n (key j n hj) (key k n hk)

theorem State.OnlyAt.spares {i : StationId} {s t : State} (h : s.OnlyAt i t) : s.Spares i t := fun ha =>
  ⟨h.other, ha.of_bound h.other fun n hn => by rw [← h.bound]; exact hn⟩

theorem State.Spares.refl (i : StationId) (s : State) : s.Spares i s := (State.OnlyAt.refl i s).spares

theorem State.unbind_spares (i : StationId) (s : State) : s.Spares i (s.unbind i) := fun ha => by
  have ho : ∀ j, i ≠ j → (s.unbind i).station j = s.station j := fun j hj => State.station_modStation_ne s hj _
  refine ⟨ho, ha.of_bound ho fun n hn => ?_⟩
  rw [State.unbind, State.station_modStation_self] at hn
  cases hn

theorem State.endGroup_spares (i : StationId) (s : State) : s.Spares i (s.endGroup i) := fun ha => by
  have hst := State.endGroup_station (i := i) ha
  have ho : ∀ j, i ≠ j → (s.endGroup i).station j = s.station j := fun j hj => by rw [hst, if_neg hj]
  refine ⟨ho, ha.of_bound ho fun n hn => ?_⟩
  rw [hst, if_pos rfl, Station.ended_bound] at hn
  split at hn
  · cases hn
  · exact hn

theorem State.finishFault_spares (i : StationId) (s : State) : s.Spares i (s.finishFault i) := by
  have h1 : s.Spares i (s.discardGroup i) := by
    unfold State.discardGroup
    split
    · exact State.endGroup_spares i s
    · exact .refl i s
  exact (h1.trans (State.unbind_spares i _)).trans (State.OnlyAt.of_stations (State.addCause_stations _ _)).spares

theorem Station.deliver_binding (y : StationReply) (x : Station) : (x.deliver y).binding = x.binding := by
  unfold Station.deliver
  split <;> rfl

theorem State.deliver_onlyAt (i : StationId) (y : StationReply) (s : State) : s.OnlyAt i (s.deliver i y) :=
  .modStation (Station.deliver_binding y _)

/-! ## The bytes that arrive meanwhile -/

theorem Station.examine_binding (f : Frame) (x : Station) : (x.examine f).binding = x.binding := by
  have answer : ∀ r : StationReply, (x.answer r).binding = x.binding := fun r => by
    unfold Station.answer
    split <;> rfl
  unfold Station.examine
  split
  · exact answer _
  · exact answer _
  · split
    · exact answer _
    · split
      · exact answer _
      · split
        · rfl
        · exact answer _

theorem State.badFrame_onlyAt (i : StationId) (s : State) : s.OnlyAt i (s.badFrame i) := by
  have h1 : s.OnlyAt i (s.modStation i fun x =>
      { x.answer (.refuse 0 .badFrame) with badFrames := bump 16 x.badFrames }) := by
    refine .modStation ?_
    show ((s.station i).answer _).binding = _
    unfold Station.answer
    split <;> rfl
  unfold State.badFrame
  dsimp only
  split
  · exact h1.trans (.modStation rfl)
  · exact h1

theorem State.stationReceive_onlyAt (i : StationId) (k : Nat) (bytes : List Byte) (s : State) :
    s.OnlyAt i (State.stationReceive i k bytes s) := by
  induction k generalizing bytes s with
  | zero => exact .modStation rfl
  | succ k ih =>
    unfold State.stationReceive
    split
    · exact .modStation rfl
    · split
      · exact .modStation rfl
      · exact (State.badFrame_onlyAt i s).trans (ih _ _)
      · rename_i f rest _
        have h1 : s.OnlyAt i (s.modStation i fun x => ({ x with badFrames := 0, silence := 0 } : Station).examine f) :=
          .modStation (Station.examine_binding f _)
        exact (h1.trans (State.OnlyAt.of_stations (t := s.goodFrame i f) rfl)).trans (ih _ _)

theorem State.during_spares {i : StationId} {arriving : List Byte} {work : State → State}
    (hw : ∀ s, State.Spares i s (work s)) (s : State) : s.Spares i (s.during i arriving work) := by
  unfold State.during
  split
  · exact hw s
  · have h1 := (State.stationReceive_onlyAt i (((s.station i).rx ++ arriving).length + 1)
      ((s.station i).rx ++ arriving) s).spares
    unfold State.receiving
    dsimp only
    split
    · exact (h1.trans (hw _)).trans (State.finishFault_spares i _)
    · exact h1.trans (hw _)

/-! ## The records -/

theorem State.refuse_spares (i : StationId) (tag : Byte) (why : Reason) (s : State) :
    s.Spares i (s.refuse i tag why) := (State.deliver_onlyAt i _ s).spares

theorem State.waferStart_spares (i : StationId) (r : Frame) (s : State) : s.Spares i (s.waferStart i r) := by
  unfold State.waferStart
  split
  case h_2 => exact State.refuse_spares i _ _ s
  rename_i q _ _
  dsimp only
  split
  · exact State.refuse_spares i _ _ s
  split
  · exact State.refuse_spares i _ _ s
  split
  · exact State.refuse_spares i _ _ s
  rename_i n _
  split
  · exact (State.deliver_onlyAt i _ s).spares
  split
  · exact State.refuse_spares i _ _ s
  split
  · exact State.refuse_spares i _ _ s
  · rename_i hfree
    refine State.Spares.trans (fun ha => ?_) (State.deliver_onlyAt i _ _).spares
    have ho : ∀ j, i ≠ j → (s.modStation i fun x => { x with binding := some ⟨n, q⟩ }).station j = s.station j :=
      fun j hj => State.station_modStation_ne s hj _
    have hno : ∀ j, (s.station j).bound ≠ some n :=
      State.bound_ne_of_boundStation (by simpa using hfree)
    have hself : ((s.modStation i fun x => { x with binding := some ⟨n, q⟩ }).station i).bound = some n := by
      rw [State.station_modStation_self]
      rfl
    refine ⟨ho, fun j k m hj hk => ?_⟩
    by_cases e1 : i = j
    · by_cases e2 : i = k
      · rw [← e1, ← e2]
      · subst e1
        rw [hself] at hj
        obtain rfl := Option.some.inj hj
        rw [ho k e2] at hk
        exact absurd hk (hno k)
    · rw [ho j e1] at hj
      by_cases e2 : i = k
      · subst e2
        rw [hself] at hk
        obtain rfl := Option.some.inj hk
        exact absurd hj (hno j)
      · rw [ho k e2] at hk
        exact ha j k m hj hk

theorem State.waferEnd_spares (i : StationId) (r : Frame) (s : State) : s.Spares i (s.waferEnd i r) := by
  unfold State.waferEnd
  split
  · exact State.refuse_spares i _ _ s
  · split
    · exact State.refuse_spares i _ _ s
    · exact (State.unbind_spares i s).trans (State.deliver_onlyAt i _ _).spares

theorem State.tdOpen_spares (i : StationId) (r : Frame) (s : State) : s.Spares i (s.tdOpen i r) := by
  unfold State.tdOpen
  split
  · exact State.refuse_spares i _ _ s
  · repeat' split
    · exact State.refuse_spares i _ _ s
    · exact State.refuse_spares i _ _ s
    · exact State.refuse_spares i _ _ s
    · have h : s.OnlyAt i (s.modStation i fun x =>
          { x with group := some (Group.new s.classes[x.timingClass] r.payload) }) := .modStation rfl
      exact (h.trans (State.deliver_onlyAt i _ _)).spares

theorem State.withGroup_spares {i : StationId} {r : Frame} {go : Group → State → State} {s : State}
    (h : ∀ g, (s.station i).group = some g → s.Spares i (go g s)) : s.Spares i (s.withGroup i r go) := by
  unfold State.withGroup
  split
  · exact State.refuse_spares i _ _ s
  · rename_i g hg
    split
    · exact h g hg
    · exact State.refuse_spares i _ _ s

theorem State.checkEntry_onlyAt (i : StationId) (b : Binding) (x : Result) (s : State) :
    s.OnlyAt i (s.checkEntry i b x).1 := by
  have hread : ∀ k, s.OnlyAt i (s.readCell b.slot k).1 := fun k =>
    ⟨fun j _ => State.readCell_station b.slot k s j, by rw [State.readCell_station]⟩
  unfold State.checkEntry
  split
  · split
    · exact .refl i s
    · dsimp only
      split
      · exact hread _
      · split
        · exact hread _
        · exact (hread _).trans (.modStation rfl)
  · exact .refl i s

theorem State.checkEntries_onlyAt (i : StationId) (b : Binding) (xs : List Result) (s : State) :
    s.OnlyAt i (s.checkEntries i b xs).1 := by
  induction xs generalizing s with
  | nil => exact .refl i s
  | cons x xs ih => exact (State.checkEntry_onlyAt i b x s).trans (ih _)

theorem State.tdResults_spares (i : StationId) (r : Frame) (s : State) : s.Spares i (s.tdResults i r) := by
  refine State.withGroup_spares fun g _ => ?_
  split
  · exact State.refuse_spares i _ _ s
  · rename_i b _
    exact ((State.checkEntries_onlyAt i b _ s).trans (State.deliver_onlyAt i _ _)).spares

theorem State.tdAbort_spares (i : StationId) (r : Frame) (s : State) : s.Spares i (s.tdAbort i r) :=
  State.withGroup_spares fun _ _ => (State.endGroup_spares i s).trans (State.deliver_onlyAt i _ _).spares

/-! ## The commit -/

theorem State.commitItem_onlyAt (n : SlotId) (i : StationId) (p : Plan) (x : Item) (s : State) :
    s.OnlyAt i (State.commitItem n i p x s).1 := by
  have void : ∀ (k : SiteId) (s : State), s.OnlyAt i (s.voidItem n i k) := fun k s => by
    unfold State.voidItem
    exact (State.OnlyAt.of_stations (s := s) (t := s.modAcc n (Acc.site k SiteTriple.void)) rfl).trans
      (.modStation (f := Station.voided k) rfl)
  have hread : ∀ k, s.OnlyAt i (s.readCell n k).1 := fun k =>
    ⟨fun j _ => State.readCell_station n k s j, by rw [State.readCell_station]⟩
  have apply : ∀ (e : Entry) c F (s : State), s.OnlyAt i (s.applyItem n i p e c F) := fun e c F s => by
    unfold State.applyItem
    exact (State.OnlyAt.of_stations (s := s) (t := ((s.writeCell n e.cell c).modAcc n F).modAcc n
      (Acc.site e.site (SiteTriple.test (decide (p.cls e.bin = .pass))))) rfl).trans
      (.modStation (f := Station.applied e.site (decide (p.cls e.bin = .pass))) rfl)
  unfold State.commitItem
  split
  · exact void _ s
  · rename_i e
    split
    · unfold State.mergeItem
      dsimp only
      split
      · exact (hread _).trans (apply _ _ _ _)
      · exact (hread _).trans (apply _ _ _ _)
      · exact (hread _).trans (void _ _)
      · exact (hread _).trans (void _ _)
    · exact void _ s

theorem State.commitItems_onlyAt (n : SlotId) (i : StationId) (p : Plan) (xs : List Item) (reads : List Nat)
    (s : State) : s.OnlyAt i (State.commitItems n i p xs reads s).1 := by
  induction xs generalizing reads s with
  | nil => exact .refl i s
  | cons x xs ih =>
    have h1 : s.OnlyAt i (State.readAhead (reads.headD 0) s) :=
      ⟨fun j _ => State.readAhead_station _ s j, by rw [State.readAhead_station]⟩
    exact (h1.trans (State.commitItem_onlyAt n i p x _)).trans (ih _ _)

theorem State.judge_onlyAt {i : StationId} {s : State} {a : Alarm} (ha : s.Apart) (hc : a.concerns i s)
    (w : Watch) (f : Finding) : s.OnlyAt i (s.judge w f a) := by
  have hact : ∀ u : State, u.stations = s.stations → u.OnlyAt i (u.act a) := by
    intro u hu
    have hst : ∀ j, u.station j = s.station j := State.station_congr hu
    unfold State.act
    split
    · exact .refl i u
    · split
      · exact .refl i u
      · rename_i k hk
        obtain rfl : k = i := by
          unfold State.heldStation at hk
          split at hk
          · rename_i hs
            rw [← Option.some.inj hk]
            exact hc.1 hs
          · rename_i n hs
            have := State.bound_of_boundStation hk
            rw [hst] at this
            exact ha k i n this (hc.2 n hs)
        refine .modStation ?_
        obtain ⟨it, tr, hx⟩ := Station.hold_form a.rule a.level (u.station k)
        rw [hx]
  unfold State.judge
  split
  · split
    · exact .refl i s
    · exact .of_stations rfl
  · split
    · unfold State.record
      dsimp only
      have hr : ∀ (u : State) k, (u.raise k).stations = u.stations := fun u k => by
        obtain ⟨_, _, _, _, e⟩ := State.raise_form k u
        rw [e]
      split
      · rename_i k _
        refine State.OnlyAt.trans (State.OnlyAt.of_stations ?_) (hact _ rfl)
        rfl
      · rename_i k _
        refine State.OnlyAt.trans (State.OnlyAt.of_stations ?_) (hact _ (hr _ k))
        exact hr _ k
    · exact .refl i s

/-- The commit evaluation for a slot bound to station i touches no other station. -/
theorem State.evalCommit_onlyAt {i : StationId} {n : SlotId} {s : State} (ha : s.Apart)
    (hb : (s.station i).bound = some n) : s.OnlyAt i (s.evalCommit n i) := by
  have hrun := (State.evalCommit_run (D := [.alarms]) (by decide) (h := .busy i false false none) (n := n) (st := i)
    (s := s) (fun _ _ _ _ e => by cases e; exact ⟨rfl, hb⟩)).1
  have key : ∀ g u, Run [.alarms] (.busy i false false none) s g u → g = .busy i false false none ∧ s.OnlyAt i u :=
    fun g u r => r.keeps (P := fun g u => g = .busy i false false none ∧ s.OnlyAt i u) (fun d hd g u g' v m hu => by
      obtain ⟨rfl, ho⟩ := hu
      obtain rfl : d = .alarms := by simpa using hd
      cases m with
      | alarms m =>
        refine ⟨rfl, ho.trans ?_⟩
        cases m with
        | judges w f a hs hr hh => exact State.judge_onlyAt (ho.spares ha).2 (hh _ _ _ _ rfl) w f
        | acknowledges level =>
          obtain ⟨_, _, _, _, e⟩ := State.acknowledge_form level u
          exact .of_stations (by rw [e])
        | clears => exact .of_stations rfl) ⟨rfl, .refl i s⟩
  exact (key _ _ hrun).2

theorem State.tdClose_spares (reads : List Nat) (i : StationId) (r : Frame) (s : State) :
    s.Spares i (State.tdClose reads i r s) := by
  refine State.withGroup_spares fun g _ => ?_
  split
  · exact State.refuse_spares i _ _ s
  · rename_i b hb
    rw [State.commit_eq]
    dsimp only
    have h1 := State.commitItems_onlyAt b.slot i (s.slotPlan b.slot) g.items reads s
    refine State.Spares.trans ?_ (State.deliver_onlyAt i _ _).spares
    refine State.Spares.trans ?_ (State.endGroup_spares i _)
    intro ha
    have h2 := State.evalCommit_onlyAt (i := i) (n := b.slot) (h1.spares ha).2 (by
      rw [h1.bound]
      simp [Station.bound, hb])
    exact (h1.trans h2).spares ha

/-! ## The rows -/

theorem State.takeRecord_spares {k : Byte} {carry : StationId → Frame → State → State} {i j : StationId}
    {s : State} (hg : s.grant = some i) (hij : i ≠ j) (ha : s.Apart)
    (hc : ∀ r u, State.Spares i u (carry i r u)) :
    (s.takeRecord k carry).station j = s.station j := by
  rcases State.takeRecord_cases k carry s with ⟨i', r, rest, h, -, e⟩ | e
  · obtain ⟨-, -, -, hgr, -⟩ := h
    obtain rfl : i = i' := by rw [hg] at hgr; exact Option.some.inj hgr
    rw [e]
    have h1 : s.OnlyAt i (s.granted i { s.station i with staging := rest }) :=
      ((State.OnlyAt.modStation (i := i) (f := fun x => { x with staging := rest }) rfl).trans
        (.of_stations rfl))
    exact ((h1.spares.trans (hc r _)) ha).1 j hij
  · rw [e]

theorem State.checked_spares {i : StationId} {r : Frame} {arriving : List Byte} {carry : State → State}
    (hc : ∀ u, State.Spares i u (carry u)) (s : State) : s.Spares i (s.checked i r arriving carry) := by
  refine State.during_spares (fun u => ?_) s
  cases stateCheck r.kind (s.station i).intake with
  | some why => exact State.refuse_spares i _ _ u
  | none => exact hc u

theorem State.upset_fields (us : List Upset) (s : State) :
    (s.upset us).stations = s.stations ∧ (s.upset us).lastGranted = s.lastGranted := by
  obtain ⟨_, e, -⟩ := State.upset_form us s
  rw [e]
  exact ⟨rfl, rfl⟩

theorem State.grant_congr {s t : State} (hs : t.stations = s.stations) (hl : t.lastGranted = s.lastGranted) :
    t.grant = s.grant := by
  have hc : t.candidate = s.candidate := by
    funext i
    unfold State.candidate State.station
    rw [hs]
  unfold State.grant
  rw [hl, hc]

theorem State.Apart.congr {s t : State} (h : s.Apart) (hs : t.stations = s.stations) : t.Apart :=
  (State.OnlyAt.of_stations (i := 0) hs).spares h |>.2

/-- A record row touches no station but the granted one. -/
theorem recordRow_station {reads : List Nat} {us : List Upset} {bytes : List Byte} {c : Instr}
    (hc : c ∈ (recordRowsWith reads us bytes).map Prod.fst) {s t : State} {i j : StationId} (ha : s.Apart)
    (hg : s.grant = some i) (hij : i ≠ j) (he : exec c s = .next t) : t.station j = s.station j := by
  obtain ⟨hu1, hu2⟩ := State.upset_fields us s
  have hus : (s.upset us).station j = s.station j := State.station_congr hu1 j
  simp only [recordRowsWith, recordForms, List.map_cons, List.map_nil, List.mem_cons, List.not_mem_nil,
    or_false] at hc
  rcases hc with rfl | rfl | rfl | rfl | rfl | rfl <;> rw [← Host.Outcome.next.inj he]
  · exact State.takeRecord_spares hg hij ha fun r u => State.checked_spares (State.waferStart_spares i r) u
  · exact State.takeRecord_spares hg hij ha fun r u => State.checked_spares (State.waferEnd_spares i r) u
  · exact State.takeRecord_spares hg hij ha fun r u => State.checked_spares (State.tdOpen_spares i r) u
  · split
    · rfl
    · rw [← hus]
      exact State.takeRecord_spares ((State.grant_congr hu1 hu2).trans hg) hij (ha.congr hu1) fun r u =>
        State.checked_spares (State.tdResults_spares i r) u
  · split
    · rfl
    · rw [← hus]
      exact State.takeRecord_spares ((State.grant_congr hu1 hu2).trans hg) hij (ha.congr hu1) fun r u =>
        State.checked_spares (State.tdClose_spares reads i r) u
  · exact State.takeRecord_spares hg hij ha fun r u => State.checked_spares (State.tdAbort_spares i r) u

/-! ## The map memory and the settings -/

theorem domainsOf_not_reset {c : Instr} (h1 : c ≠ .resetFull) (h2 : c ≠ .rstAssert) (h3 : c ≠ .rstRelease) :
    Domain.reset ∉ domainsOf c := by
  cases c <;> simp [domainsOf] at h1 h2 h3 ⊢

/-- What the moves of every part of a command but the resets leave, the command leaves. -/
theorem exec_leaves {α : Type} {p : State → α} {c : Instr} {s t : State} (he : exec c s = .next t)
    (h : ∀ d ∈ domainsOf c, ∀ g u g' v, Move d g u g' v → p v = p u) : p t = p s :=
  exec_keeps (P := fun _ u => p u = p s) (fun d hd g u g' v m hu => (h d hd g u g' v m).trans hu) he rfl

/-- Only initialisation and the reads of cells work on the map memory (R84, R106). -/
theorem domainsOf_mem {c : Instr} (hr : Domain.reset ∉ domainsOf c) (h1 : c ≠ .waferOpen)
    (h2 : ∀ k us, c ≠ .cellRead k us) (h3 : ∀ us, c ≠ .cellReadComplete us) (h4 : ∀ us bs, c ≠ .tdResults us bs)
    (h5 : ∀ ks us bs, c ≠ .tdClose ks us bs) (h6 : ∀ ks us bs, c ≠ .groupExpiry ks us bs)
    (h7 : ∀ us, c ≠ .mapSegmentBuild us) :
    ∀ d ∈ domainsOf c, d ∉ [Domain.accounts, .cells, .opens, .reset] := by
  cases c <;> simp [domainsOf] at hr h1 h2 h3 h4 h5 h6 h7 ⊢

/-- The settings have each their own request (R11, R50, R61, R130). -/
theorem domainsOf_settings (c : Instr) : (Domain.plans ∈ domainsOf c → c = .planLoad) ∧
    (Domain.classes ∈ domainsOf c → c = .classSet) ∧ (Domain.rules ∈ domainsOf c → c = .ruleSet) ∧
    (Domain.settings ∈ domainsOf c → c = .stationSet) := by
  cases c <;> simp [domainsOf]

/-- Settles O60: the work of a record row touches the granted station alone, and every command is a run of moves
of its own parts of the hardware. -/
theorem rowsChangeOnlyWhatIsTheirs : Obligations.RowsChangeOnlyWhatIsTheirs := by
  refine ⟨?_, ?_⟩
  · rintro s t i j c hb hg hij ⟨reads, us, bytes, hc⟩ he
    exact recordRow_station hc ((State.bindingIn_idle s).2 hb).apart hg (Ne.symm hij) he
  · intro c s t he h1 h2 h3
    have hr := domainsOf_not_reset h1 h2 h3
    obtain ⟨hp, hc, hru, hse⟩ := domainsOf_settings c
    have part : ∀ {x d : Domain}, d ∈ domainsOf c → x ∉ domainsOf c → d ∉ [x, Domain.reset] := by
      intro x d hd hx
      simp only [List.mem_cons, List.not_mem_nil, or_false, not_or]
      exact ⟨fun e => hx (e ▸ hd), fun e => hr (e ▸ hd)⟩
    refine ⟨fun a1 a2 a3 a4 a5 a6 a7 => ?_, fun a => ?_, fun a => ?_, fun a => ?_, fun a i => ?_⟩
    · exact exec_leaves he fun d hd _ _ _ _ m => m.frame.mem (domainsOf_mem hr a1 a2 a3 a4 a5 a6 a7 d hd)
    · exact exec_leaves he fun d hd _ _ _ _ m => m.frame.plans (part hd (mt hp a))
    · exact exec_leaves he fun d hd _ _ _ _ m => m.frame.classes (part hd (mt hc a))
    · exact exec_leaves he fun d hd _ _ _ _ m => m.frame.rules (part hd (mt hru a))
    · have key : (t.station i).settings = (s.station i).settings :=
        exec_leaves (p := fun u => (u.station i).settings) he fun d hd _ _ _ _ m => by
          have hd' := part hd (mt hse a)
          simp only [List.mem_cons, List.not_mem_nil, or_false, not_or] at hd'
          exact m.station_settings hd'.1 hd'.2 i
      exact ⟨congrArg Prod.fst key, congrArg Prod.snd key⟩

end Sys2Proof.Machine
end

section
/-! PROOF. How a request row and a record row are carried out, and the statements of the queue, the resets, the
causes and the transmitters. -/

namespace Sys2Proof.Machine

/-! ## Rows that are taken -/

/-- A request row carries out the request that is offered. -/
theorem exec_request {c : Instr} {accepts : Frame → Bool} {carry : Frame → State → State} {s : State} {r : Frame}
    {rest : List Frame} (hx : exec c s = .next (s.takeRequest accepts carry)) (ho : s.Offers r rest)
    (ha : accepts r = true) : exec c s = .next (carry r { s with requests := rest }) := by
  rw [hx, State.takeRequest_of_offers ho ha]

/-- A request row's outcome, from what carrying the request out gives. -/
theorem exec_request_eq {c : Instr} {accepts : Frame → Bool} {carry : Frame → State → State} {s t : State}
    {r : Frame} {rest : List Frame} (hx : exec c s = .next (s.takeRequest accepts carry)) (ho : s.Offers r rest)
    (ha : accepts r = true) (h : carry r { s with requests := rest } = t) : exec c s = .next t := by
  rw [exec_request hx ho ha, h]

theorem ofCode_of_eq {k : Byte} {o n c : Nat} {r : Frame} (hk : r.kind = k) (hc : u8 r.payload o = c) :
    ofCode k o n c r = true := by
  simp [ofCode, hk, hc]

theorem ofCode_of_undefined {k : Byte} {o n c : Nat} {r : Frame} (hk : r.kind = k) (hc : n ≤ u8 r.payload o) :
    ofCode k o n c r = true := by
  simp [ofCode, hk, hc]

/-- A reply that is a status alone joins the ready list, and nothing else changes. -/
theorem State.status_eq (r : Frame) (st : Status) (s : State) :
    s.status r st = { s with ready := s.ready ++ [answerTo r st []] } := rfl

theorem State.modStation_eq (i : StationId) (f : Station → Station) (s : State) :
    s.modStation i f = { s with stations := s.stations.set i (f (s.station i)) } := rfl

theorem State.setSlot_eq (n : SlotId) (w : Option Wafer) (s : State) :
    s.setSlot n w = { s with slots := s.slots.set n w } := rfl

theorem inRange_of_eq {n m : Nat} {k : Fin n} (h : m = k.val) : inRange n m = some k := inRange_eq_some.2 h

theorem inRange_of_le {n m : Nat} (h : n ≤ m) : inRange n m = none := inRange_eq_none.2 h

theorem clamp_eq {low high : Nat} (h : low ≤ high) (n : Nat) : clamp low high n = max low (min high n) := by
  unfold clamp
  split
  · omega
  · split <;> omega

theorem clamp_zero (high n : Nat) : clamp 0 high n = min high n := by
  rw [clamp_eq (Nat.zero_le _)]
  omega

/-! ## O1, O3, O52 -/

/-- Settles O1: the queue's front command is carried out with the queue's rest. -/
theorem stepRunsFrontCommand : Obligations.StepRunsFrontCommand := fun _ _ _ => ⟨rfl, rfl⟩

/-- Settles O3: the reset state field by field. -/
theorem resetValues : Obligations.ResetValues := by
  have hst : ∀ i, State.reset.station i = Station.reset i.val := fun i => by
    simp [State.station, State.reset]
  refine ⟨rfl, rfl, rfl, rfl, rfl, rfl, rfl, rfl, ?_, ?_, ?_, ?_, ?_, rfl, rfl, rfl, ?_, rfl, rfl, rfl, rfl, rfl⟩
  · simp [State.reset]
  · simp [State.reset, Plan.reset]
  · simp [State.reset]
  · simp [State.reset, TimingClass.reset]
  · intro i
    rw [hst]
    simp [Station.reset]
  · simp [State.reset, Rule.reset]

theorem State.reset_queueLaw : State.reset.QueueLaw := by
  refine ⟨by decide, by decide, by decide, by decide, by decide, by decide, by decide, by decide, fun i => ?_⟩
  have hst : State.reset.station i = Station.reset i.val := by simp [State.station, State.reset]
  rw [hst]
  refine ⟨Nat.zero_le _, Nat.zero_le _, Nat.zero_le _, Nat.zero_le _, ?_, fun k => by simp [Station.reset],
    fun k => by simp [Station.reset]⟩
  show i.val ≤ 15
  omega

/-- Settles O52: each law holds of the reset state, in which no slot is taken and no station bound. -/
theorem resetIsLawful : Obligations.ResetIsLawful := by
  have hb : State.reset.BindingLaw := by
    refine ⟨?_, ?_, ?_, ?_, ?_, ?_⟩ <;>
      simp [State.reset, State.station, State.slotIs, State.slot, Station.reset]
  have ha : State.reset.AlarmLaw := by
    refine ⟨?_, ?_, ?_, ?_⟩ <;> simp [State.reset]
  have hacc : State.reset.AccountLaw := by
    refine ⟨?_, ?_⟩ <;> simp [State.reset, State.slot, State.station, Station.reset]
  exact ⟨State.reset_mem_wf, State.reset_queueLaw, hb, (State.slotsAgree_iff _).1 State.reset_slotsAgree,
    (State.lotsAgree_iff _).1 State.reset_lotsAgree, ha, State.reset_settingsLaw, hacc⟩

/-! ## O4 -/

theorem State.takeRequest_of_rst {s : State} (h : s.rst = true) (accepts : Frame → Bool)
    (carry : Frame → State → State) : s.takeRequest accepts carry = s := by
  rcases State.takeRequest_cases accepts carry s with ⟨r, rest, ho, -⟩ | e
  · rw [ho.1] at h
    cases h
  · exact e

theorem State.takeRecord_of_rst {s : State} (h : s.rst = true) (k : Byte)
    (carry : StationId → Frame → State → State) : s.takeRecord k carry = s := by
  rcases State.takeRecord_cases k carry s with ⟨i, r, rest, hg, -⟩ | e
  · rw [hg.1] at h
    cases h
  · exact e

/-- While RST is asserted nothing but the pin acts (R181). -/
theorem exec_of_rst {c : Instr} {s : State} (h : s.rst = true) (h1 : c ≠ .rstAssert) (h2 : c ≠ .rstRelease) :
    exec c s = .next s := by
  have hreq : ∀ a k, Host.Outcome.next (σ := State) (φ := Fault) (ρ := Refusal) (s.takeRequest a k) = .next s :=
    fun a k => congrArg _ (State.takeRequest_of_rst h a k)
  have hrec : ∀ b k, Host.Outcome.next (σ := State) (φ := Fault) (ρ := Refusal) (s.takeRecord b k) = .next s :=
    fun b k => congrArg _ (State.takeRecord_of_rst h b k)
  have hif : ∀ u : State, Host.Outcome.next (σ := State) (φ := Fault) (ρ := Refusal)
      (if s.rst = true then s else u) = .next s := fun u => by rw [if_pos h]
  cases c with
  | rstAssert => exact absurd rfl h1
  | rstRelease => exact absurd rfl h2
  | hostFrameReceive | cellRead | mapSegmentBuild | exportEndBuild | badFrame | stationFrameReceive | linkCheck
  | tdResults | tdClose | timerTick | groupExpiry | stationTransmit | cellReadComplete => exact hif _
  | waferStart | waferEnd | tdOpen | tdAbort => exact hrec _ _
  | collationRestart | initialisationComplete | mapSegmentTaken | exportEndTaken | noticeTaken | hostReplyTaken =>
    simp only [exec, execCollationRestart, execInitialisationComplete, execMapSegmentTaken, execExportEndTaken,
      execNoticeTaken, execHostReplyTaken, h]
    split <;> simp <;> split <;> rfl
  | exportStop =>
    simp only [exec, execExportStop, State.takeRequest_of_rst h, h]
    split <;> simp
  | _ => exact hreq _ _

/-- Settles O4: each row carries out its request, or the pin, and an asserted pin leaves the rest alone. -/
theorem resetsAndPinHold : Obligations.ResetsAndPinHold := by
  refine ⟨⟨fun s r rest ho hk hc => ?_, fun s => rfl, fun s hr => ?_⟩, fun s r rest ho hk hc c hm => ?_,
    fun c s hr h1 h2 => exec_of_rst hr h1 h2⟩
  · rw [exec_request rfl ho (ofCode_of_eq hk hc)]
    simp [resetKnown, hc, State.fullReset]
  · show Host.Outcome.next (if s.rst then s.powerOn false else s) = _
    rw [if_pos hr]
    rfl
  · have hn : resetKnown r = false := by simp [resetKnown, hc]
    simp only [List.mem_cons, List.not_mem_nil, or_false] at hm
    rcases hm with rfl | rfl
    all_goals
      rw [exec_request rfl ho (ofCode_of_undefined hk hc)]
      simp only [hn]
      rfl

end Sys2Proof.Machine
end

section
/-! PROOF. The statements of the causes, the transmitters, the rows that wait, and the requests that name a station
or a timing class. -/

namespace Sys2Proof.Machine

/-! ## O10, O11, O12 -/

theorem State.topCause_eq_head {s : State} (h : s.causes = Cause.all.filter (fun c => decide (c ∈ s.causes))) :
    s.topCause = s.causes.head? := by
  conv_rhs => rw [h]
  rw [List.head?_filter]
  rfl

theorem State.causes_nodup {s : State} (h : s.causes = Cause.all.filter (fun c => decide (c ∈ s.causes))) :
    s.causes.Nodup := by
  rw [h]
  exact List.Nodup.filter _ (by decide)

/-- The cause of highest priority is the first of the set, which keeps the others. -/
theorem State.dropTop_eq {s : State} (h : s.causes = Cause.all.filter (fun c => decide (c ∈ s.causes))) :
    s.dropTop = { s with causes := s.causes.tail } := by
  unfold State.dropTop
  rw [State.topCause_eq_head h]
  have hn := State.causes_nodup h
  cases hc : s.causes with
  | nil =>
    simp only [List.head?_nil, List.tail_nil]
    rw [← hc]
  | cons c cs =>
    rw [hc, List.nodup_cons] at hn
    have hf : cs.filter (fun x => decide (x ≠ c)) = cs :=
      List.filter_eq_self.2 fun x hx => decide_eq_true fun e => hn.1 (e ▸ hx)
    simp only [List.head?_cons, List.tail_cons, State.dropCause, hc]
    rw [List.filter_cons_of_neg (by simp), hf]

/-- Settles O10: in priority order the first cause is the one reported, and the rest remain. -/
theorem statusReportsTopCause : Obligations.StatusReportsTopCause := by
  intro s r rest ho hk hc
  rw [exec_request rfl ho (ofKind_eq_true_iff.2 hk)]
  have hd : ({ s with requests := rest } : State).dropTop = { s with requests := rest, causes := s.causes.tail } :=
    State.dropTop_eq (s := { s with requests := rest }) hc
  have ht : ({ s with requests := rest } : State).topCause = s.causes.head? :=
    State.topCause_eq_head (s := { s with requests := rest }) hc
  unfold State.reportStatus
  rw [hd, ht]
  rfl

/-- The Map Export Unit stopped: it is IDLE, its slot CLOSED and EXPORT_WAITING out of the set. -/
theorem State.haltExport_of_exporting {s : State} {m : Mex} {w : Wafer} (hm : s.mex = some m)
    (hw : s.slot m.slot = some w) (hx : w.state = .exporting) :
    s.haltExport = { s with
      mex := none
      slots := s.slots.set m.slot (some { w with state := .closed })
      causes := s.causes.filter fun c => decide (c ≠ .exportWaiting) } := by
  have hw' : s.slots[m.slot] = some w := hw
  simp [State.haltExport, State.endExport, State.dropCause, State.modWafer, State.setSlot, State.slot, hm, hw',
    Wafer.endExport, hx]

theorem State.stopSent_of_stopping {s : State} {tag : Byte} {m : Mex} {w : Wafer}
    (hs : s.inProgress = some (.stopping tag)) (hm : s.mex = some m) (hw : s.slot m.slot = some w)
    (hx : w.state = .exporting) :
    s.stopSent = { s with
      ready := s.ready ++ [.reply false ⟨0x9C, tag, 0 :: be16 m.position⟩]
      inProgress := none
      mex := none
      slots := s.slots.set m.slot (some { w with state := .closed })
      causes := s.causes.filter fun c => decide (c ≠ .exportWaiting) } := by
  have hh := State.haltExport_of_exporting (s := { s with inProgress := none }) hm hw hx
  have he : s.stopSent = ({ s with inProgress := none } : State).haltExport.answer Code.exportStop tag .ok
      (be16 m.position) := by
    unfold State.stopSent State.stopExport
    rw [hs]
    dsimp only
    rw [hm]
  rw [he, hh]
  rfl

theorem State.stopSent_of_not_stopping {s : State} (hs : ∀ tag, s.inProgress ≠ some (.stopping tag)) :
    s.stopSent = s := by
  unfold State.stopSent
  split
  next tag he => exact absurd he (hs tag)
  next => rfl

theorem exec_noticeTaken {s : State} {rest : List ReadyFrame} (hr : s.rst = false)
    (hd : s.ready = .notice :: rest) :
    exec .noticeTaken s = .next { ({ s with ready := rest } : State).stopSent with
      hostLine := some (noticeFrame ({ s with ready := rest } : State).stopSent.causes) } := by
  unfold exec execNoticeTaken
  rw [hd]
  exact congrArg _ (if_neg (by simp [hr]))

theorem exec_hostReplyTaken {s : State} {b : Bool} {f : Frame} {rest : List ReadyFrame} (hr : s.rst = false)
    (hd : s.ready = .reply b f :: rest) :
    exec .hostReplyTaken s = .next ({ s with ready := rest, hostLine := some f } : State).stopSent := by
  unfold exec execHostReplyTaken
  rw [hd]
  exact congrArg _ (if_neg (by simp [hr]))

theorem exec_stationTransmit {s : State} (i : StationId) (hr : s.rst = false) :
    exec (.stationTransmit i) s = .next (s.modStation i Station.boundary) :=
  congrArg _ (if_neg (by simp [hr]))

/-- Settles O11: the oldest frame leaves the list, behind an EXPORT_STOP that waited for the line. -/
theorem transmittersTakeOldestFrame : Obligations.TransmittersTakeOldestFrame := by
  refine ⟨fun s hr => ⟨fun rest hd => ⟨fun hs => ?_, fun tag m w hs hm hw hx => ?_⟩,
    fun b f rest hd => ⟨fun hs => ?_, fun tag m w hs hm hw hx => ?_⟩⟩,
    fun s i hr => ⟨fun f rest ht => ?_, fun ht => ?_⟩⟩
  · rw [exec_noticeTaken hr hd, State.stopSent_of_not_stopping (s := { s with ready := rest }) hs]
    rfl
  · rw [exec_noticeTaken hr hd, State.stopSent_of_stopping (s := { s with ready := rest }) hs hm hw hx]
    rfl
  · rw [exec_hostReplyTaken hr hd,
      State.stopSent_of_not_stopping (s := { s with ready := rest, hostLine := some f }) hs]
  · rw [exec_hostReplyTaken hr hd,
      State.stopSent_of_stopping (s := { s with ready := rest, hostLine := some f }) hs hm hw hx]
  all_goals
    rw [exec_stationTransmit i hr, State.modStation_eq]
    simp [Station.boundary, ht]

/-- Settles O12: the three cases of a cause that is added. -/
theorem addedCauseMakesOneNotice : Obligations.AddedCauseMakesOneNotice := by
  intro s c
  refine ⟨fun hc => if_pos hc, fun he hn => ?_, fun hc hn => ?_⟩
  · have hf : Cause.all.filter (fun x => decide (x = c ∨ x ∈ s.causes)) = [c] := by
      rw [he]
      cases c <;> decide
    have hc : c ∉ s.causes := by simp [he]
    have hw : s.noticeWaits = false := by simpa [State.noticeWaits] using hn
    rw [State.addCause, if_neg hc, hf, if_pos ⟨he, hw⟩]
  · have hw : ¬(s.causes = [] ∧ s.noticeWaits = false) := by
      rintro ⟨he, hw⟩
      rcases hn with hn | hn
      · exact hn he
      · simp [State.noticeWaits, hn] at hw
    rw [State.addCause, if_neg hc, if_neg hw]

/-! ## O13 -/

/-- Settles O13: a row that is not offered its request or its record leaves the state as it is. -/
theorem rowsWaitTheirTurn : Obligations.RowsWaitTheirTurn := by
  refine ⟨fun s hs => ?_, fun s hs reads bytes x hx => ?_⟩
  · have hw : ∀ accepts carry, s.takeRequest accepts carry = s := fun accepts carry => by
      rcases State.takeRequest_cases accepts carry s with ⟨r, rest, ⟨-, hp, hc, hq⟩, -⟩ | e
      · rcases hs with h | h | h
        · exact absurd hp h
        · exact absurd hc (by omega)
        · rw [hq] at h
          cases h
      · exact e
    refine ⟨fun hns => ?_, fun c hc => ?_⟩
    · show execExportStop s = _
      unfold execExportStop
      split
      next tag he => exact absurd he (hns tag)
      next => rw [hw]
    · fin_cases hc
      all_goals exact congrArg _ (hw _ _)
  · have hw : ∀ k carry, s.takeRecord k carry = s := fun k carry => by
      rcases State.takeRecord_cases k carry s with ⟨i, r, rest, ⟨-, hp, hd, hg, -⟩, -⟩ | e
      · rcases hs with h | h | h
        · rw [h] at hg
          cases hg
        · rw [h] at hp
          cases hp
        · exact absurd ((State.dueExpiry_eq_none s).2 hd) h
      · exact e
    have hif : ∀ k carry, Host.Outcome.next (σ := State) (φ := Fault) (ρ := Refusal)
        (if s.rst = true then s else (s.upset []).takeRecord k carry) = .next s := fun k carry => by
      rw [show s.upset [] = s from rfl, hw, ite_self]
    fin_cases hx
    · exact congrArg _ (hw _ _)
    · exact congrArg _ (hw _ _)
    · exact congrArg _ (hw _ _)
    · exact hif _ _
    · exact hif _ _
    · exact congrArg _ (hw _ _)

/-! ## O14, O15, O16 -/

theorem State.ok_record_eq (r : Frame) (body : List Byte) (s : State) :
    s.ok r body = { s with ready := s.ready ++ [answerTo r .ok body] } := rfl

theorem State.stationSet_eq {s : State} {r : Frame} {i : StationId} {c : Fin 4} (hi : u8 r.payload 0 = i.val)
    (hc : u8 r.payload 2 = c.val) :
    s.stationSet r = if (s.station i).intake = .held ∨ (s.station i).intake = .stopped then
      (s.modStation i fun x => { x with priority := clamp 0 15 (u8 r.payload 1), timingClass := c }).ok r []
      else s.status r .state := by
  rw [State.stationSet, inRange_of_eq hi, inRange_of_eq hc]

theorem State.stationSet_of_range {s : State} {r : Frame} (h : 7 < u8 r.payload 0 ∨ 3 < u8 r.payload 2) :
    s.stationSet r = s.status r .badField := by
  unfold State.stationSet
  split
  next i c hi hc =>
    have := inRange_eq_some.1 hi
    have := inRange_eq_some.1 hc
    omega
  next => rfl

theorem State.classBusy_eq_false_iff {s : State} {c : Fin 4} : s.classBusy c = false ↔
    ∀ i : StationId, (s.station i).timingClass = c → (s.station i).intake = .held ∨
      (s.station i).intake = .stopped ∨ (s.station i).intake = .faulted := by
  unfold State.classBusy Station.usesClass
  simp only [List.any_eq_false, List.mem_finRange, forall_const, Bool.and_eq_true, decide_eq_true_eq, not_and]
  refine forall_congr' fun i => forall_congr' fun _ => ?_
  cases (s.station i).intake <;> decide

theorem State.classSet_eq {s : State} {r : Frame} {c : Fin 4} {m : ExpiryMode} (hi : u8 r.payload 0 = c.val)
    (hm : ExpiryMode.ofCode (u8 r.payload 2) = some m) :
    s.classSet r = if s.classBusy c then s.status r .busy else
      ({ s with classes := s.classes.set c ⟨clamp 1 255 (u8 r.payload 1), m⟩ } : State).ok r
        [byte (clamp 1 255 (u8 r.payload 1)), m.code] := by
  rw [State.classSet, inRange_of_eq hi, hm]

theorem ExpiryMode.ofCode_eq_none {n : Nat} (h : 1 < n) : ExpiryMode.ofCode n = none := by
  unfold ExpiryMode.ofCode
  split <;> first | omega | rfl

theorem State.classSet_of_range {s : State} {r : Frame} (h : 3 < u8 r.payload 0 ∨ 1 < u8 r.payload 2) :
    s.classSet r = s.status r .badField := by
  unfold State.classSet
  split
  next c m hc hm =>
    have := inRange_eq_some.1 hc
    rcases h with h | h
    · omega
    · rw [ExpiryMode.ofCode_eq_none h] at hm
      cases hm
  next => rfl

/-- A byte clamped from below alone. -/
theorem clamp_one_byte (p : List Byte) (i : Nat) : clamp 1 255 (u8 p i) = max 1 (u8 p i) := by
  rw [clamp_eq (by omega)]
  have := u8_lt p i
  omega

/-- Settles O14: the checks of each request in their order. -/
theorem stationAndClassSettings : Obligations.StationAndClassSettings := by
  refine ⟨fun s r rest ho hk => ?_, fun s r rest ho hk => ?_⟩
  · have hx := fun t => exec_request_eq (c := .stationSet) (t := t) rfl ho (ofKind_eq_true_iff.2 hk)
    refine ⟨fun i c hi hc => ⟨fun h => hx _ ?_, fun h1 h2 => hx _ ?_⟩, fun h => hx _ (State.stationSet_of_range h)⟩
    · refine (State.stationSet_eq hi hc).trans ((if_pos h).trans ?_)
      rw [clamp_zero]
      rfl
    · exact (State.stationSet_eq hi hc).trans (if_neg (by rintro (h | h); exacts [h1 h, h2 h]))
  · have hx := fun t => exec_request_eq (c := .classSet) (t := t) rfl ho (ofKind_eq_true_iff.2 hk)
    refine ⟨fun c hc => ⟨fun hb => ?_, fun i hi hm hb => hx _ ?_⟩, fun h => hx _ (State.classSet_of_range h)⟩
    · have hb : ¬ s.classBusy c = true := by
        rw [State.classBusy_eq_false_iff.2 hb]
        exact Bool.false_ne_true
      refine ⟨fun hm => hx _ ?_, fun hm => hx _ ?_⟩
      · refine (State.classSet_eq (m := .commit) hc (by rw [hm]; rfl)).trans ((if_neg hb).trans ?_)
        rw [clamp_one_byte]
        rfl
      · refine (State.classSet_eq (m := .discard) hc (by rw [hm]; rfl)).trans ((if_neg hb).trans ?_)
        rw [clamp_one_byte]
        rfl
    · have hb : s.classBusy c = true := by
        rw [← Bool.not_eq_false, State.classBusy_eq_false_iff]
        intro h
        rcases hb with e | e | e <;> simpa [e] using h i hi
      obtain ⟨m, hm⟩ : ∃ m, ExpiryMode.ofCode (u8 r.payload 2) = some m := by
        rcases (show u8 r.payload 2 = 0 ∨ u8 r.payload 2 = 1 by omega) with e | e
        · exact ⟨.commit, by rw [e]; rfl⟩
        · exact ⟨.discard, by rw [e]; rfl⟩
      exact (State.classSet_eq hc hm).trans (if_pos hb)

theorem State.control_of_some {s t : State} {r : Frame} {i : StationId} {action : StationId → State → Option State}
    (hc : u8 r.payload 1 ≤ 3) (hi : u8 r.payload 0 = i.val) (h : action i s = some t) :
    s.control action r = t.ok r [(t.station i).intake.code] := by
  rw [State.control, if_neg (by omega), inRange_of_eq hi]
  simp only [h]

theorem State.control_of_none {s : State} {r : Frame} {i : StationId} {action : StationId → State → Option State}
    (hc : u8 r.payload 1 ≤ 3) (hi : u8 r.payload 0 = i.val) (h : action i s = none) :
    s.control action r = s.status r .state := by
  rw [State.control, if_neg (by omega), inRange_of_eq hi]
  simp only [h]

theorem State.control_of_range {s : State} {r : Frame} {action : StationId → State → Option State}
    (h : 7 < u8 r.payload 0 ∨ 3 < u8 r.payload 1) : s.control action r = s.status r .badField := by
  unfold State.control
  split
  · rfl
  · rw [inRange_of_le (by omega)]


/-- The four rows of STATION_CTRL, each with its action and its action code. -/
theorem exec_control {s t : State} {r : Frame} {rest : List Frame} {c : Instr} {n : Nat}
    {action : StationId → State → Option State}
    (hx : exec c s = .next (s.takeRequest (ofCode Code.stationCtrl 1 4 n) (State.control action)))
    (ho : s.Offers r rest) (hk : r.kind = 0x05) (hn : u8 r.payload 1 = n ∨ 4 ≤ u8 r.payload 1)
    (h : ({ s with requests := rest } : State).control action r = t) : exec c s = .next t := by
  refine exec_request_eq hx ho ?_ h
  rcases hn with hn | hn
  · exact ofCode_of_eq hk hn
  · exact ofCode_of_undefined hk hn

theorem Station.stop_of_moving {x : Station} (h : x.intake = .running ∨ x.intake = .halted) :
    x.stop = some (if x.group.isSome then { x with intake := .stopping } else x.stopped) := by
  unfold Station.stop
  rcases h with h | h <;> rw [h]

theorem Station.stop_of_faulted {x : Station} (h : x.intake = .faulted) :
    x.stop = some { x.stopped with badFrames := 0 } := by
  unfold Station.stop
  rw [h]

theorem Station.stop_of_idle {x : Station} (h : x.intake = .held ∨ x.intake = .stopped ∨ x.intake = .stopping) :
    x.stop = none := by
  unfold Station.stop
  rcases h with h | h | h <;> rw [h]

theorem State.stop_of_some {s : State} {i : StationId} {y : Station} (h : (s.station i).stop = some y) :
    s.stop i = some (s.modStation i fun _ => y) := by
  rw [State.stop, h]
  rfl

theorem State.control_moves {s : State} {r : Frame} {i : StationId} {action : StationId → State → Option State}
    {f : Station → Station} {x : Station} {b : Byte} (hc : u8 r.payload 1 ≤ 3)
    (hi : u8 r.payload 0 = i.val) (h : action i s = some (s.modStation i f)) (hx : f (s.station i) = x) (hb : x.intake.code = b) :
    s.control action r = { s with stations := s.stations.set i x, ready := s.ready ++ [answerTo r .ok [b]] } := by
  rw [State.control_of_some hc hi h, State.station_modStation_self, hx, hb, State.modStation_eq, hx]
  rfl

theorem Station.order_eq (f : StationFrame) (x : Station) : x.order f =
    { x with transmit := if x.transmit.length < 15 then x.transmit ++ [f] else x.transmit } := by
  unfold Station.order Station.push
  split <;> rfl

theorem Station.answer_eq (r : StationReply) (x : Station) : x.answer r =
    { x with transmit := if x.transmit.length < 14 then x.transmit ++ [.reply r] else x.transmit } := by
  unfold Station.answer Station.push
  split <;> rfl

/-- Settles O15: each action from each intake state. -/
theorem stationCtrlFollowsTable : Obligations.StationCtrlFollowsTable := by
  refine ⟨fun s r rest i ho hk hi => ⟨fun hc h => ?_, fun hc h => ?_, fun hc h => ⟨fun hg => ?_, fun hg => ?_⟩,
    fun hc h => ?_, fun hc h => ?_⟩, fun s r rest ho hk => ⟨fun i hi => ⟨fun hc h => ?_, fun hc h => ?_,
    fun hc h => ?_, fun hc h => ?_⟩, fun x hx h => ?_⟩⟩
  · refine exec_control rfl ho hk (.inl hc) (State.control_moves (by omega) hi (if_pos h) rfl rfl)
  · refine exec_control rfl ho hk (.inl hc) ((State.control_of_some (by omega) hi (if_pos h)).trans ?_)
    simp [State.arm, State.modStation_eq, State.ok_record_eq, State.station, Intake.code]
  · refine exec_control rfl ho hk (.inl hc) (State.control_moves (by omega) hi
      (State.stop_of_some (Station.stop_of_moving h)) ?_ rfl)
    exact if_neg (by rw [show ({ s with requests := rest } : State).station i = s.station i from rfl, hg]; simp)
  · refine exec_control rfl ho hk (.inl hc) (State.control_moves (by omega) hi
      (State.stop_of_some (Station.stop_of_moving h)) ?_ rfl)
    exact if_pos (Option.isSome_iff_ne_none.2 hg)
  · exact exec_control rfl ho hk (.inl hc) (State.control_moves (by omega) hi
      (State.stop_of_some (Station.stop_of_faulted h)) rfl rfl)
  · refine exec_control rfl ho hk (.inl hc) (State.control_moves (by omega) hi (if_pos h) ?_ rfl)
    exact Station.order_eq _ _
  · exact exec_control rfl ho hk (.inl hc) (State.control_of_none (by omega) hi (if_neg h))
  · exact exec_control rfl ho hk (.inl hc) (State.control_of_none (by omega) hi (if_neg h))
  · refine exec_control rfl ho hk (.inl hc) (State.control_of_none (by omega) hi ?_)
    exact congrArg (Option.map _) (Station.stop_of_idle h)
  · exact exec_control rfl ho hk (.inl hc) (State.control_of_none (by omega) hi (if_neg h))
  · have hn : u8 r.payload 1 = x.2 ∨ 4 ≤ u8 r.payload 1 := by omega
    have hb : ∀ action, ({ s with requests := rest } : State).control action r =
        { s with requests := rest, ready := s.ready ++ [answerTo r .badField []] } := fun action =>
      State.control_of_range (by omega)
    fin_cases hx
    all_goals exact exec_control rfl ho hk hn (hb _)

/-- Settles O16: the fields of the station, in the order of the reply. -/
theorem stationQueryReportsFields : Obligations.StationQueryReportsFields := by
  intro s r rest ho hk
  have hx := fun t => exec_request_eq (c := .stationQuery) (t := t) rfl ho (ofKind_eq_true_iff.2 hk)
  refine ⟨fun i hi => hx _ ?_, fun h => hx _ ?_⟩
  · rw [State.stationQuery, inRange_of_eq hi]
    show State.ok r (s.station i).report _ = _
    rw [State.ok_record_eq, Station.report]
    cases (s.station i).binding <;> cases (s.station i).group <;> rfl
  · rw [State.stationQuery, inRange_of_le h]
    rfl

end Sys2Proof.Machine
end

section
/-! PROOF. Frames as bytes: what a receiver reads back, and the field of a lot id. -/

namespace Sys2Proof.Machine

/-! ## Numbers in bytes, read back -/

theorem byte_toNat (b : Byte) : byte b.toNat = b := by simp [byte]

theorem u8_append_right (a b : List Byte) (k : Nat) : u8 (a ++ b) (a.length + k) = u8 b k := by
  simp [u8, List.getElem?_append]

theorem u16_append_right (a b : List Byte) (k : Nat) : u16 (a ++ b) (a.length + k) = u16 b k := by
  unfold u16
  rw [u8_append_right, Nat.add_assoc, u8_append_right]

theorem u16_be16 {n : Nat} (h : n < 65536) (l : List Byte) : u16 (be16 n ++ l) 0 = n := by
  simp [u16, u8, be16, byte]
  omega

theorem be16_u16 (p : List Byte) (i : Nat) : be16 (u16 p i) = [p.getD i 0, p.getD (i + 1) 0] := by
  have h0 := u8_lt p i
  have h1 := u8_lt p (i + 1)
  have e0 : (u8 p i * 256 + u8 p (i + 1)) / 256 = (p.getD i 0).toNat := by
    show _ = u8 p i
    omega
  have e1 : byte (u8 p i * 256 + u8 p (i + 1)) = byte (p.getD (i + 1) 0).toNat :=
    BitVec.eq_of_toNat_eq (by
      show (u8 p i * 256 + u8 p (i + 1)) % 2 ^ 8 = u8 p (i + 1) % 2 ^ 8
      omega)
  unfold be16 u16
  rw [e0, e1, byte_toNat, byte_toNat]

theorem be16_length (n : Nat) : (be16 n).length = 2 := rfl

/-! ## The hunt for SYNC -/

theorem hunt_append {junk : List Byte} (h : ∀ b ∈ junk, b ≠ sync) (l : List Byte) : hunt (junk ++ l) = hunt l := by
  induction junk with
  | nil => rfl
  | cons b bs ih =>
    rw [List.cons_append, hunt, if_neg (h b List.mem_cons_self)]
    exact ih fun c hc => h c (List.mem_cons_of_mem _ hc)

/-- The hunt drops bytes that are no SYNC and stops at a SYNC. -/
theorem hunt_eq_cons {bytes body : List Byte} {b : Byte} (h : hunt bytes = b :: body) :
    b = sync ∧ ∃ junk, (∀ c ∈ junk, c ≠ sync) ∧ bytes = junk ++ sync :: body := by
  induction bytes with
  | nil => cases h
  | cons c cs ih =>
    unfold hunt at h
    split at h
    next hc =>
      cases h
      exact ⟨hc, [], by simp, by rw [hc]; rfl⟩
    next hc =>
      obtain ⟨hb, junk, hj, e⟩ := ih h
      refine ⟨hb, c :: junk, ?_, by rw [e]; rfl⟩
      intro d hd
      rcases List.mem_cons.1 hd with rfl | hd
      · exact hc
      · exact hj d hd

/-! ## O6 -/

theorem Frame.checked_length (f : Frame) : f.checked.length = f.payload.length + 4 := by
  simp [Frame.checked, be16_length]
  omega

theorem receive_of_hunt {bytes body : List Byte} {b : Byte} (h : hunt bytes = b :: body) : receive bytes =
    if body.length < 2 then .waiting (b :: body)
    else if 1020 < u16 body 0 then .bad body
    else if body.length < u16 body 0 + 6 then .waiting (b :: body)
    else if u16 body (u16 body 0 + 4) = (crc (body.take (u16 body 0 + 4))).toNat then
      .good ⟨byte (u8 body 2), byte (u8 body 3), (body.drop 4).take (u16 body 0)⟩ (body.drop (u16 body 0 + 6))
    else .bad body := by
  unfold receive
  rw [h]

/-- A receiver reads back a frame behind bytes that are no SYNC. -/
theorem receive_bytes {f : Frame} (hf : f.payload.length ≤ 1020) {junk : List Byte} (hj : ∀ b ∈ junk, b ≠ sync)
    (rest : List Byte) : receive (junk ++ (f.bytes ++ rest)) = .good f rest := by
  let tail := be16 (crc f.checked).toNat ++ rest
  have hh : hunt (junk ++ (f.bytes ++ rest)) = sync :: (f.checked ++ tail) := by
    rw [hunt_append hj]
    simp [Frame.bytes, hunt, tail]
  have hn : u16 (f.checked ++ tail) 0 = f.payload.length := by
    rw [Frame.checked, List.append_assoc]
    exact u16_be16 (by omega) _
  have hl : (f.checked ++ tail).length = f.payload.length + 6 + rest.length := by
    simp [tail, Frame.checked_length, be16_length]
    omega
  have hc : u16 (f.checked ++ tail) (f.payload.length + 4) = (crc f.checked).toNat := by
    rw [← Frame.checked_length, ← Nat.add_zero f.checked.length, u16_append_right]
    exact u16_be16 (crc f.checked).isLt _
  have ht : (f.checked ++ tail).take (f.payload.length + 4) = f.checked := by
    rw [← Frame.checked_length, List.take_left]
  have hd : (f.checked ++ tail).drop (f.payload.length + 6) = rest := by
    rw [show f.payload.length + 6 = f.checked.length + 2 by rw [Frame.checked_length], List.drop_append]
    simp [tail, be16]
  have hp : ((f.checked ++ tail).drop 4).take f.payload.length = f.payload := by
    simp [Frame.checked, be16]
  rw [receive_of_hunt hh, hn, hl, if_neg (by omega), if_neg (by omega), if_neg (by omega), hc, ht, if_pos rfl, hd, hp]
  have hk : byte (u8 (f.checked ++ tail) 2) = f.kind := by
    rw [← byte_toNat f.kind]
    rfl
  have hg : byte (u8 (f.checked ++ tail) 3) = f.tag := by
    rw [← byte_toNat f.tag]
    rfl
  rw [hk, hg]

theorem exists_four_bytes {l : List Byte} (h : 4 ≤ l.length) : ∃ a b c d t, l = a :: b :: c :: d :: t := by
  rcases l with _ | ⟨a, _ | ⟨b, _ | ⟨c, _ | ⟨d, t⟩⟩⟩⟩ <;> simp at h
  exact ⟨a, b, c, d, t, rfl⟩

/-- The bytes a frame's check covers are those that stand behind its SYNC. -/
theorem Frame.checked_of_body {body : List Byte} {n : Nat} (hn : u16 body 0 = n) (h : n + 4 ≤ body.length) :
    Frame.checked ⟨byte (u8 body 2), byte (u8 body 3), (body.drop 4).take n⟩ = body.take (n + 4) := by
  obtain ⟨a, b, c, d, t, rfl⟩ := exists_four_bytes (l := body) (by omega)
  have hb : be16 n = [a, b] := hn ▸ be16_u16 (a :: b :: c :: d :: t) 0
  have ht : (t.take n).length = n := by
    simp only [List.length_cons] at h
    rw [List.length_take]
    omega
  have hc : byte (u8 (a :: b :: c :: d :: t) 2) = c := byte_toNat c
  have hd : byte (u8 (a :: b :: c :: d :: t) 3) = d := byte_toNat d
  rw [hc, hd, Frame.checked]
  show be16 (t.take n).length ++ c :: d :: t.take n = _
  rw [ht, hb]
  rfl

theorem take_be16_drop {l : List Byte} {k : Nat} (h : k + 2 ≤ l.length) :
    l.take k ++ be16 (u16 l k) ++ l.drop (k + 2) = l := by
  rw [be16_u16, List.getD_eq_getElem _ _ (by omega), List.getD_eq_getElem _ _ (by omega)]
  conv_rhs => rw [← List.take_append_drop k l, List.drop_eq_getElem_cons (by omega),
    List.drop_eq_getElem_cons (by omega)]
  simp

/-- What a receiver takes for a good frame is a whole one behind bytes that are no SYNC. -/
theorem receive_eq_good {bytes : List Byte} {f : Frame} {rest : List Byte} (h : receive bytes = .good f rest) :
    f.payload.length ≤ 1020 ∧ ∃ junk, (∀ b ∈ junk, b ≠ sync) ∧ bytes = junk ++ (f.bytes ++ rest) := by
  cases hh : hunt bytes with
  | nil =>
    rw [receive, hh] at h
    cases h
  | cons b body =>
    obtain ⟨-, junk, hj, hb⟩ := hunt_eq_cons hh
    rw [receive_of_hunt hh] at h
    split at h
    · cases h
    split at h
    · cases h
    split at h
    · cases h
    split at h
    next h2 hmax hlen hcrc =>
      obtain ⟨rfl, rfl⟩ := Received.good.inj h
      have hchk := Frame.checked_of_body (body := body) rfl (by omega)
      refine ⟨?_, junk, hj, ?_⟩
      · have := List.length_take_le (u16 body 0) (body.drop 4)
        exact this.trans (by omega)
      · have hs := take_be16_drop (l := body) (k := u16 body 0 + 4) (by omega)
        rw [hb, Frame.bytes, hchk, ← hcrc]
        exact congrArg (fun l => junk ++ sync :: l) hs.symm
    · cases h

/-- Settles O6: the two directions, one lemma each. -/
theorem receiverReadsExactlyWholeFrames : Obligations.ReceiverReadsExactlyWholeFrames :=
  ⟨fun _ _ rest hf hj => receive_bytes hf hj rest, fun _ _ _ h => receive_eq_good h⟩

/-! ## O7 -/

/-- Settles O7: the length byte tells the id's bytes from the padding. -/
theorem lotIdFieldReadsBack : Obligations.LotIdFieldReadsBack := by
  intro id before after hw
  have hl : id.length ≤ 12 := by
    simp only [LotId.wf, Bool.and_eq_true, decide_eq_true_eq] at hw
    omega
  have hu : u8 (before ++ (lotIdBytes id ++ after)) before.length = id.length := by
    rw [← Nat.add_zero before.length, u8_append_right]
    simp [u8, lotIdBytes, byte]
    omega
  have hd : (before ++ (lotIdBytes id ++ after)).drop (before.length + 1) =
      id ++ (List.replicate (12 - id.length) 0 ++ after) := by
    rw [List.drop_append]
    simp [lotIdBytes]
  rw [lotIdField, hu, hd]
  simp only [List.take_left]
  exact if_pos ⟨hl, trivial, hw⟩

end Sys2Proof.Machine
end

section
/-! PROOF. The frame checkers of the host link and of the station links. -/

namespace Sys2Proof.Machine

/-! ## O8 -/

theorem State.immediate_eq (f : Frame) (s : State) : s.immediate f =
    { s with ready := if s.immediateWaiting < 8 then s.ready ++ [.reply true f] else s.ready } := by
  unfold State.immediate State.makeReady
  split <;> rfl

theorem requestLength_of_unknown {k : Byte} (h : k.toNat = 0 ∨ 0x1C < k.toNat) (p : List Byte) :
    requestLength k p = none := by
  unfold requestLength
  split <;> try omega
  rfl

theorem receive_nil : receive [] = .waiting [] := rfl

theorem receive_one (f : Frame) (hf : f.payload.length ≤ 1020) : receive f.bytes = .good f [] := by
  have := receive_bytes hf (junk := []) (by simp) []
  rwa [List.nil_append, List.append_nil] at this

theorem Frame.bytes_length (f : Frame) : f.bytes.length = f.payload.length + 7 := by
  simp [Frame.bytes, Frame.checked_length, be16_length]

/-- A receiver that has read one frame to its end waits. -/
theorem State.hostReceive_good {s : State} {bytes : List Byte} {f : Frame} {k : Nat} (h : receive bytes = .good f []) :
    State.hostReceive (k + 2) bytes s = { s.hostGood f with hostRx := [] } := by
  rw [State.hostReceive, h]
  show State.hostReceive (k + 1) [] (s.hostGood f) = _
  rw [State.hostReceive, receive_nil]

theorem State.hostReceive_bad {s : State} {bytes rest kept : List Byte} {k : Nat} (h : receive bytes = .bad rest)
    (hr : receive rest = .waiting kept) :
    State.hostReceive (k + 2) bytes s = { s.hostBad with hostRx := kept } := by
  rw [State.hostReceive, h]
  show State.hostReceive (k + 1) rest s.hostBad = _
  rw [State.hostReceive, hr]

theorem exec_hostFrameReceive {s : State} (bytes : List Byte) (hr : s.rst = false) :
    exec (.hostFrameReceive bytes) s =
      .next (State.hostReceive ((s.hostRx ++ bytes).length + 1) (s.hostRx ++ bytes) s) :=
  congrArg _ (if_neg (by simp [hr]))

/-- One good frame at an idle receiver. -/
theorem exec_hostFrame {s : State} {f : Frame} (hr : s.rst = false) (hx : s.hostRx = [])
    (hf : f.payload.length ≤ 1020) :
    exec (.hostFrameReceive f.bytes) s = .next { s.hostGood f with hostRx := [] } := by
  rw [exec_hostFrameReceive _ hr, hx, List.nil_append, Frame.bytes_length,
    State.hostReceive_good (receive_one f hf)]

theorem ne_nil_of_receive_bad {l rest : List Byte} (h : receive l = .bad rest) : l ≠ [] := by
  rintro rfl
  cases h

/-- Settles O8: the frame found, and what the frame checker makes of it. -/
theorem hostFramesAreExamined : Obligations.HostFramesAreExamined := by
  refine ⟨fun s f hr hx hf => ⟨fun hk => ?_, fun n hn => ⟨fun hl => ?_, fun hl hq => ?_, fun hl hq => ?_⟩⟩,
    fun s bytes rest kept hr hb => ?_⟩
  · rw [exec_hostFrame hr hx hf, State.hostGood, requestLength_of_unknown hk]
    dsimp only
    rw [State.immediate_eq, ← hx]
    rfl
  · rw [exec_hostFrame hr hx hf, State.hostGood, hn]
    dsimp only
    rw [if_pos hl, State.immediate_eq, ← hx]
    rfl
  · rw [exec_hostFrame hr hx hf, State.hostGood, hn]
    dsimp only
    rw [if_neg (not_not_intro hl), if_pos hq, ← hx]
  · rw [exec_hostFrame hr hx hf, State.hostGood, hn]
    dsimp only
    rw [if_neg (not_not_intro hl), if_neg (by omega), State.immediate_eq, ← hx]
    rfl
  · have hn := List.length_pos_iff.2 (ne_nil_of_receive_bad hb.1)
    obtain ⟨k, hk⟩ := Nat.exists_eq_add_of_lt hn
    rw [exec_hostFrameReceive _ hr, hk, Nat.zero_add, State.hostReceive_bad hb.1 hb.2, State.hostBad,
      State.immediate_eq]
    rfl

/-! ## O17 -/

theorem State.stationReceive_bad {s : State} {i : StationId} {bytes rest kept : List Byte} {k : Nat}
    (hf : (s.station i).intake ≠ .faulted) (h : receive bytes = .bad rest) (hr : receive rest = .waiting kept) :
    State.stationReceive i (k + 2) bytes s =
      (s.badFrame i).modStation i fun x => { x with rx := if x.intake = .faulted then [] else kept } := by
  rw [State.stationReceive, if_neg hf, h]
  show State.stationReceive i (k + 1) rest (s.badFrame i) = _
  rw [State.stationReceive, hr]
  dsimp only
  by_cases hx : ((s.badFrame i).station i).intake = .faulted
  · rw [if_pos hx]
    simp [State.modStation_eq, hx]
  · rw [if_neg hx]
    simp [State.modStation_eq, hx]

/-- A station whose bad-frame count has risen, with what its receiver keeps (R36). -/
def Station.afterBad (kept : List Byte) (x : Station) : Station :=
  { x.answer (.refuse 0 .badFrame) with badFrames := bump 16 x.badFrames, rx := kept }

/-- The bad frame faults the station (R36). -/
def Station.atFault (x : Station) : Prop := bump 16 x.badFrames = 16 ∧ x.intake.faultable = true

theorem Station.answer_intake (y : StationReply) (x : Station) : (x.answer y).intake = x.intake := by
  rw [Station.answer_eq]

theorem State.badFrame_of_spared {s : State} {i : StationId} (h : ¬ (s.station i).atFault) :
    s.badFrame i = s.modStation i fun x =>
      { x.answer (.refuse 0 .badFrame) with badFrames := bump 16 x.badFrames } := by
  unfold State.badFrame
  dsimp only
  rw [if_neg]
  rw [State.station_modStation_self]
  dsimp only
  rw [Station.answer_intake]
  exact h

theorem State.badFrame_of_fault {s : State} {i : StationId} (h : (s.station i).atFault) :
    s.badFrame i = s.modStation i fun x =>
      ({ x.answer (.refuse 0 .badFrame) with badFrames := bump 16 x.badFrames } : Station).fault := by
  unfold State.badFrame
  dsimp only
  rw [if_pos, State.modStation_modStation]
  rw [State.station_modStation_self]
  dsimp only
  rw [Station.answer_intake]
  exact h

/-- One bad frame that does not fault the station, with no more bytes behind it. -/
theorem State.receive_of_spared {s : State} {i : StationId} {bytes rest kept : List Byte}
    (hf : (s.station i).intake ≠ .faulted) (hb : BringsBadFrame (s.station i).rx bytes rest kept)
    (h : ¬ (s.station i).atFault) :
    State.stationReceive i (((s.station i).rx ++ bytes).length + 1) ((s.station i).rx ++ bytes) s =
      s.modStation i (Station.afterBad kept) := by
  obtain ⟨k, hk⟩ := Nat.exists_eq_add_of_lt (List.length_pos_iff.2 (ne_nil_of_receive_bad hb.1))
  rw [hk, Nat.zero_add, State.stationReceive_bad hf hb.1 hb.2, State.badFrame_of_spared h,
    State.modStation_modStation]
  rw [State.modStation_eq, State.modStation_eq]
  simp only [Station.answer_eq, if_neg hf, Station.afterBad]

/-- One bad frame that faults the station. -/
theorem State.receive_of_fault {s : State} {i : StationId} {bytes rest kept : List Byte}
    (hf : (s.station i).intake ≠ .faulted) (hb : BringsBadFrame (s.station i).rx bytes rest kept)
    (h : (s.station i).atFault) :
    State.stationReceive i (((s.station i).rx ++ bytes).length + 1) ((s.station i).rx ++ bytes) s =
      s.modStation i Station.faultedNow := by
  obtain ⟨k, hk⟩ := Nat.exists_eq_add_of_lt (List.length_pos_iff.2 (ne_nil_of_receive_bad hb.1))
  rw [hk, Nat.zero_add, State.stationReceive_bad hf hb.1 hb.2, State.badFrame_of_fault h,
    State.modStation_modStation]
  rw [State.modStation_eq, State.modStation_eq]
  simp only [Station.answer_eq, Station.fault, h.1, Station.faultedNow, ite_true]

theorem exec_badFrame {s : State} (i : StationId) (bytes : List Byte) (hr : s.rst = false) :
    exec (.badFrame i bytes) s = .next (s.receiving i bytes id) :=
  congrArg _ (if_neg (by simp [hr]))

/-- Bytes that do not fault the station come before the work. -/
theorem State.receiving_of_spared {s t : State} {i : StationId} {bytes : List Byte} {work : State → State}
    (ht : State.stationReceive i (((s.station i).rx ++ bytes).length + 1) ((s.station i).rx ++ bytes) s = t)
    (h : (t.station i).intake = (s.station i).intake) : s.receiving i bytes work = work t := by
  unfold State.receiving
  rw [ht]
  exact if_neg fun hx => hx.1 (h ▸ hx.2)

/-- The rest of the entry to FAULTED follows the work that the fault overtakes (R48). -/
theorem State.receiving_of_fault {s t : State} {i : StationId} {bytes : List Byte} {work : State → State}
    (ht : State.stationReceive i (((s.station i).rx ++ bytes).length + 1) ((s.station i).rx ++ bytes) s = t)
    (hs : (s.station i).intake ≠ .faulted) (h : (t.station i).intake = .faulted) :
    s.receiving i bytes work = (work t).finishFault i := by
  unfold State.receiving
  rw [ht]
  exact if_pos ⟨hs, h⟩

/-- Settles O17: the station's count and its answer, where the count does not fault it. -/
theorem badStationFrameRaisesCount : Obligations.BadStationFrameRaisesCount := by
  intro s i bytes rest kept hr hf hb hc
  have hx : ¬ (s.station i).atFault := by
    rintro ⟨h1, h2⟩
    rcases hc with h | h | h
    · unfold bump at h1
      split at h1 <;> omega
    · simp [h, Intake.faultable] at h2
    · simp [h, Intake.faultable] at h2
  rw [exec_badFrame i bytes hr, State.receiving_of_spared (State.receive_of_spared hf hb hx)
    (by rw [State.station_modStation_self]; exact Station.answer_intake _ _), id, State.modStation_eq,
    Station.afterBad, Station.answer_eq]
  rfl

end Sys2Proof.Machine
end

section
/-! PROOF. Entry to FAULTED: what the work in hand leaves of a FAULTED station, and O18. -/

namespace Sys2Proof.Machine

/-! ## A FAULTED station under the work in hand (R48) -/

/-- What a FAULTED station keeps whatever the Collation Engine has in hand for it: queue, transmit list, counts,
line and receiver; none in the other intake states. -/
def Station.downSide (x : Station) :
    Option (List Frame × List StationFrame × Nat × Nat × Option StationFrame × List Byte) :=
  if x.intake = .faulted then some (x.staging, x.transmit, x.badFrames, x.silence, x.line, x.rx) else none

theorem Station.downSide_of_fields {x y : Station} (hi : y.intake = x.intake) (hs : y.staging = x.staging)
    (ht : y.transmit = x.transmit) (hb : y.badFrames = x.badFrames) (hq : y.silence = x.silence)
    (hl : y.line = x.line) (hr : y.rx = x.rx) : y.downSide = x.downSide := by
  unfold Station.downSide
  rw [hi, hs, ht, hb, hq, hl, hr]

theorem Station.downSide_of_moves {x y : Station} (hx : x.intake ≠ .faulted) (hy : y.intake ≠ .faulted) :
    y.downSide = x.downSide := by
  unfold Station.downSide
  rw [if_neg hx, if_neg hy]

theorem Station.hold_downSide (k : Fin 16) (l : Fin 8) (x : Station) : (x.hold k l).downSide = x.downSide := by
  unfold Station.hold
  split
  next h =>
    rw [Station.order_eq]
    exact Station.downSide_of_moves (by simp [h]) (by simp)
  next => rfl

theorem Station.finishStop_downSide (x : Station) : x.finishStop.downSide = x.downSide := by
  unfold Station.finishStop
  split
  next h => exact Station.downSide_of_moves (by simp [h]) (by simp [Station.stopped])
  next => rfl

theorem State.endGroup_downSide (i : StationId) (s : State) (j : StationId) :
    ((s.endGroup i).station j).downSide = (s.station j).downSide :=
  State.endGroup_keeps Station.downSide (fun _ => rfl) (fun _ => rfl) Station.finishStop_downSide i s j

/-- The parts of the hardware at work for a record or an expiry in hand. -/
def workDomains : List Domain := [.engine, .accounts, .cells, .alarms, .host]

/-- The station is FAULTED with its queue empty. -/
def Station.isDown (x : Station) : Prop := x.intake = .faulted ∧ x.staging = []

theorem Station.isDown_of_downSide {x y : Station} (h : y.downSide = x.downSide) (hx : x.isDown) : y.isDown := by
  unfold Station.downSide at h
  rw [if_pos hx.1, hx.2] at h
  split at h
  next hy => exact ⟨hy, by simpa using congrArg (fun o => o.map Prod.fst) h⟩
  next => cases h

theorem EngineMove.downSide {h h' : Hand} {s t : State} (m : EngineMove h s h' t) {i : StationId}
    (hd : (s.station i).isDown) : (t.station i).downSide = (s.station i).downSide := by
  cases m with
  | picks | lays | begins | passes => rfl
  | takes _ j r rest hs ht =>
    by_cases e : j = i
    · subst e
      rw [hd.2] at hs
      cases hs
    · rw [State.station_modStation_ne s e]
  | faults _ j _ hh hf =>
    by_cases e : j = i
    · subst e
      rw [hd.1] at hf
      cases hf
    · rw [State.station_modStation_ne s e]
  | ends _ j _ hh => exact State.endGroup_downSide j s i
  | delivers _ j y | discards _ j y =>
    refine (?_ : ((s.deliver j y).station i).downSide = _)
    by_cases e : j = i
    · subst e
      rw [State.deliver, State.station_modStation_self, Station.deliver, if_pos hd.1]
    · rw [State.deliver, State.station_modStation_ne s e]
  | faulted _ j | unbinds _ j => exact State.modStation_keeps Station.downSide j (f := _) s rfl i
  | binds _ j | opens _ j | joins _ j => exact State.modStation_keeps Station.downSide j s rfl i

theorem AccountMove.downSide {h h' : Hand} {s t : State} (m : AccountMove h s h' t) (i : StationId) :
    (t.station i).downSide = (s.station i).downSide := by
  cases m with
  | timeout => rfl
  | voids _ j f o l b k => exact State.modStation_keeps Station.downSide j (s.modAcc b.slot _) rfl i
  | first _ j f o e es b | retest _ j f o e es b =>
    exact State.modStation_keeps Station.downSide j (((s.writeCell b.slot e.cell _).modAcc b.slot _).modAcc b.slot _)
      rfl i

/-- Every move of the work in hand leaves a FAULTED station its queue, lists, counts and receiver. -/
theorem Move.downSide {d : Domain} {h h' : Hand} {s t : State} (m : Move d h s h' t) (hm : d ∈ workDomains)
    {i : StationId} (hd : (s.station i).isDown) : (t.station i).downSide = (s.station i).downSide := by
  cases m with
  | engine m => exact m.downSide hd
  | accounts m => exact m.downSide i
  | cells m => rw [State.station_congr ((Move.cells m).frame.stations (by decide))]
  | host _ m => rw [State.station_congr ((Move.host h m).frame.stations (by decide))]
  | alarms m =>
    cases m with
    | judges w f a => exact State.judge_keeps Station.downSide Station.hold_downSide w f a s i
    | acknowledges level =>
      obtain ⟨_, _, _, _, e⟩ := State.acknowledge_form level s
      rw [e]
      rfl
    | clears => rfl
  | _ => simp [workDomains] at hm

theorem Run.downSide {h h' : Hand} {s t : State} (r : Run workDomains h s h' t) {i : StationId}
    (hd : (s.station i).isDown) : (t.station i).downSide = (s.station i).downSide :=
  r.keeps (P := fun _ u => (u.station i).downSide = (s.station i).downSide)
    (fun _ hm _ _ _ _ m hu => (m.downSide hm (Station.isDown_of_downSide hu hd)).trans hu) rfl

/-! ## The end of the entry to FAULTED -/

theorem State.modStation_self {s : State} {i : StationId} {f : Station → Station} (h : f (s.station i) = s.station i) :
    s.modStation i f = s := by
  rw [State.modStation_eq, h]
  simp [State.station]

theorem State.deliver_of_faulted {s : State} {i : StationId} (h : (s.station i).intake = .faulted) (y : StationReply) :
    s.deliver i y = s := State.modStation_self (if_pos h)

theorem State.finishFault_of_no_group {s : State} {i : StationId} (h : (s.station i).group = none) :
    s.finishFault i = s.faultEnds i := by
  unfold State.finishFault State.discardGroup
  rw [h]
  rfl

theorem Station.ended_of_faulted {x : Station} (h : x.intake = .faulted) :
    x.ended false = { x with group := none } := by
  simp [Station.ended, Station.finishStop, h]

/-- Without a CLOSING slot the station's record alone changes, and STATION_FAULT is added. -/
theorem State.finishFault_of_not_closes {s : State} {i : StationId} (hi : (s.station i).intake = .faulted)
    (h : s.endCloses i = false) : s.finishFault i =
      State.addCause .stationFault
        (s.modStation i fun x => { x with group := none, binding := none, silenceEnds := true }) := by
  have hu : (s.discardGroup i).unbind i =
      s.modStation i fun x => { x with group := none, binding := none, silenceEnds := true } := by
    unfold State.discardGroup State.unbind
    split
    · rw [State.endGroup_of_not_closes i h, State.modStation_modStation, State.modStation_eq, State.modStation_eq,
        Station.ended_of_faulted hi]
    next hg =>
      have hg : (s.station i).group = none := by simpa using hg
      rw [State.modStation_eq, State.modStation_eq]
      simp [hg]
  unfold State.finishFault
  rw [hu]

/-- With a CLOSING slot, its close is completed as at any end of a group (R22, R73). -/
theorem State.finishFault_of_closing {s : State} {i : StationId} (hi : (s.station i).intake = .faulted)
    (hg : (s.station i).group.isSome = true) {b : Binding} (hb : (s.station i).binding = some b)
    (hc : s.slotIs b.slot .closing = true) (ha : s.Apart) : s.finishFault i =
      State.addCause .stationFault
        (State.completeClose b.slot true (s.modStation i fun x => { x with group := none })) := by
  have hc' : s.slotState b.slot = some .closing := by rwa [State.slotIs_iff_slotState] at hc
  have hbnd : (s.station i).bound = some b.slot := by simp [Station.bound, hb]
  have hclose : ((s.modStation i fun x => { x with group := none }).completeClose b.slot true).station i =
      { s.station i with group := none, binding := none, silenceEnds := true } := by
    obtain ⟨w, hw, -⟩ := Option.map_eq_some_iff.1 hc'
    rw [State.completeClose_station (s := s.modStation i _) (by simpa using hw) true,
      State.boundStation_congr (State.dropGroup_bound i), ha.boundStation.2 hbnd, if_pos rfl,
      State.station_modStation_self]
  unfold State.finishFault State.discardGroup
  rw [if_pos hg, State.endGroup_of_closing i hb hc']
  rw [State.modStation_self (f := Station.finishStop) (by rw [hclose]; simp [Station.finishStop, hi])]
  unfold State.unbind
  rw [State.modStation_self (f := fun x => { x with binding := none, silenceEnds := true }) (by rw [hclose])]


/-- The end of the entry to FAULTED takes group and binding; what these are no part of, it keeps. -/
theorem State.finishFault_keeps {α : Type} (p : Station → α)
    (hb : ∀ x : Station, p { x with binding := none, silenceEnds := true } = p x)
    (hg : ∀ x : Station, p { x with group := none } = p x) (hs : ∀ x : Station, p x.finishStop = p x)
    (i : StationId) (s : State) (j : StationId) : p ((s.finishFault i).station j) = p (s.station j) := by
  unfold State.finishFault State.unbind State.discardGroup
  rw [State.station_congr (State.addCause_stations _ _), State.modStation_keeps p i _ (hb _) j]
  split
  · exact State.endGroup_keeps p hb hg hs i s j
  · rfl

theorem State.finishFault_freed (i : StationId) (s : State) :
    ((s.finishFault i).station i).group = none ∧ ((s.finishFault i).station i).binding = none ∧
      ((s.finishFault i).station i).silenceEnds = true := by
  unfold State.finishFault State.unbind
  rw [State.station_congr (State.addCause_stations _ _), State.station_modStation_self]
  refine ⟨?_, rfl, rfl⟩
  show ((s.discardGroup i).station i).group = none
  rw [State.discardGroup_group, if_pos rfl]

theorem State.finishFault_downSide (i : StationId) (s : State) (j : StationId) :
    ((s.finishFault i).station j).downSide = (s.station j).downSide :=
  State.finishFault_keeps Station.downSide (fun _ => rfl) (fun _ => rfl) Station.finishStop_downSide i s j

theorem Station.finishStop_counters (x : Station) :
    (x.finishStop.consecFail, x.finishStop.consecVoid, x.finishStop.priority, x.finishStop.timingClass) =
      (x.consecFail, x.consecVoid, x.priority, x.timingClass) := by
  unfold Station.finishStop Station.stopped
  split <;> rfl

theorem State.finishFault_counters (i : StationId) (s : State) (j : StationId) :
    let x := (s.finishFault i).station j
    let y := s.station j
    (x.consecFail, x.consecVoid, x.priority, x.timingClass) =
      (y.consecFail, y.consecVoid, y.priority, y.timingClass) :=
  State.finishFault_keeps (fun x => (x.consecFail, x.consecVoid, x.priority, x.timingClass)) (fun _ => rfl)
    (fun _ => rfl) Station.finishStop_counters i s j

theorem State.mem_addCause_self (c : Cause) (s : State) : c ∈ (s.addCause c).causes := by
  obtain ⟨cs, r, h, hc, -⟩ := State.addCause_form c s
  rw [h]
  exact hc

theorem State.mem_addCause_of_mem {c x : Cause} {s : State} (hx : x ∈ s.causes) : x ∈ (s.addCause c).causes := by
  obtain ⟨cs, r, h, -, hc⟩ := State.addCause_form c s
  rw [h]
  exact hc x hx

theorem State.stationFault_mem (i : StationId) (s : State) : Cause.stationFault ∈ (s.finishFault i).causes :=
  State.mem_addCause_self _ _

/-- A slot that is not CLOSING is left alone. -/
theorem State.finishFault_slot_of_not {n : SlotId} {s : State} (i : StationId) (h : s.slotIs n .closing = false) :
    (s.finishFault i).slot n = s.slot n := by
  have hn : ¬ (s.slotState n = some .closing) := by
    rw [← State.slotIs_iff_slotState, h]
    exact Bool.false_ne_true
  unfold State.finishFault State.discardGroup
  rw [State.slot_congr (State.addCause_slots _ _), State.unbind, State.modStation_slot]
  split
  · rw [State.endGroup_slot, if_neg]
    rintro ⟨h1, h2⟩
    obtain ⟨m, hm, hc⟩ := State.endCloses_iff.1 h1
    rw [h2] at hm
    cases hm
    exact hn hc
  · rfl

theorem State.mem_releaseActive {id : LotId} {s : State} {c : Cause} (h : c ∈ s.causes) :
    c ∈ (s.releaseActive id).causes := by
  unfold State.releaseActive
  split
  · exact h
  · split
    · exact h
    · split
      · exact State.mem_addCause_of_mem h
      · exact h

theorem State.waferClosed_mem {s : State} {n : SlotId} {w : Wafer} (h : s.slot n = some w) :
    Cause.waferClosed ∈ (s.completeClose n true).causes := by
  unfold State.completeClose
  rw [h]
  exact State.mem_releaseActive (State.mem_addCause_self _ _)

/-! ## The fault of a station with nothing in hand -/

/-- The station whose bad frame faults it. -/
theorem Station.atFault_of {x : Station} (h1 : 15 ≤ x.badFrames) (h2 : x.badFrames ≤ 16)
    (hi : x.intake = .running ∨ x.intake = .stopping ∨ x.intake = .halted) :
    x.intake ≠ .faulted ∧ x.atFault := by
  refine ⟨?_, ?_, ?_⟩
  · rcases hi with e | e | e <;> simp [e]
  · unfold bump
    split <;> omega
  · rcases hi with e | e | e <;> simp [e, Intake.faultable]

/-- Bytes that fault the station, and the work that they overtake (R48). -/
theorem State.receiving_faults {s : State} {i : StationId} {bytes rest kept : List Byte} (work : State → State)
    (hb : BringsBadFrame (s.station i).rx bytes rest kept) (h1 : 15 ≤ (s.station i).badFrames)
    (h2 : (s.station i).badFrames ≤ 16)
    (hi : (s.station i).intake = .running ∨ (s.station i).intake = .stopping ∨ (s.station i).intake = .halted) :
    s.receiving i bytes work = (work (s.modStation i Station.faultedNow)).finishFault i := by
  obtain ⟨hf, hx⟩ := Station.atFault_of h1 h2 hi
  exact State.receiving_of_fault (State.receive_of_fault hf hb hx) hf (by rw [State.station_modStation_self]; rfl)

theorem State.faultedNow_isDown (i : StationId) (s : State) :
    ((s.modStation i Station.faultedNow).station i).isDown := by
  rw [State.station_modStation_self]
  exact ⟨rfl, rfl⟩

theorem State.BindingLaw.apart {s : State} (h : s.BindingLaw) : s.Apart := ((State.bindingIn_idle s).2 h).apart

/-- A CLOSING slot's bound station has an open group (R20, R54). -/
theorem State.BindingLaw.group_of_closing {s : State} (h : s.BindingLaw) {i : StationId} {b : Binding}
    (hb : (s.station i).binding = some b) (hc : s.slotIs b.slot .closing = true) :
    (s.station i).group.isSome = true := by
  have ha := State.BindingLaw.apart h
  obtain ⟨-, -, -, h4, -⟩ := h
  obtain ⟨j, hg, hj⟩ := h4 b.slot hc
  obtain rfl : j = i := ha j i b.slot hj (by simp [Station.bound, hb])
  exact hg

end Sys2Proof.Machine
end

section
/-! PROOF. O18: the sixteenth bad frame, with nothing in hand, under a record and under an expiry. -/

namespace Sys2Proof.Machine

/-! ## With nothing in hand -/

theorem Station.downSide_eq_some {x y : Station} (h : y.downSide = x.downSide) (hx : x.intake = .faulted) :
    y.intake = .faulted ∧ y.staging = x.staging ∧ y.transmit = x.transmit ∧ y.badFrames = x.badFrames ∧
      y.silence = x.silence ∧ y.line = x.line ∧ y.rx = x.rx := by
  unfold Station.downSide at h
  rw [if_pos hx] at h
  split at h
  next hy => simpa [hy] using h
  next => cases h

theorem exec_badFrame_faults {s : State} {i : StationId} {bytes rest kept : List Byte} (hr : s.rst = false)
    (hb : BringsBadFrame (s.station i).rx bytes rest kept) (h1 : 15 ≤ (s.station i).badFrames)
    (h2 : (s.station i).badFrames ≤ 16)
    (hi : (s.station i).intake = .running ∨ (s.station i).intake = .stopping ∨ (s.station i).intake = .halted) :
    exec (.badFrame i bytes) s = .next ((s.modStation i Station.faultedNow).finishFault i) := by
  rw [exec_badFrame i bytes hr, State.receiving_faults id hb h1 h2 hi, id]

theorem State.faultedNow_apart {s : State} (i : StationId) (h : s.Apart) :
    (s.modStation i Station.faultedNow).Apart := ((State.OnlyAt.modStation rfl).spares h).2

/-- The two forms of the end of the entry to FAULTED, from the station right after steps 1 and 2. -/
theorem State.finishFault_forms {s : State} (i : StationId) (hl : s.BindingLaw) :
    ((∀ b : Binding, (s.station i).binding = some b → s.slotIs b.slot .closing = false) →
      (s.modStation i Station.faultedNow).finishFault i = State.addCause .stationFault
        (s.modStation i fun x => { x.faultedNow with group := none, binding := none })) ∧
    ∀ b : Binding, (s.station i).binding = some b → s.slotIs b.slot .closing = true →
      (s.modStation i Station.faultedNow).finishFault i = State.addCause .stationFault
        (State.completeClose b.slot true (s.modStation i fun x => { x.faultedNow with group := none })) := by
  have hst : (s.modStation i Station.faultedNow).station i = (s.station i).faultedNow :=
    State.station_modStation_self _ _ _
  have hint : ((s.modStation i Station.faultedNow).station i).intake = .faulted := by rw [hst]; rfl
  have hbind : ((s.modStation i Station.faultedNow).station i).binding = (s.station i).binding := by rw [hst]; rfl
  refine ⟨fun hn => ?_, fun b hb hc => ?_⟩
  · have hend : (s.modStation i Station.faultedNow).endCloses i = false := by
      unfold State.endCloses
      rw [hbind]
      cases hb : (s.station i).binding with
      | none => rfl
      | some b => exact hn b hb
    rw [State.finishFault_of_not_closes hint hend, State.modStation_modStation]
    rfl
  · have hg : ((s.modStation i Station.faultedNow).station i).group.isSome = true := by
      rw [hst]
      exact State.BindingLaw.group_of_closing hl hb hc
    rw [State.finishFault_of_closing hint hg (hbind.trans hb) hc (State.faultedNow_apart i (State.BindingLaw.apart hl)),
      State.modStation_modStation]

theorem State.finishFault_station {u : State} {i : StationId} (ha : u.Apart) (hi : (u.station i).intake = .faulted) :
    (u.finishFault i).station i = { u.station i with group := none, binding := none, silenceEnds := true } := by
  unfold State.finishFault State.unbind State.discardGroup
  rw [State.station_congr (State.addCause_stations _ _), State.station_modStation_self]
  split
  · rw [State.endGroup_station i ha i, if_pos rfl]
    obtain ⟨it, e, h⟩ := Station.ended_form (u.endCloses i) (u.station i)
    have hx : ((u.station i).ended (u.endCloses i)).intake = .faulted := by
      unfold Station.ended Station.finishStop
      split <;> simp [hi]
    rw [h] at hx ⊢
    cases hx
    rw [← hi]
  next hg =>
    have hg : (u.station i).group = none := by simpa using hg
    simp [hg]

/-! ## Under a record -/

/-- Whatever a granted record does at a FAULTED station, its queue, lists, counts and receiver stay. -/
theorem recordWork_downSide {s : State} {i : StationId} (r : Frame) (reads : List Nat) (hd : (s.station i).isDown) :
    ∀ w ∈ [State.waferStart i r, State.waferEnd i r, State.tdOpen i r, State.tdResults i r,
      State.tdClose reads i r, State.tdAbort i r], ((w s).station i).downSide = (s.station i).downSide := by
  have hE : Domain.engine ∈ workDomains := by decide
  have hA : Domain.accounts ∈ workDomains := by decide
  have hC : Domain.cells ∈ workDomains := by decide
  have hH : Domain.host ∈ workDomains := by decide
  have hM : Domain.alarms ∈ workDomains := by decide
  simp only [List.forall_mem_cons, List.not_mem_nil, false_imp_iff, implies_true, and_true]
  exact ⟨(State.waferStart_run hE i r true s).downSide hd, (State.waferEnd_run hE i r true s).downSide hd,
    (State.tdOpen_run hE i r true s (.inr rfl)).downSide hd, (State.tdResults_run hE hC i r true s).downSide hd,
    (State.tdClose_run hA hE hC hH hM reads i r true s).downSide hd, (State.tdAbort_run hE i r true s).downSide hd⟩

theorem State.deliver_worked (i : StationId) (y : StationReply) (s : State) : s.Worked (s.deliver i y) :=
  ⟨_, _, _, _, _, _, _, _, _, _, _, _, rfl⟩

theorem State.modStation_worked (i : StationId) (f : Station → Station) (s : State) : s.Worked (s.modStation i f) :=
  ⟨_, _, _, _, _, _, _, _, _, _, _, _, rfl⟩

theorem State.withGroup_worked {i : StationId} {r : Frame} {go : Group → State → State} {s : State}
    (h : ∀ g, s.Worked (go g s)) : s.Worked (s.withGroup i r go) := by
  unfold State.withGroup
  split
  · exact State.deliver_worked i _ s
  · split
    · exact h _
    · exact State.deliver_worked i _ s

theorem State.waferStart_worked (i : StationId) (r : Frame) (s : State) : s.Worked (s.waferStart i r) := by
  unfold State.waferStart
  split
  · dsimp only
    split
    · exact State.deliver_worked i _ s
    split
    · exact State.deliver_worked i _ s
    split
    · exact State.deliver_worked i _ s
    split
    · exact State.deliver_worked i _ s
    split
    · exact State.deliver_worked i _ s
    split
    · exact State.deliver_worked i _ s
    · exact (State.modStation_worked i _ s).trans (State.deliver_worked i _ _)
  · exact State.deliver_worked i _ s

theorem State.waferEnd_worked (i : StationId) (r : Frame) (s : State) : s.Worked (s.waferEnd i r) := by
  unfold State.waferEnd
  split
  · exact State.deliver_worked i _ s
  split
  · exact State.deliver_worked i _ s
  · exact (State.modStation_worked i _ s).trans (State.deliver_worked i _ _)

theorem State.tdOpen_worked (i : StationId) (r : Frame) (s : State) : s.Worked (s.tdOpen i r) := by
  unfold State.tdOpen
  split
  · exact State.deliver_worked i _ s
  split
  · exact State.deliver_worked i _ s
  split
  · exact State.deliver_worked i _ s
  split
  · exact State.deliver_worked i _ s
  · exact (State.modStation_worked i _ s).trans (State.deliver_worked i _ _)

theorem State.tdResults_worked (i : StationId) (r : Frame) (s : State) : s.Worked (s.tdResults i r) := by
  unfold State.tdResults
  refine State.withGroup_worked fun g => ?_
  dsimp only
  split
  · exact State.deliver_worked i _ s
  · exact (State.checkEntries_form i _ _ s).trans (State.deliver_worked i _ _)

theorem State.tdClose_worked (reads : List Nat) (i : StationId) (r : Frame) (s : State) :
    s.Worked (s.tdClose reads i r) := by
  unfold State.tdClose
  refine State.withGroup_worked fun g => ?_
  dsimp only
  split
  · exact State.deliver_worked i _ s
  · exact ((State.commit_form _ i g reads s).trans (State.endGroup_worked i _)).trans (State.deliver_worked i _ _)

theorem State.tdAbort_worked (i : StationId) (r : Frame) (s : State) : s.Worked (s.tdAbort i r) :=
  State.withGroup_worked fun _ => (State.endGroup_worked i s).trans (State.deliver_worked i _ _)


/-! ## The record rows -/

/-- The state in which a granted record is carried out: the grant is noted and the queue keeps its rest. -/
def State.taken (s : State) (i : StationId) (rest : List Frame) : State :=
  s.granted i { s.station i with staging := rest }

theorem State.upset_grants {s : State} {i : StationId} {r : Frame} {rest : List Frame} (h : s.Grants i r rest)
    (us : List Upset) : (s.upset us).Grants i r rest := by
  obtain ⟨_, e, -⟩ := State.upset_form us s
  rw [e]
  exact h

section Rows
variable {s : State} {i : StationId} {r : Frame} {rest : List Frame} (h : s.Grants i r rest)
include h

theorem exec_waferStart (hk : r.kind = 0x41) (bytes : List Byte) :
    exec (.waferStart bytes) s = .next ((s.taken i rest).checked i r bytes (State.waferStart i r)) :=
  congrArg _ (State.takeRecord_of_grants h hk _)

theorem exec_waferEnd (hk : r.kind = 0x42) (bytes : List Byte) :
    exec (.waferEnd bytes) s = .next ((s.taken i rest).checked i r bytes (State.waferEnd i r)) :=
  congrArg _ (State.takeRecord_of_grants h hk _)

theorem exec_tdOpen (hk : r.kind = 0x43) (bytes : List Byte) :
    exec (.tdOpen bytes) s = .next ((s.taken i rest).checked i r bytes (State.tdOpen i r)) :=
  congrArg _ (State.takeRecord_of_grants h hk _)

theorem exec_tdAbort (hk : r.kind = 0x46) (bytes : List Byte) :
    exec (.tdAbort bytes) s = .next ((s.taken i rest).checked i r bytes (State.tdAbort i r)) :=
  congrArg _ (State.takeRecord_of_grants h hk _)

theorem exec_tdResults (hk : r.kind = 0x44) (us : List Upset) (bytes : List Byte) :
    exec (.tdResults us bytes) s =
      .next (((s.upset us).taken i rest).checked i r bytes (State.tdResults i r)) :=
  congrArg _ ((if_neg (by simp [h.1])).trans (State.takeRecord_of_grants (State.upset_grants h us) hk _))

theorem exec_tdClose (hk : r.kind = 0x45) (reads : List Nat) (us : List Upset) (bytes : List Byte) :
    exec (.tdClose reads us bytes) s =
      .next (((s.upset us).taken i rest).checked i r bytes (State.tdClose reads i r)) :=
  congrArg _ ((if_neg (by simp [h.1])).trans (State.takeRecord_of_grants (State.upset_grants h us) hk _))

/-- Every record row carries its record out, over the errors that have struck the memory before. -/
theorem exec_record (reads : List Nat) (us : List Upset) (bytes : List Byte) {x : Instr × Byte}
    (hx : x ∈ recordRowsWith reads us bytes) (hk : r.kind = x.2) :
    ∃ u, (u = s ∨ u = s.upset us) ∧ ∃ w ∈ [State.waferStart i r, State.waferEnd i r, State.tdOpen i r,
      State.tdResults i r, State.tdClose reads i r, State.tdAbort i r],
        exec x.1 s = .next ((u.taken i rest).checked i r bytes w) := by
  simp only [recordRowsWith, recordForms, List.map_cons, List.map_nil, List.mem_cons, List.not_mem_nil,
    or_false] at hx
  rcases hx with rfl | rfl | rfl | rfl | rfl | rfl
  · exact ⟨s, .inl rfl, _, by simp, exec_waferStart h hk bytes⟩
  · exact ⟨s, .inl rfl, _, by simp, exec_waferEnd h hk bytes⟩
  · exact ⟨s, .inl rfl, _, by simp, exec_tdOpen h hk bytes⟩
  · exact ⟨_, .inr rfl, _, by simp, exec_tdResults h hk us bytes⟩
  · exact ⟨_, .inr rfl, _, by simp, exec_tdClose h hk reads us bytes⟩
  · exact ⟨s, .inl rfl, _, by simp, exec_tdAbort h hk bytes⟩

end Rows

theorem recordWork_worked (i : StationId) (r : Frame) (reads : List Nat) (s : State) :
    ∀ w ∈ [State.waferStart i r, State.waferEnd i r, State.tdOpen i r, State.tdResults i r,
      State.tdClose reads i r, State.tdAbort i r], s.Worked (w s) := by
  simp only [List.forall_mem_cons, List.not_mem_nil, false_imp_iff, implies_true, and_true]
  exact ⟨State.waferStart_worked i r s, State.waferEnd_worked i r s, State.tdOpen_worked i r s,
    State.tdResults_worked i r s, State.tdClose_worked reads i r s, State.tdAbort_worked i r s⟩

/-! ## A fault under a record -/

/-- The work of a record that its state check lets through, or the refusal. -/
def checkedWork (i : StationId) (r : Frame) (x : Intake) (w : State → State) : State → State :=
  match stateCheck r.kind x with
  | some why => State.refuse i r.tag why
  | none => w

theorem checkedWork_cases (i : StationId) (r : Frame) (x : Intake) (w : State → State) :
    (∃ why, checkedWork i r x w = State.refuse i r.tag why) ∨ checkedWork i r x w = w := by
  unfold checkedWork
  split
  next why _ => exact .inl ⟨why, rfl⟩
  next => exact .inr rfl

theorem State.checked_eq (i : StationId) (r : Frame) (bytes : List Byte) (w : State → State) (s : State) :
    s.checked i r bytes w = s.during i bytes (checkedWork i r (s.station i).intake w) := rfl

theorem State.during_of_ne_nil {bytes : List Byte} (hb : bytes ≠ []) (i : StationId) (w : State → State) (s : State) :
    s.during i bytes w = s.receiving i bytes w := if_neg hb

theorem State.taken_station (s : State) (i : StationId) (rest : List Frame) :
    (s.taken i rest).station i = { s.station i with staging := rest } := by
  simp [State.taken, State.granted, State.station]

theorem State.taken_faultedNow (s : State) (i : StationId) (rest : List Frame) :
    (s.taken i rest).modStation i Station.faultedNow = s.granted i (s.station i).faultedNow := by
  rw [State.modStation_eq, State.taken_station]
  simp [State.taken, State.granted, Station.faultedNow]

/-- Bytes that fault the station of a granted record: the record's work, at the station FAULTED already, and then the
rest of the entry to FAULTED (R48, R70, R74). -/
theorem State.checked_faults {s : State} {i : StationId} {bytes left kept : List Byte} (r : Frame) (rest : List Frame)
    (w : State → State) (hn : bytes ≠ []) (hb : BringsBadFrame (s.station i).rx bytes left kept)
    (h1 : 15 ≤ (s.station i).badFrames) (h2 : (s.station i).badFrames ≤ 16)
    (hi : (s.station i).intake = .running ∨ (s.station i).intake = .stopping ∨ (s.station i).intake = .halted) :
    (s.taken i rest).checked i r bytes w =
      (checkedWork i r (s.station i).intake w (s.granted i (s.station i).faultedNow)).finishFault i := by
  have hst := State.taken_station s i rest
  rw [State.checked_eq, State.during_of_ne_nil hn, State.receiving_faults _ (by rw [hst]; exact hb)
    (by rw [hst]; exact h1) (by rw [hst]; exact h2) (by rw [hst]; exact hi), State.taken_faultedNow, hst]

end Sys2Proof.Machine
end

section
/-! PROOF. O18, settled: the works that a fault overtakes, one by one. -/

namespace Sys2Proof.Machine

/-! ## Works that leave nothing behind -/

theorem State.refuse_of_faulted {s : State} {i : StationId} (h : (s.station i).intake = .faulted) (tag : Byte)
    (why : Reason) : s.refuse i tag why = s := State.deliver_of_faulted h _

/-- The work changed no more of the state than the station's binding and group, and its group's end closes
nothing. -/
def State.Rebound (i : StationId) (s t : State) : Prop :=
  t.endCloses i = false ∧ ∃ b g, t = s.modStation i fun x => { x with binding := b, group := g }

theorem State.Rebound.refl {i : StationId} {s : State} (h : s.endCloses i = false) : s.Rebound i s :=
  ⟨h, (s.station i).binding, (s.station i).group, (State.modStation_self rfl).symm⟩

theorem State.Rebound.finishFault {i : StationId} {s t : State} (h : s.Rebound i t)
    (hf : (s.station i).intake = .faulted) : t.finishFault i = State.addCause .stationFault
      (s.modStation i fun x => { x with group := none, binding := none, silenceEnds := true }) := by
  obtain ⟨hc, b, g, rfl⟩ := h
  rw [State.finishFault_of_not_closes (by rw [State.station_modStation_self]; exact hf) hc, State.modStation_modStation]

section Works
variable {s : State} {i : StationId} (hf : (s.station i).intake = .faulted) (r : Frame)
include hf

theorem State.waferStart_rebound (hc : s.endCloses i = false) : s.Rebound i (s.waferStart i r) := by
  unfold State.waferStart
  simp only [State.refuse_of_faulted hf, State.deliver_of_faulted hf]
  split
  · split
    · exact .refl hc
    split
    · exact .refl hc
    split
    · exact .refl hc
    split
    · exact .refl hc
    split
    · exact .refl hc
    split
    · exact .refl hc
    next n _ _ hn _ =>
      rw [State.deliver_of_faulted (by rw [State.station_modStation_self]; exact hf)]
      refine ⟨?_, some _, (s.station i).group, rfl⟩
      unfold State.endCloses
      rw [State.station_modStation_self]
      exact Bool.eq_false_iff.2 hn
  · exact .refl hc

theorem State.waferEnd_rebound (hc : s.endCloses i = false) (hg : (s.station i).silenceEnds = true) :
    s.Rebound i (s.waferEnd i r) := by
  unfold State.waferEnd
  simp only [State.refuse_of_faulted hf]
  split
  · exact .refl hc
  split
  · exact .refl hc
  · rw [State.deliver_of_faulted (by rw [State.unbind, State.station_modStation_self]; exact hf)]
    refine ⟨?_, none, (s.station i).group, ?_⟩
    · unfold State.endCloses State.unbind
      rw [State.station_modStation_self]
      rfl
    · rw [State.unbind, State.modStation_eq, State.modStation_eq, hg]

theorem State.tdOpen_rebound (hc : s.endCloses i = false) : s.Rebound i (s.tdOpen i r) := by
  unfold State.tdOpen
  simp only [State.refuse_of_faulted hf]
  split
  · exact .refl hc
  next b hb =>
    split
    · exact .refl hc
    next hn =>
      split
      · exact .refl hc
      split
      · exact .refl hc
      · rw [State.deliver_of_faulted (by rw [State.station_modStation_self]; exact hf)]
        refine ⟨?_, (s.station i).binding, some _, rfl⟩
        unfold State.endCloses
        rw [State.station_modStation_self]
        exact hc

theorem State.tdAbort_rebound (hc : s.endCloses i = false) : s.Rebound i (s.tdAbort i r) := by
  unfold State.tdAbort State.withGroup
  simp only [State.refuse_of_faulted hf]
  split
  · exact .refl hc
  split
  · have he : s.endGroup i = s.modStation i fun x => { x with group := none } := by
      rw [State.endGroup_of_not_closes i hc, State.modStation_eq, State.modStation_eq, Station.ended_of_faulted hf]
    rw [he, State.deliver_of_faulted (by rw [State.station_modStation_self]; exact hf)]
    refine ⟨?_, (s.station i).binding, none, rfl⟩
    unfold State.endCloses
    rw [State.station_modStation_self]
    exact hc
  · exact .refl hc

/-- Over a CLOSING slot with a group open, each of the four leaves the state as it was, or is TD_ABORT, which ends
the group as the fault does. -/
theorem State.finishFault_of_work {b : Binding} (hb : (s.station i).binding = some b)
    (hc : s.slotIs b.slot .closing = true) (hg : (s.station i).group.isSome = true) :
    ∀ w ∈ [State.waferStart i r, State.waferEnd i r, State.tdOpen i r, State.tdAbort i r],
      (w s).finishFault i = s.finishFault i := by
  have hstart : s.waferStart i r = s := by
    unfold State.waferStart
    simp only [State.refuse_of_faulted hf, hb, Option.isSome_some, if_true]
    split
    · split <;> rfl
    · rfl
  have hend : s.waferEnd i r = s := by
    unfold State.waferEnd
    rw [hb, if_neg (by simp), if_pos hg, State.refuse_of_faulted hf]
  have hopen : s.tdOpen i r = s := by
    unfold State.tdOpen
    rw [hb]
    dsimp only
    rw [if_pos hc, State.refuse_of_faulted hf]
  have habort : (s.tdAbort i r).finishFault i = s.finishFault i := by
    unfold State.tdAbort State.withGroup
    simp only [State.refuse_of_faulted hf]
    split
    · rfl
    split
    · have hf' : ((s.endGroup i).station i).intake = .faulted :=
        (Station.downSide_eq_some (State.endGroup_downSide i s i) hf).1
      rw [State.deliver_of_faulted hf']
      unfold State.finishFault State.discardGroup
      rw [State.endGroup_group, if_pos rfl, if_pos hg]
      rfl
    · rfl
  simp only [List.forall_mem_cons, List.not_mem_nil, false_imp_iff, implies_true, and_true]
  exact ⟨by rw [hstart], by rw [hend], by rw [hopen], habort⟩

end Works

/-! ## The records of an open group -/

theorem stateCheck_of_group {k : Byte} (hk : k ≠ 0x41) (hk' : k ≠ 0x43) {x : Intake}
    (hx : x = .running ∨ x = .stopping ∨ x = .halted) : stateCheck k x = none := by
  rcases hx with rfl | rfl | rfl
  · rfl
  · exact if_neg (by rintro (h | h); exacts [hk h, hk' h])
  · exact if_neg hk'

section Group
variable {s : State} {i : StationId} {r : Frame} {g : Group} {b : Binding} (hg : (s.station i).group = some g)
  (ht : g.touchdown = u16 r.payload 0)
include hg ht

theorem State.withGroup_of_group (go : Group → State → State) : s.withGroup i r go = go g s := by
  unfold State.withGroup
  rw [hg]
  exact if_pos ht

theorem State.tdClose_eq (hb : (s.station i).binding = some b) (reads : List Nat) :
    s.tdClose reads i r =
      ((s.commit b.slot i g reads).1.endGroup i).deliver i (.acceptWith r.tag (s.commit b.slot i g reads).2) := by
  unfold State.tdClose
  rw [State.withGroup_of_group hg ht, hb]

theorem State.tdResults_eq (hb : (s.station i).binding = some b) :
    s.tdResults i r = (s.checkEntries i b (resultFields r.payload)).1.deliver i
      (.acceptWith r.tag (s.checkEntries i b (resultFields r.payload)).2) := by
  unfold State.tdResults
  rw [State.withGroup_of_group hg ht, hb]

theorem State.tdAbort_eq : s.tdAbort i r = (s.endGroup i).deliver i (.accept r.tag) := by
  unfold State.tdAbort
  rw [State.withGroup_of_group hg ht]

end Group

theorem State.finishFault_of_group {s : State} {i : StationId} (h : (s.station i).group.isSome = true) :
    s.finishFault i = (s.endGroup i).faultEnds i := by
  unfold State.finishFault State.discardGroup
  rw [if_pos h]
  rfl

theorem State.endGroup_group_self (i : StationId) (s : State) : ((s.endGroup i).station i).group = none := by
  rw [State.endGroup_group, if_pos rfl]

/-- TD_CLOSE at a station that a fault has overtaken: the commit is whole and its REPLY discarded (R70). -/
theorem State.tdClose_finishFault {s : State} {i : StationId} {r : Frame} {g : Group} {b : Binding}
    (hd : (s.station i).isDown) (hg : (s.station i).group = some g) (ht : g.touchdown = u16 r.payload 0)
    (hb : (s.station i).binding = some b) (reads : List Nat) :
    (s.tdClose reads i r).finishFault i = ((s.commit b.slot i g reads).1.endGroup i).faultEnds i := by
  have hrun := (State.commit_run (D := workDomains) (by decide) (by decide) (by decide) (by decide) (by decide) i true
    false hb hg reads).1
  have hdown := (State.endGroup_downSide i (s.commit b.slot i g reads).1 i).trans (hrun.downSide hd)
  rw [State.tdClose_eq hg ht hb, State.deliver_of_faulted (Station.downSide_eq_some hdown hd.1).1,
    State.finishFault_of_no_group (State.endGroup_group_self i _)]

theorem State.checkEntry_group (i : StationId) (b : Binding) (x : Result) (s : State) :
    ((s.checkEntry i b x).1.station i).group.isSome = (s.station i).group.isSome := by
  unfold State.checkEntry
  split
  · split
    · rfl
    · dsimp only
      split
      · rw [State.readCell_station]
      · split
        · rw [State.readCell_station]
        · rw [State.station_modStation_self, Station.join, State.readCell_station, Option.isSome_map]
  · rfl

theorem State.checkEntries_group (i : StationId) (b : Binding) (xs : List Result) (s : State) :
    ((s.checkEntries i b xs).1.station i).group.isSome = (s.station i).group.isSome := by
  induction xs generalizing s with
  | nil => rfl
  | cons x xs ih => exact (ih _).trans (State.checkEntry_group i b x s)

/-- TD_RESULTS at a station that a fault has overtaken: its entries are checked, and the group discarded. -/
theorem State.tdResults_finishFault {s : State} {i : StationId} {r : Frame} {g : Group} {b : Binding}
    (hd : (s.station i).isDown) (hg : (s.station i).group = some g) (ht : g.touchdown = u16 r.payload 0)
    (hb : (s.station i).binding = some b) :
    (s.tdResults i r).finishFault i =
      ((s.checkEntries i b (resultFields r.payload)).1.endGroup i).faultEnds i := by
  have hdown := (State.checkEntries_run (D := workDomains) (by decide) (by decide) i true false b
    (resultFields r.payload) hb).downSide hd
  rw [State.tdResults_eq hg ht hb, State.deliver_of_faulted (Station.downSide_eq_some hdown hd.1).1,
    State.finishFault_of_group (by rw [State.checkEntries_group, hg]; rfl)]


/-! ## O18 -/

theorem State.granted_station (s : State) (i : StationId) (x : Station) : (s.granted i x).station i = x := by
  simp [State.granted, State.station]

theorem State.granted_modStation (s : State) (i : StationId) (x : Station) (f : Station → Station) :
    (s.granted i x).modStation i f = s.granted i (f x) := by
  rw [State.modStation_eq, State.granted_station]
  simp [State.granted]

theorem State.granted_apart {s : State} (i : StationId) {x : Station} (hx : x.bound = (s.station i).bound)
    (h : s.Apart) : (s.granted i x).Apart := by
  have ho : ∀ j, i ≠ j → (s.granted i x).station j = s.station j := fun j hj => by
    have : i.val ≠ j.val := fun e => hj (Fin.ext e)
    simp [State.granted, State.station, this]
  exact h.of_bound ho fun n hn => by rwa [State.granted_station, hx] at hn

/-- What a record that a fault overtakes leaves of its station, whatever the record. -/
theorem exec_record_faults {s : State} {i : StationId} {r : Frame} {rest : List Frame} {bytes left kept : List Byte}
    {reads : List Nat} {us : List Upset} (h : s.Grants i r rest) (hn : bytes ≠ [])
    (hb : BringsBadFrame (s.station i).rx bytes left kept) (h1 : 15 ≤ (s.station i).badFrames)
    (h2 : (s.station i).badFrames ≤ 16)
    (hi : (s.station i).intake = .running ∨ (s.station i).intake = .stopping ∨ (s.station i).intake = .halted)
    {x : Instr × Byte} (hx : x ∈ recordRowsWith reads us bytes) (hk : r.kind = x.2) :
    ∃ t, exec x.1 s = .next t ∧ (t.station i).downSide = (s.station i).faultedNow.downSide ∧
      (t.station i).group = none ∧ (t.station i).binding = none ∧ (t.station i).silenceEnds = true ∧
      Cause.stationFault ∈ t.causes ∧ t.lastGranted = i := by
  obtain ⟨u, hu, w, hw, he⟩ := exec_record h reads us bytes hx hk
  have hst : u.station i = s.station i := by
    rcases hu with rfl | rfl
    · rfl
    · exact State.station_congr (State.upset_fields us s).1 i
  rw [State.checked_faults r rest w hn (by rw [hst]; exact hb) (by rw [hst]; exact h1) (by rw [hst]; exact h2)
    (by rw [hst]; exact hi)] at he
  let v := u.granted i (u.station i).faultedNow
  have hv : v.station i = (s.station i).faultedNow := by rw [State.granted_station, hst]
  have hd : (v.station i).isDown := by rw [hv]; exact ⟨rfl, rfl⟩
  have hwork : ((checkedWork i r (u.station i).intake w v).station i).downSide = (v.station i).downSide ∧
      v.Worked (checkedWork i r (u.station i).intake w v) := by
    rcases checkedWork_cases i r (u.station i).intake w with ⟨why, e⟩ | e
    · rw [e, State.refuse_of_faulted hd.1]
      exact ⟨rfl, .refl v⟩
    · rw [e]
      exact ⟨recordWork_downSide r reads hd w hw, recordWork_worked i r reads v w hw⟩
  obtain ⟨hg, hbn, hs⟩ := State.finishFault_freed i (checkedWork i r (u.station i).intake w v)
  refine ⟨_, he, ?_, hg, hbn, hs, State.stationFault_mem i _, ?_⟩
  · rw [State.finishFault_downSide, hwork.1, hv]
  · obtain ⟨_, _, _, _, _, e⟩ := State.finishFault_ended i (checkedWork i r (u.station i).intake w v)
    obtain ⟨_, _, _, _, _, _, _, _, _, _, _, _, e'⟩ := hwork.2
    rw [e, e']
    rfl

/-- WAFER_START, WAFER_END, TD_OPEN and TD_ABORT under a fault leave nothing behind but the grant. -/
theorem finishFault_of_light_work {s : State} (i : StationId) (r : Frame) (hl : s.BindingLaw) :
    ∀ w ∈ [State.waferStart i r, State.waferEnd i r, State.tdOpen i r, State.tdAbort i r],
      let ended : State := s.granted i { (s.station i).faultedNow with group := none }
      ((∀ b : Binding, (s.station i).binding = some b → s.slotIs b.slot .closing = false) →
        (checkedWork i r (s.station i).intake w (s.granted i (s.station i).faultedNow)).finishFault i =
          State.faultEnds i ended) ∧
      ∀ b : Binding, (s.station i).binding = some b → s.slotIs b.slot .closing = true →
        (checkedWork i r (s.station i).intake w (s.granted i (s.station i).faultedNow)).finishFault i =
          State.addCause .stationFault (State.completeClose b.slot true ended) := by
  intro w hw
  have hst := State.granted_station s i (s.station i).faultedNow
  have hf : ((s.granted i (s.station i).faultedNow).station i).intake = .faulted := by rw [hst]; rfl
  have hapart : (s.granted i (s.station i).faultedNow).Apart :=
    State.granted_apart i rfl (State.BindingLaw.apart hl)
  refine ⟨fun hn => ?_, fun b hb hc => ?_⟩
  · have hend : (s.granted i (s.station i).faultedNow).endCloses i = false := by
      unfold State.endCloses
      rw [hst]
      cases hb : (s.station i).faultedNow.binding with
      | none => rfl
      | some b => exact hn b hb
    have hre : State.Rebound i (s.granted i (s.station i).faultedNow)
        (checkedWork i r (s.station i).intake w (s.granted i (s.station i).faultedNow)) := by
      rcases checkedWork_cases i r (s.station i).intake w with ⟨why, e⟩ | e
      · rw [e, State.refuse_of_faulted hf]
        exact .refl hend
      · rw [e]
        simp only [List.mem_cons, List.not_mem_nil, or_false] at hw
        rcases hw with rfl | rfl | rfl | rfl
        · exact State.waferStart_rebound hf r hend
        · exact State.waferEnd_rebound hf r hend (by rw [hst]; rfl)
        · exact State.tdOpen_rebound hf r hend
        · exact State.tdAbort_rebound hf r hend
    rw [hre.finishFault hf, State.granted_modStation, State.faultEnds, State.granted_station]
    simp [State.granted]
  · have hg : ((s.granted i (s.station i).faultedNow).station i).group.isSome = true := by
      rw [hst]
      exact State.BindingLaw.group_of_closing hl hb hc
    have hb' : ((s.granted i (s.station i).faultedNow).station i).binding = some b := by rw [hst]; exact hb
    have hwork : (checkedWork i r (s.station i).intake w (s.granted i (s.station i).faultedNow)).finishFault i =
        (s.granted i (s.station i).faultedNow).finishFault i := by
      rcases checkedWork_cases i r (s.station i).intake w with ⟨why, e⟩ | e
      · rw [e, State.refuse_of_faulted hf]
      · rw [e]
        exact State.finishFault_of_work hf r hb' hc hg w hw
    rw [hwork, State.finishFault_of_closing hf hg hb' hc hapart, State.granted_modStation]

theorem exec_groupExpiry {s : State} {i : StationId} {b : Binding} {g : Group} (reads : List Nat) (bytes : List Byte)
    (hr : s.rst = false) (hd : s.dueExpiry = some i) (hg : (s.station i).group = some g)
    (hb : (s.station i).binding = some b) :
    exec (.groupExpiry reads [] bytes) s = .next (s.during i bytes (State.expire i b g reads)) := by
  refine congrArg _ ((if_neg (by simp [hr])).trans ?_)
  dsimp only
  rw [show s.upset [] = s from rfl, hd]
  dsimp only
  rw [hb, hg]

/-- Settles O18: nothing in hand, a record in hand, an expiry in hand. -/
theorem sixteenthBadFrameFaultsStation : Obligations.SixteenthBadFrameFaultsStation := by
  refine ⟨?_, ?_, ?_, ?_⟩
  · intro s i bytes rest kept hr hl hb h1 h2 hi
    refine ⟨_, exec_badFrame_faults hr hb h1 h2 hi, ?_⟩
    have hclose := (State.finishFault_forms i hl).2
    have hapart := State.faultedNow_apart i (State.BindingLaw.apart hl)
    have hst := State.finishFault_station (i := i) hapart (by rw [State.station_modStation_self]; rfl)
    have hother := (State.finishFault_spares i _ hapart).1
    have hfault := State.stationFault_mem i (s.modStation i Station.faultedNow)
    have hslot := fun n => State.finishFault_slot_of_not (n := n) (s := s.modStation i Station.faultedNow) i
    obtain ⟨_, _, _, _, _, he⟩ := State.finishFault_ended i (s.modStation i Station.faultedNow)
    rw [State.station_modStation_self] at hst
    rw [hst]
    refine ⟨rfl, rfl, rfl, rfl, rfl, rfl, rfl, rfl, rfl, rfl, rfl, rfl, rfl, rfl, fun j hj => ?_, hslot,
      fun b w hbb hw hc => ?_, hfault, ?_⟩
    · rw [hother j (Ne.symm hj), State.station_modStation_ne s (Ne.symm hj)]
    · rw [hclose b hbb (by simp [State.slotIs, hw, hc])]
      refine ⟨?_, State.mem_addCause_of_mem (State.waferClosed_mem (w := w) hw)⟩
      rw [State.slot_congr (State.addCause_slots _ _),
        State.completeClose_slot (s := s.modStation i _) (n := b.slot) hw true, if_pos rfl]
      rfl
    · rw [he]
      exact ⟨rfl, rfl, rfl, rfl, rfl, rfl, rfl, rfl, rfl, rfl, rfl, rfl, rfl, rfl, rfl, rfl, rfl⟩
  · intro s i bytes rest kept hr hl hb h1 h2 hi
    rw [exec_badFrame_faults hr hb h1 h2 hi]
    obtain ⟨hn, hc⟩ := State.finishFault_forms i hl
    exact ⟨fun h => congrArg _ (hn h), fun b hb h => congrArg _ (hc b hb h)⟩
  · intro s i r rest bytes left kept reads h hl hn hb h1 h2 hi
    have hfaults := fun w => State.checked_faults r rest w hn hb h1 h2 hi
    refine ⟨fun us x hx hk => ?_, fun g b hk hg ht hbb => ?_, fun g b hk hg ht hbb => ?_, fun x hx hk => ?_⟩
    · obtain ⟨t, he, hd, hg, hbn, hs, hc, hlast⟩ := exec_record_faults h hn hb h1 h2 hi hx hk
      obtain ⟨d1, d2, d3, d4, d5, d6, d7⟩ := Station.downSide_eq_some hd rfl
      refine ⟨t, he, d1, d4, d2, d3, d7, hg, hbn, hs, d5, d6, fun j hj => ?_, hc, hlast⟩
      exact recordRow_station (List.mem_map_of_mem (f := Prod.fst) hx) (State.BindingLaw.apart hl) h.2.2.2.1
        (Ne.symm hj) he
    · have hst := State.granted_station s i (s.station i).faultedNow
      rw [exec_tdClose h hk reads [] bytes, show s.upset [] = s from rfl, hfaults, checkedWork,
        stateCheck_of_group (by rw [hk]; decide) (by rw [hk]; decide) hi]
      exact congrArg _ (State.tdClose_finishFault (by rw [hst]; exact ⟨rfl, rfl⟩) (by rw [hst]; exact hg) ht
        (by rw [hst]; exact hbb) reads)
    · have hst := State.granted_station s i (s.station i).faultedNow
      rw [exec_tdResults h hk [] bytes, show s.upset [] = s from rfl, hfaults, checkedWork,
        stateCheck_of_group (by rw [hk]; decide) (by rw [hk]; decide) hi]
      exact congrArg _ (State.tdResults_finishFault (by rw [hst]; exact ⟨rfl, rfl⟩) (by rw [hst]; exact hg) ht
        (by rw [hst]; exact hbb))
    · have hlight := finishFault_of_light_work i r hl
      simp only [List.forall_mem_cons, List.not_mem_nil, false_imp_iff, implies_true, and_true] at hlight
      obtain ⟨l1, l2, l3, l4⟩ := hlight
      simp only [List.mem_cons, List.not_mem_nil, or_false] at hx
      rcases hx with rfl | rfl | rfl | rfl
      · rw [exec_waferStart h hk bytes, hfaults]
        exact ⟨fun hc => congrArg _ (l1.1 hc), fun b hbb hc => congrArg _ (l1.2 b hbb hc)⟩
      · rw [exec_waferEnd h hk bytes, hfaults]
        exact ⟨fun hc => congrArg _ (l2.1 hc), fun b hbb hc => congrArg _ (l2.2 b hbb hc)⟩
      · rw [exec_tdOpen h hk bytes, hfaults]
        exact ⟨fun hc => congrArg _ (l3.1 hc), fun b hbb hc => congrArg _ (l3.2 b hbb hc)⟩
      · rw [exec_tdAbort h hk bytes, hfaults]
        exact ⟨fun hc => congrArg _ (l4.1 hc), fun b hbb hc => congrArg _ (l4.2 b hbb hc)⟩
  · intro s i b g w reads bytes left kept hr hd hg hb hw hn hbf h1 h2 hi counted
    rw [exec_groupExpiry reads bytes hr hd hg hb, State.during_of_ne_nil hn, State.receiving_faults _ hbf h1 h2 hi]
    have hcount : (s.modStation i Station.faultedNow).modAcc b.slot Acc.timeout = counted := by
      have hw' : (s.modStation i Station.faultedNow).slot b.slot = some w := hw
      rw [State.modAcc, State.modWafer_of_slot _ hw']
      rfl
    unfold State.expire
    rw [hcount]
    refine ⟨fun hm => ?_, fun hm => ?_⟩
    · rw [hm]
      exact congrArg _ (State.finishFault_of_no_group (State.endGroup_group_self i _))
    · rw [hm]
      exact congrArg _ (State.finishFault_of_no_group (State.endGroup_group_self i _))

end Sys2Proof.Machine
end

section
/-! PROOF. O19: good frames at a station's receiver, a FAULTED station, and bytes during work. -/

namespace Sys2Proof.Machine

/-! ## One good frame -/

theorem State.stationReceive_good {s : State} {i : StationId} {bytes : List Byte} {f : Frame} {k : Nat}
    (hf : (s.station i).intake ≠ .faulted) (h : receive bytes = .good f [])
    (hg : ((s.goodFrame i f).station i).intake ≠ .faulted) :
    State.stationReceive i (k + 2) bytes s = (s.goodFrame i f).modStation i fun x => { x with rx := [] } := by
  rw [State.stationReceive, if_neg hf, h]
  show State.stationReceive i (k + 1) [] (s.goodFrame i f) = _
  rw [State.stationReceive, if_neg hg, receive_nil]

/-- A good frame clears the bad-frame count and the silence counter (R37). -/
def Station.cleared (x : Station) : Station := { x with badFrames := 0, silence := 0 }

theorem State.goodFrame_station (i : StationId) (f : Frame) (s : State) :
    (s.goodFrame i f).station i = (s.station i).cleared.examine f :=
  State.station_modStation_self s i fun x => x.cleared.examine f

theorem State.goodFrame_eq (i : StationId) (f : Frame) (s : State) :
    s.goodFrame i f = { s with
      stations := s.stations.set i ((s.station i).cleared.examine f)
      tripped := s.tripped.filter fun w => !Watch.linkOf i w } := rfl

/-- The examination touches the queue and the transmit list alone. -/
theorem Station.examine_form (f : Frame) (x : Station) :
    ∃ q t, x.examine f = { x with staging := q, transmit := t } := by
  unfold Station.examine
  simp only [Station.answer_eq]
  repeat' split
  all_goals exact ⟨_, _, rfl⟩

theorem Station.examine_intake (f : Frame) (x : Station) : (x.examine f).intake = x.intake := by
  obtain ⟨q, t, h⟩ := x.examine_form f
  rw [h]

theorem Station.examine_rx (f : Frame) (x : Station) : (x.examine f).rx = x.rx := by
  obtain ⟨q, t, h⟩ := x.examine_form f
  rw [h]

/-- One good frame at an idle receiver. -/
theorem State.receiving_good {s : State} {i : StationId} {f : Frame} (work : State → State)
    (hf : (s.station i).intake ≠ .faulted) (hx : (s.station i).rx = []) (hl : f.payload.length ≤ 1020) :
    s.receiving i f.bytes work = work (s.goodFrame i f) := by
  have hg := State.goodFrame_station i f s
  have hgi : ((s.goodFrame i f).station i).intake = (s.station i).intake := by
    rw [hg, Station.examine_intake]
    rfl
  have hgx : ((s.goodFrame i f).station i).rx = [] := by
    rw [hg, Station.examine_rx]
    exact hx
  refine State.receiving_of_spared ?_ hgi
  rw [hx, List.nil_append, Frame.bytes_length, State.stationReceive_good hf (receive_one f hl) (by rw [hgi]; exact hf)]
  refine State.modStation_self ?_
  generalize (s.goodFrame i f).station i = x at hgx
  rw [← hgx]

theorem exec_stationFrame {s : State} {i : StationId} (f : Frame) (hr : s.rst = false)
    (hf : (s.station i).intake ≠ .faulted) (hx : (s.station i).rx = []) (hl : f.payload.length ≤ 1020) :
    exec (.stationFrameReceive i f.kind f.tag f.payload) s = .next (s.goodFrame i f) :=
  congrArg _ ((if_neg (by simp [hr])).trans (State.receiving_good id hf hx hl))

theorem recordFits_of_unknown {k : Byte} (h : k.toNat < 0x40 ∨ 0x46 < k.toNat) (p : List Byte) :
    recordFits k p = none := by
  unfold recordFits
  split <;> try omega
  rfl

section Examine
variable {f : Frame} {x : Station}

theorem Station.examine_of_none (h : recordFits f.kind f.payload = none) :
    x.examine f = x.answer (.refuse f.tag .badKind) := by
  unfold Station.examine
  rw [h]

theorem Station.examine_of_false (h : recordFits f.kind f.payload = some false) :
    x.examine f = x.answer (.refuse f.tag .badLength) := by
  unfold Station.examine
  rw [h]

theorem Station.examine_of_true (h : recordFits f.kind f.payload = some true) : x.examine f =
    if f.kind = Code.linkCheck then x.answer (.accept f.tag)
    else if x.intake = .held ∨ x.intake = .stopped then x.answer (.refuse f.tag .notReady)
    else if x.staging.length < 8 then { x with staging := x.staging ++ [f] }
    else x.answer (.wait f.tag) := by
  unfold Station.examine
  rw [h]

end Examine

/-- A good frame whose examination answers. -/
theorem State.goodFrame_of_answer {s : State} {i : StationId} {f : Frame} {y : StationReply}
    (h : (s.station i).cleared.examine f = (s.station i).cleared.answer y) :
    s.goodFrame i f =
      { s with
        stations := s.stations.set i
          { s.station i with
            badFrames := 0, silence := 0
            transmit :=
              if (s.station i).transmit.length < 14 then (s.station i).transmit ++ [.reply y]
              else (s.station i).transmit }
        tripped := s.tripped.filter fun w => !Watch.linkOf i w } := by
  rw [State.goodFrame_eq, h, Station.answer_eq]
  rfl

/-! ## FAULTED -/

theorem State.receiving_faulted {s : State} {i : StationId} (bytes : List Byte) (work : State → State)
    (h : (s.station i).intake = .faulted) :
    s.receiving i bytes work = work (s.modStation i fun x => { x with rx := [] }) := by
  refine State.receiving_of_spared (by rw [State.stationReceive, if_pos h]) ?_
  rw [State.station_modStation_self]

/-! ## Bytes during work (log 26) -/

/-- The station with the first d records of its queue taken. -/
def Station.dropped (d : Nat) (x : Station) : Station := { x with staging := x.staging.drop d }

/-- The state over another memory and grant, with the first d records of the station's queue taken. -/
def State.ahead (s : State) (i l : StationId) (m : Mem) (d : Nat) : State :=
  ({ s with mem := m, lastGranted := l } : State).modStation i (Station.dropped d)

theorem State.modStation_congr {s : State} {i : StationId} {f g : Station → Station}
    (h : f (s.station i) = g (s.station i)) : s.modStation i f = s.modStation i g := by
  rw [State.modStation_eq, State.modStation_eq, h]

section Ahead
variable {s : State} (i l : StationId) (m : Mem) (d : Nat)

theorem State.ahead_station : (s.ahead i l m d).station i = (s.station i).dropped d := State.station_modStation_self _ _ _

/-- What goes past the records taken may come before or after them. -/
theorem State.ahead_modStation {f : Station → Station}
    (h : f ((s.station i).dropped d) = (f (s.station i)).dropped d) :
    (s.ahead i l m d).modStation i f = (s.modStation i f).ahead i l m d := by
  unfold State.ahead
  rw [State.modStation_modStation]
  refine (State.modStation_congr (s := { s with mem := m, lastGranted := l })
    (f := fun x => f (x.dropped d)) (g := fun x => (f x).dropped d) h).trans ?_
  exact (State.modStation_modStation { s with mem := m, lastGranted := l } i f _).symm

theorem Station.examine_drop {x : Station} (f : Frame) (hd : d ≤ x.staging.length)
    (h : d = 0 ∨ x.staging.length < 8) :
    (x.dropped d).examine f = (x.examine f).dropped d := by
  have hroom : (x.staging.drop d).length < 8 ↔ x.staging.length < 8 := by
    rw [List.length_drop]
    omega
  unfold Station.examine Station.dropped
  simp only [Station.answer_eq, hroom]
  repeat' split
  all_goals try rfl
  rw [List.drop_append_of_le_length hd]

theorem Station.examine_staging (f : Frame) (x : Station) : x.staging <+: (x.examine f).staging := by
  unfold Station.examine
  simp only [Station.answer_eq]
  repeat' split
  all_goals simp

/-- The receiver goes past records taken from the head of a queue that does not fill; a station whose intake state
it leaves loses nothing of its queue. -/
theorem State.stationReceive_ahead (k : Nat) (bytes : List Byte)
    (hi : ((State.stationReceive i k bytes s).station i).intake = (s.station i).intake) :
    (s.station i).staging <+: ((State.stationReceive i k bytes s).station i).staging ∧
      (d ≤ (s.station i).staging.length →
        (d = 0 ∨ ((State.stationReceive i k bytes s).station i).staging.length < 8) →
        State.stationReceive i k bytes (s.ahead i l m d) = (State.stationReceive i k bytes s).ahead i l m d) := by
  have hrx : ∀ rx (u : State), (u.station i).staging <+:
        ((u.modStation i fun x => { x with rx := rx }).station i).staging ∧
      (u.ahead i l m d).modStation i (fun x => { x with rx := rx }) =
        (u.modStation i fun x => { x with rx := rx }).ahead i l m d := fun rx u => by
    refine ⟨?_, State.ahead_modStation i l m d rfl⟩
    rw [State.station_modStation_self]
  induction k generalizing bytes s with
  | zero => exact ⟨(hrx bytes s).1, fun _ _ => (hrx bytes s).2⟩
  | succ k ih =>
    unfold State.stationReceive at hi ⊢
    rw [State.ahead_station, show ((s.station i).dropped d).intake = (s.station i).intake from rfl]
    by_cases hf : (s.station i).intake = .faulted
    · rw [if_pos hf, if_pos hf]
      exact ⟨(hrx [] s).1, fun _ _ => (hrx [] s).2⟩
    rw [if_neg hf] at hi
    rw [if_neg hf, if_neg hf]
    cases hr : receive bytes with
    | waiting kept => exact ⟨(hrx kept s).1, fun _ _ => (hrx kept s).2⟩
    | bad rest =>
      rw [hr] at hi
      dsimp only at hi ⊢
      by_cases hx : (s.station i).atFault
      · obtain ⟨rx, e⟩ := State.stationReceive_of_faulted (i := i) (s := s.badFrame i)
          (by rw [State.badFrame_of_fault hx, State.station_modStation_self]; rfl) k rest
        rw [e, State.station_modStation_self, State.badFrame_of_fault hx, State.station_modStation_self] at hi
        exact absurd hi.symm hf
      · have hb := State.badFrame_of_spared hx
        have hst : ((s.badFrame i).station i).intake = (s.station i).intake ∧
            ((s.badFrame i).station i).staging = (s.station i).staging := by
          rw [hb, State.station_modStation_self, Station.answer_eq]
          exact ⟨rfl, rfl⟩
        have ha : (s.ahead i l m d).badFrame i = (s.badFrame i).ahead i l m d := by
          rw [State.badFrame_of_spared (by rw [State.ahead_station]; exact hx), hb]
          exact State.ahead_modStation i l m d (by simp only [Station.answer_eq, Station.dropped])
        have h := ih (s := s.badFrame i) rest (hi.trans hst.1.symm)
        rw [hst.2] at h
        rw [ha]
        exact h
    | good f rest =>
      rw [hr] at hi
      dsimp only at hi ⊢
      have hst := State.goodFrame_station i f s
      have hin : ((s.goodFrame i f).station i).intake = (s.station i).intake := by
        rw [hst, Station.examine_intake]
        rfl
      have hlen : (s.station i).staging <+: ((s.goodFrame i f).station i).staging := by
        rw [hst]
        exact Station.examine_staging f (s.station i).cleared
      obtain ⟨h1, h2⟩ := ih (s := s.goodFrame i f) rest (hi.trans hin.symm)
      refine ⟨hlen.trans h1, fun hd h8 => ?_⟩
      have ha : (s.ahead i l m d).goodFrame i f = (s.goodFrame i f).ahead i l m d := by
        have hm := State.ahead_modStation (s := s) i l m d (f := fun x => x.cleared.examine f)
          (Station.examine_drop d (x := (s.station i).cleared) f hd
            (h8.imp_right fun h => Nat.lt_of_le_of_lt (hlen.trans h1).length_le h))
        exact congrArg (fun u : State => u.arm (Watch.linkOf i)) hm
      rw [ha]
      exact h2 (hd.trans hlen.length_le) h8

end Ahead

theorem State.upset_mem_congr {s t : State} (h : t.mem = s.mem) (us : List Upset) :
    (t.upset us).mem = (s.upset us).mem := by
  unfold State.upset
  induction us generalizing s t with
  | nil => exact h
  | cons u us ih =>
    simp only [List.foldl_cons]
    apply ih
    split
    · simp [h]
    · exact h

theorem State.upset_eq (us : List Upset) (s : State) : s.upset us = { s with mem := (s.upset us).mem } := by
  obtain ⟨_, e, -⟩ := State.upset_form us s
  rw [e]

end Sys2Proof.Machine
end

section
/-! PROOF. O19, settled. -/

namespace Sys2Proof.Machine

/-- Every record row carries its record out in one way, whatever state it finds and whatever arrives meanwhile. -/
theorem exec_recordForm (reads : List Nat) (us : List Upset) {i : StationId} {r : Frame}
    {x : (List Byte → Instr) × Byte} (hx : x ∈ recordForms reads us) (hk : r.kind = x.2) :
    ∃ us' w, ∀ (s : State) (rest : List Frame) (bytes : List Byte), s.Grants i r rest →
      exec (x.1 bytes) s = .next (((s.upset us').taken i rest).checked i r bytes w) := by
  simp only [recordForms, List.mem_cons, List.not_mem_nil, or_false] at hx
  rcases hx with rfl | rfl | rfl | rfl | rfl | rfl
  · exact ⟨[], _, fun s rest bytes h => exec_waferStart h hk bytes⟩
  · exact ⟨[], _, fun s rest bytes h => exec_waferEnd h hk bytes⟩
  · exact ⟨[], _, fun s rest bytes h => exec_tdOpen h hk bytes⟩
  · exact ⟨us, _, fun s rest bytes h => exec_tdResults h hk us bytes⟩
  · exact ⟨us, _, fun s rest bytes h => exec_tdClose h hk reads us bytes⟩
  · exact ⟨[], _, fun s rest bytes h => exec_tdAbort h hk bytes⟩

/-- The state that bytes leave at a station, with nothing in hand. -/
def State.afterBytes (i : StationId) (bytes : List Byte) (s : State) : State :=
  State.stationReceive i (((s.station i).rx ++ bytes).length + 1) ((s.station i).rx ++ bytes) s

/-- Bytes that do not fault the station leave it as its receiver does. -/
theorem State.afterBytes_of_exec {s u : State} {i : StationId} {bytes : List Byte} (hr : s.rst = false)
    (he : exec (.badFrame i bytes) s = .next u) (hi : (u.station i).intake = (s.station i).intake) :
    s.afterBytes i bytes = u := by
  rw [exec_badFrame i bytes hr] at he
  have he := Host.Outcome.next.inj he
  unfold State.receiving at he
  dsimp only at he
  split at he
  next h =>
    have hd := Station.downSide_eq_some (State.finishFault_downSide i (s.afterBytes i bytes) i) h.2
    rw [← he] at hi
    exact absurd (hi.symm.trans hd.1) h.1
  next => exact he

/-- The receiver leaves mem, grant, other stations, and the group and binding of its own. -/
theorem State.afterBytes_keeps (i : StationId) (bytes : List Byte) (s : State) :
    (s.afterBytes i bytes).mem = s.mem ∧ (s.afterBytes i bytes).lastGranted = s.lastGranted ∧
      (s.afterBytes i bytes).rst = s.rst ∧ (s.afterBytes i bytes).inProgress = s.inProgress ∧
      (∀ j, i ≠ j → (s.afterBytes i bytes).station j = s.station j) ∧
      (∀ j, ((s.afterBytes i bytes).station j).group = (s.station j).group) ∧
      ((s.afterBytes i bytes).station i).binding = (s.station i).binding ∧
      ((s.afterBytes i bytes).station i).priority = (s.station i).priority := by
  obtain ⟨st, tr, h⟩ := State.stationReceive_form i (((s.station i).rx ++ bytes).length + 1)
    ((s.station i).rx ++ bytes) s
  obtain ⟨f, hrun, hk⟩ := State.stationReceive_run (D := [.link, .engine]) (by decide) (by decide) i (h := .idle) (.inl rfl)
    (((s.station i).rx ++ bytes).length + 1) ((s.station i).rx ++ bytes) s
  have ho := (State.stationReceive_onlyAt i (((s.station i).rx ++ bytes).length + 1) ((s.station i).rx ++ bytes) s).other
  have hp := hrun.keeps (P := fun _ u => (u.station i).priority = (s.station i).priority)
    (fun d hd g u g' v m hu => by
      refine Eq.trans ?_ hu
      exact congrArg Prod.fst (m.station_settings (by rintro rfl; simp at hd) (by rintro rfl; simp at hd) i)) rfl
  have hfields : (s.afterBytes i bytes).mem = s.mem ∧ (s.afterBytes i bytes).lastGranted = s.lastGranted ∧
      (s.afterBytes i bytes).rst = s.rst ∧ (s.afterBytes i bytes).inProgress = s.inProgress := by
    unfold State.afterBytes
    rw [h]
    exact ⟨rfl, rfl, rfl, rfl⟩
  obtain ⟨e1, e2, e3, e4⟩ := hfields
  refine ⟨e1, e2, e3, e4, ho, fun j => ?_, hk.binding, hp⟩
  by_cases hj : i = j
  · subst hj
    exact hk.group
  · exact congrArg Station.group (ho j hj)


theorem State.grant_of_waits {s t : State} (hw : ∀ j, (t.station j).waits = (s.station j).waits)
    (hp : ∀ j, (t.station j).priority = (s.station j).priority) (hl : t.lastGranted = s.lastGranted) :
    t.grant = s.grant := by
  have hc : t.candidate = s.candidate := by
    funext j
    simp only [State.candidate, hw, hp]
  rw [State.grant, State.grant, hc, hl]

theorem State.dueExpiry_of_groups {s t : State} (h : ∀ j, (t.station j).group = (s.station j).group) :
    t.dueExpiry = s.dueExpiry := by
  simp only [State.dueExpiry, Station.expired, h]

theorem State.afterBytes_ahead {s : State} {i : StationId} (bytes : List Byte) (l : StationId) (m : Mem) {d : Nat}
    (hi : ((s.afterBytes i bytes).station i).intake = (s.station i).intake) (hd : d ≤ (s.station i).staging.length)
    (h8 : d = 0 ∨ ((s.afterBytes i bytes).station i).staging.length < 8) :
    (s.ahead i l m d).afterBytes i bytes = (s.afterBytes i bytes).ahead i l m d := by
  have h := (State.stationReceive_ahead i l m d _ _ hi).2 hd h8
  unfold State.afterBytes
  rw [State.ahead_station]
  exact h

/-- The state in which a granted record is carried out, as the state ahead of it. -/
theorem State.taken_eq_ahead {s : State} {i : StationId} {r : Frame} {rest : List Frame}
    (h : (s.station i).staging = r :: rest) (us : List Upset) :
    (s.upset us).taken i rest = s.ahead i i (s.upset us).mem 1 := by
  rw [State.upset_eq]
  unfold State.ahead State.taken State.granted
  rw [State.modStation_eq]
  have hst : ({ s with mem := (s.upset us).mem, lastGranted := i } : State).station i = s.station i := rfl
  rw [hst, Station.dropped, h]
  rfl

theorem State.upset_eq_ahead (s : State) (i : StationId) (us : List Upset) :
    s.upset us = s.ahead i s.lastGranted (s.upset us).mem 0 := by
  unfold State.ahead
  rw [State.modStation_self (by rfl)]
  exact State.upset_eq us s

/-- Bytes that neither fault the station nor fill its queue act before the record that is carried out meanwhile. -/
theorem exec_record_after {s u : State} {i : StationId} {bytes : List Byte} {reads : List Nat} {us : List Upset}
    (hn : bytes ≠ []) (he : exec (.badFrame i bytes) s = .next u) (hi : (u.station i).intake = (s.station i).intake)
    {r : Frame} {rest : List Frame} (h : s.Grants i r rest) (h8 : (u.station i).staging.length < 8)
    (h14 : (u.station i).transmit.length < 14) {x : (List Byte → Instr) × Byte} (hx : x ∈ recordForms reads us)
    (hk : r.kind = x.2) : exec (x.1 bytes) s = exec (x.1 []) u := by
  obtain ⟨us', w, hw⟩ := exec_recordForm reads us hx hk
  obtain ⟨hr, hres, hdue, hgrant, hq⟩ := h
  obtain rfl := State.afterBytes_of_exec hr he hi
  obtain ⟨kmem, klast, krst, kprog, kother, kgroup, -, kprio⟩ := State.afterBytes_keeps i bytes s
  have hgrow : (s.station i).staging <+: ((s.afterBytes i bytes).station i).staging :=
    (State.stationReceive_ahead (s := s) i i s.mem 0 _ _ hi).1
  obtain ⟨tail, ht⟩ := hgrow
  have hq' : ((s.afterBytes i bytes).station i).staging = r :: (rest ++ tail) := by
    rw [← ht, hq]
    rfl
  have hwaits : ∀ j, ((s.afterBytes i bytes).station j).waits = (s.station j).waits := fun j => by
    by_cases hj : i = j
    · subst hj
      rw [State.grant_waits hgrant]
      simp [Station.waits, hq', h14]
    · rw [kother j hj]
  have hprio : ∀ j, ((s.afterBytes i bytes).station j).priority = (s.station j).priority := fun j => by
    by_cases hj : i = j
    · subst hj
      exact kprio
    · rw [kother j hj]
  have hgrants : (s.afterBytes i bytes).Grants i r (rest ++ tail) := by
    refine ⟨krst.trans hr, ?_, fun j => by rw [kgroup]; exact hdue j, ?_, hq'⟩
    · rw [← hres]
      unfold State.restarting
      rw [kprog]
    · rw [State.grant_of_waits hwaits hprio klast, hgrant]
  have hst : ((s.upset us').taken i rest).station i = (s.station i).dropped 1 := by
    rw [State.taken_eq_ahead hq, State.ahead_station]
  have hafter : ((s.upset us').taken i rest).afterBytes i bytes =
      ((s.afterBytes i bytes).upset us').taken i (rest ++ tail) := by
    rw [State.taken_eq_ahead hq, State.taken_eq_ahead hq', State.upset_mem_congr kmem]
    exact State.afterBytes_ahead bytes i _ hi (by rw [hq]; simp) (.inr h8)
  have hst' : (((s.afterBytes i bytes).upset us').taken i (rest ++ tail)).station i =
      ((s.afterBytes i bytes).station i).dropped 1 := by
    rw [State.taken_eq_ahead hq', State.ahead_station]
  have hsame : ((((s.afterBytes i bytes).upset us').taken i (rest ++ tail)).station i).intake =
      (((s.upset us').taken i rest).station i).intake := by
    rw [hst, hst']
    exact hi
  rw [hw s rest bytes ⟨hr, hres, hdue, hgrant, hq⟩, hw _ _ [] hgrants, State.checked_eq, State.checked_eq,
    State.during_of_ne_nil hn, State.during_nil, State.receiving_of_spared hafter hsame, hsame]

/-- The work of GROUP_EXPIRY for a station (R72). -/
def expiryWork (reads : List Nat) (i : StationId) (x : Station) : State → State :=
  match x.binding, x.group with
  | some b, some g => State.expire i b g reads
  | _, _ => State.endGroup i

theorem expiryWork_congr {reads : List Nat} {i : StationId} {x y : Station} (hb : y.binding = x.binding)
    (hg : y.group = x.group) : expiryWork reads i y = expiryWork reads i x := by
  unfold expiryWork
  rw [hb, hg]

/-- So do bytes that arrive during an expiry. -/
theorem exec_expiry_after {s u : State} {i : StationId} {bytes : List Byte} (reads : List Nat) (us : List Upset)
    (hn : bytes ≠ []) (he : exec (.badFrame i bytes) s = .next u) (hi : (u.station i).intake = (s.station i).intake)
    (hr : s.rst = false) (hd : s.dueExpiry = some i) :
    exec (.groupExpiry reads us bytes) s = exec (.groupExpiry reads us) u := by
  obtain rfl := State.afterBytes_of_exec hr he hi
  obtain ⟨kmem, klast, krst, -, -, kgroup, kbind, -⟩ := State.afterBytes_keeps i bytes s
  have hup : ∀ v : State, (v.upset us).dueExpiry = v.dueExpiry := fun v => by
    rw [State.upset_eq]
    rfl
  have hst : ∀ v : State, (v.upset us).station i = v.station i := fun v => by
    rw [State.upset_eq]
    rfl
  have hafter : (s.upset us).afterBytes i bytes = (s.afterBytes i bytes).upset us := by
    rw [State.upset_eq_ahead s i us, State.upset_eq_ahead (s.afterBytes i bytes) i us, State.upset_mem_congr kmem, klast]
    exact State.afterBytes_ahead bytes _ _ hi (Nat.zero_le _) (.inl rfl)
  have hexec : ∀ (v : State) (bs : List Byte), v.rst = false → v.dueExpiry = some i →
      exec (.groupExpiry reads us bs) v = .next ((v.upset us).during i bs (expiryWork reads i (v.station i))) :=
    fun v bs hv hdv => by
      refine congrArg _ ((if_neg (by simp [hv])).trans ?_)
      dsimp only
      rw [hup, hdv]
      show (v.upset us).during i bs (expiryWork reads i ((v.upset us).station i)) = _
      rw [hst]
  rw [hexec s bytes hr hd, hexec _ [] (krst.trans hr) ((State.dueExpiry_of_groups kgroup).trans hd),
    State.during_of_ne_nil hn, State.during_nil, State.receiving_of_spared hafter (by rw [hst, hst]; exact hi),
    expiryWork_congr kbind (kgroup i)]

/-- Settles O19: the good frame's examination, FAULTED, and bytes during work. -/
theorem stationFramesAreExamined : Obligations.StationFramesAreExamined := by
  refine ⟨fun s i kind tag payload hr hf hx hl => ?_, fun s i hr hf => ?_,
    fun s u i bytes reads us hn he hi => ⟨fun r rest h h8 h14 x hx hk => exec_record_after hn he hi h h8 h14 hx hk,
      fun hr hd => exec_expiry_after reads us hn he hi hr hd⟩⟩
  · have hframe := exec_stationFrame ⟨kind, tag, payload⟩ hr hf hx hl
    have hans := fun y h => hframe.trans (congrArg _ (State.goodFrame_of_answer (y := y) h))
    refine ⟨fun hk => ?_, fun hk => ?_, fun hk hp => ?_, ?_, fun hk hne => ⟨fun hin => ?_, fun h1 h2 =>
      ⟨fun h8 => ?_, fun h8 => ?_⟩⟩⟩
    · exact hans _ (Station.examine_of_none (recordFits_of_unknown hk payload))
    · exact hans _ (Station.examine_of_false hk)
    · refine hans _ ((Station.examine_of_true (f := ⟨kind, tag, payload⟩) ?_).trans (if_pos hk))
      rw [hk, hp]
      rfl
    · refine (congrArg _ ((if_neg (by simp [hr])).trans
        (State.receiving_good (f := ⟨Code.linkCheck, tag, []⟩) id hf hx (Nat.zero_le _)))).trans
        (congrArg _ (State.goodFrame_of_answer ?_))
      exact (Station.examine_of_true rfl).trans (if_pos rfl)
    · exact hans _ ((Station.examine_of_true hk).trans ((if_neg hne).trans (if_pos hin)))
    · have hroom : (s.station i).cleared.staging.length < 8 := h8
      refine hframe.trans (congrArg _ ?_)
      rw [State.goodFrame_eq, Station.examine_of_true hk, if_neg hne, if_neg (by rintro (h | h); exacts [h1 h, h2 h]),
        if_pos hroom]
      rfl
    · exact hans _ ((Station.examine_of_true hk).trans ((if_neg hne).trans
        ((if_neg (by rintro (h | h); exacts [h1 h, h2 h])).trans (if_neg (Nat.not_lt.2 h8)))))
  · have hany : ∀ bytes, Host.Outcome.next (φ := Fault) (ρ := Refusal) (s.stationBytes i bytes) =
        .next { s with stations := s.stations.set i { s.station i with rx := [] } } := fun bytes =>
      congrArg _ ((if_neg (by simp [hr])).trans (State.receiving_faulted bytes id hf))
    exact ⟨hany, fun _ _ _ => hany _, fun _ => hany _⟩

end Sys2Proof.Machine
end

section
/-! PROOF. The Intake Arbiter and the records of the stations: O20 to O25. -/

namespace Sys2Proof.Machine

/-! ## O20 -/

theorem portTurn_search (last : StationId) (k : Fin 8) : portTurn last (last + 1 + k) = k.val := by
  unfold portTurn
  simp only [Fin.val_add]
  have := k.isLt
  have := last.isLt
  have h1 : ((1 : StationId) : Nat) = 1 := rfl
  omega

/-- The search meets every port, in the order of its turn. -/
theorem search_portTurn (last i : StationId) : last + 1 + Fin.ofNat 8 (portTurn last i) = i := by
  apply Fin.ext
  unfold portTurn
  simp only [Fin.val_add, Fin.val_ofNat]
  have := i.isLt
  have := last.isLt
  have h1 : ((1 : StationId) : Nat) = 1 := rfl
  omega

theorem State.candidate_iff {s : State} {i : StationId} : s.candidate i = true ↔
    (s.station i).waits = true ∧
      ∀ j, (s.station j).waits = true → (s.station i).priority ≤ (s.station j).priority := by
  unfold State.candidate
  simp only [Bool.and_eq_true, List.all_eq_true, List.mem_finRange, forall_const, Bool.or_eq_true,
    Bool.not_eq_true', decide_eq_true_eq]
  refine and_congr_right fun _ => forall_congr' fun j => ?_
  cases (s.station j).waits <;> simp

theorem State.grant_eq_some {s : State} {i : StationId} : s.grant = some i ↔
    s.candidate i = true ∧ ∀ j, s.candidate j = true → portTurn s.lastGranted i ≤ portTurn s.lastGranted j := by
  have hget : ∀ (k : Nat) (h : k < (searchOrder s.lastGranted).length),
      (searchOrder s.lastGranted)[k] = s.lastGranted + 1 + Fin.ofNat 8 k := fun k h => by
    have hk : k < 8 := by simpa [searchOrder] using h
    simp only [searchOrder, List.getElem_map, List.getElem_finRange]
    congr 1
    exact Fin.ext (by simp [Nat.mod_eq_of_lt hk])
  have hlen : (searchOrder s.lastGranted).length = 8 := by simp [searchOrder]
  have hlt : ∀ j, portTurn s.lastGranted j < 8 := fun j => Nat.mod_lt _ (by decide)
  unfold State.grant
  rw [List.find?_eq_some_iff_getElem]
  refine and_congr_right fun hc => ⟨?_, fun h => ?_⟩
  · rintro ⟨k, hk, hi, hbefore⟩ j hj
    have hk8 : k < 8 := hlen ▸ hk
    have hki : portTurn s.lastGranted i = k := by
      rw [← hi, hget k hk, portTurn_search]
      exact Nat.mod_eq_of_lt hk8
    by_contra hlt'
    have hb := hbefore (portTurn s.lastGranted j) (by omega)
    rw [hget, search_portTurn, hj] at hb
    cases hb
  · refine ⟨portTurn s.lastGranted i, by rw [hlen]; exact hlt i, ?_, fun k hk => ?_⟩
    · rw [hget, search_portTurn]
    · rw [hget]
      cases hck : s.candidate (s.lastGranted + 1 + Fin.ofNat 8 k) with
      | false => rfl
      | true =>
        have := h _ hck
        rw [portTurn_search, Fin.val_ofNat, Nat.mod_eq_of_lt (hk.trans (hlt i))] at this
        omega

theorem State.grant_eq_none {s : State} : s.grant = none ↔ ∀ i, (s.station i).waits = false := by
  constructor
  · intro h i
    by_contra hi
    have hw : (s.station i).waits = true := by simpa using hi
    obtain ⟨m, hm, hmin⟩ := Finset.exists_min_image
      (Finset.univ.filter fun j : StationId => (s.station j).waits = true) (fun j => (s.station j).priority)
      ⟨i, by simpa using hw⟩
    have hc : s.candidate m = true := State.candidate_iff.2
      ⟨by simpa using hm, fun j hj => hmin j (by simpa using hj)⟩
    have hmem : m ∈ searchOrder s.lastGranted := by
      rw [← search_portTurn s.lastGranted m]
      exact List.mem_map_of_mem (List.mem_finRange _)
    exact List.find?_eq_none.1 h m hmem hc
  · intro h
    refine List.find?_eq_none.2 fun i _ hi => ?_
    have := (State.candidate_iff.1 hi).1
    rw [h i] at this
    cases this

/-- Settles O20: the candidates are the waiting queues of the lowest priority code, and the search takes the first. -/
theorem grantIsLowestPriorityThenNextPort : Obligations.GrantIsLowestPriorityThenNextPort := by
  intro s
  refine ⟨fun i => ?_, State.grant_eq_none, fun i => ?_⟩
  · rw [State.grant_eq_some]
    simp only [State.candidate_iff]
    constructor
    · rintro ⟨⟨hw, hp⟩, hfirst⟩
      refine ⟨hw, fun j hj => ?_⟩
      rcases Nat.lt_or_eq_of_le (hp j hj) with h | h
      · exact .inl h
      · exact .inr ⟨h, hfirst j ⟨hj, fun k hk => h ▸ hp k hk⟩⟩
    · rintro ⟨hw, h⟩
      refine ⟨⟨hw, fun j hj => ?_⟩, fun j ⟨hj, hpj⟩ => ?_⟩
      · rcases h j hj with hlt | ⟨heq, -⟩
        · exact Nat.le_of_lt hlt
        · exact Nat.le_of_eq heq
      · rcases h j hj with hlt | ⟨-, hle⟩
        · exact absurd (hpj i hw) (Nat.not_le.2 hlt)
        · exact hle
  · simp [Station.waits]

/-! ## O21 -/

/-- The refusal of a granted record, at a station that is not FAULTED. -/
theorem State.taken_deliver {s : State} {i : StationId} (rest : List Frame) (y : StationReply)
    (h : (s.station i).intake ≠ .faulted) :
    (s.taken i rest).deliver i y = s.granted i ((s.station i).replies rest y) := by
  unfold State.deliver
  rw [State.modStation_eq, State.taken_station, Station.deliver, if_neg h]
  simp [State.taken, State.granted, Station.push, Station.replies]

theorem State.checked_nil (i : StationId) (r : Frame) (w : State → State) (s : State) :
    s.checked i r [] w = checkedWork i r (s.station i).intake w s := rfl

theorem checkedWork_of_some {i : StationId} {r : Frame} {x : Intake} {why : Reason} (h : stateCheck r.kind x = some why)
    (w : State → State) (s : State) : checkedWork i r x w s = s.refuse i r.tag why := by
  unfold checkedWork
  rw [h]

theorem checkedWork_of_none {i : StationId} {r : Frame} {x : Intake} (h : stateCheck r.kind x = none)
    (w : State → State) : checkedWork i r x w = w := by
  unfold checkedWork
  rw [h]

/-- A record that the state check refuses is answered, and has no other effect (R43). -/
theorem exec_record_refused {s : State} {i : StationId} {r : Frame} {rest : List Frame} (h : s.Grants i r rest)
    {x : Instr × Byte} (hx : x ∈ recordRows) (hk : r.kind = x.2) {why : Reason}
    (hc : stateCheck r.kind (s.station i).intake = some why) (hf : (s.station i).intake ≠ .faulted) :
    exec x.1 s = .next (s.granted i ((s.station i).replies rest ⟨r.tag, .refuse, some why, none, none⟩)) := by
  obtain ⟨u, hu, w, -, he⟩ := exec_record h [] [] [] hx hk
  obtain rfl : u = s := by
    rcases hu with e | e <;> exact e
  rw [he, State.checked_nil, State.taken_station, checkedWork_of_some hc, State.refuse, State.taken_deliver rest _ hf]
  rfl

section Awake
variable {s : State} {i : StationId} {r : Frame} {rest : List Frame} (h : s.Grants i r rest)
  (hi : (s.station i).intake = .running ∨ (s.station i).intake = .stopping ∨ (s.station i).intake = .halted)
include hi

theorem Station.not_faulted_of_awake : (s.station i).intake ≠ .faulted := by
  rcases hi with e | e | e <;> simp [e]

/-- A record that needs a group passes the state check of a station that is awake. -/
theorem State.checked_of_awake (hk : r.kind ≠ 0x41) (hk' : r.kind ≠ 0x43) (w : State → State) :
    (s.taken i rest).checked i r [] w = w (s.taken i rest) := by
  rw [State.checked_nil, State.taken_station, checkedWork_of_none (stateCheck_of_group hk hk' hi)]

include h

/-- TD_RESULTS, TD_CLOSE and TD_ABORT that pass the state check go on to the group. -/
theorem exec_groupRecord {x : Instr × Byte}
    (hx : x ∈ [(Instr.tdResults [], (0x44 : Byte)), (.tdClose [] [], 0x45), (.tdAbort, 0x46)]) (hk : r.kind = x.2) :
    ∃ go, exec x.1 s = .next ((s.taken i rest).withGroup i r go) := by
  simp only [List.mem_cons, List.not_mem_nil, or_false] at hx
  rcases hx with rfl | rfl | rfl
  · rw [exec_tdResults h hk [] [], show s.upset [] = s from rfl,
      State.checked_of_awake hi (by rw [hk]; decide) (by rw [hk]; decide)]
    exact ⟨_, rfl⟩
  · rw [exec_tdClose h hk [] [] [], show s.upset [] = s from rfl,
      State.checked_of_awake hi (by rw [hk]; decide) (by rw [hk]; decide)]
    exact ⟨_, rfl⟩
  · rw [exec_tdAbort h hk [], State.checked_of_awake hi (by rw [hk]; decide) (by rw [hk]; decide)]
    exact ⟨_, rfl⟩

end Awake

theorem State.withGroup_of_none {s : State} {i : StationId} {r : Frame} {go : Group → State → State}
    (h : (s.station i).group = none) : s.withGroup i r go = s.refuse i r.tag .noGroup := by
  unfold State.withGroup
  rw [h]

theorem State.withGroup_of_wrong {s : State} {i : StationId} {r : Frame} {go : Group → State → State} {g : Group}
    (h : (s.station i).group = some g) (ht : g.touchdown ≠ u16 r.payload 0) :
    s.withGroup i r go = s.refuse i r.tag .wrongTouchdown := by
  unfold State.withGroup
  rw [h]
  exact if_neg ht

/-- Settles O21: the state check first, and then the group that the record needs. -/
theorem recordsAreRefusedInOrder : Obligations.RecordsAreRefusedInOrder := by
  refine ⟨fun s i r rest h x hx hk => ⟨fun hi => ?_, fun hi h43 => ?_⟩, fun s i r rest h hi x hx hk =>
    ⟨fun hg => ?_, fun g hg ht => ?_⟩⟩
  · refine exec_record_refused h hx hk ?_ ?_
    · rcases hi with e | e | ⟨e, hk'⟩
      · rw [e]; rfl
      · rw [e]; rfl
      · rw [e]
        exact if_pos hk'
    · rcases hi with e | e | ⟨e, -⟩ <;> simp [e]
  · refine exec_record_refused h hx hk ?_ (by simp [hi])
    rw [hi]
    exact if_pos h43
  · obtain ⟨go, he⟩ := exec_groupRecord h hi hx hk
    rw [he, State.withGroup_of_none (by rw [State.taken_station]; exact hg), State.refuse,
      State.taken_deliver rest _ (Station.not_faulted_of_awake hi)]
    rfl
  · obtain ⟨go, he⟩ := exec_groupRecord h hi hx hk
    rw [he, State.withGroup_of_wrong (by rw [State.taken_station]; exact hg) ht, State.refuse,
      State.taken_deliver rest _ (Station.not_faulted_of_awake hi)]
    rfl


/-! ## O22 -/

theorem State.taken_refuse {s : State} {i : StationId} (rest : List Frame) (tag : Byte) (why : Reason)
    (h : (s.station i).intake ≠ .faulted) : (s.taken i rest).refuse i tag why =
      s.granted i ((s.station i).replies rest ⟨tag, .refuse, some why, none, none⟩) := State.taken_deliver rest _ h

/-- A REPLY behind a change of the station that leaves intake state, queue and transmit list. -/
theorem State.taken_mod_deliver {s : State} {i : StationId} (rest : List Frame) (y : StationReply) {f : Station → Station}
    (h : (f { s.station i with staging := rest }).intake ≠ .faulted) :
    ((s.taken i rest).modStation i f).deliver i y =
      s.granted i ((f { s.station i with staging := rest }).push (.reply y)) := by
  unfold State.deliver
  rw [State.modStation_modStation, State.modStation_eq, State.taken_station, Station.deliver, if_neg h]
  simp [State.taken, State.granted]

/-- WAFER_START's search, where the wafer stands in no slot that can be bound (R55 step 3). -/
theorem State.findWafer_eq_none {s : State} {states : List WaferState} {id : LotId} {number : Nat}
    (h : ∀ n w, s.slot n = some w → w.lot = id → w.number = number → w.state ∉ states) :
    s.findWafer states id number = none := by
  cases hf : s.findWafer states id number with
  | none => rfl
  | some n =>
    obtain ⟨w, hw, hs, hl, hn⟩ := State.findWafer_spec hf
    exact absurd hs (h n w hw hl hn)

/-- The search finds the slot of a wafer that stands in one slot alone. -/
theorem State.findWafer_eq_some {s : State} {states : List WaferState} {id : LotId} {number : Nat} {n : SlotId}
    {w : Wafer} (hw : s.slot n = some w) (hl : w.lot = id) (hn : w.number = number) (hs : w.state ∈ states)
    (hu : ∀ m v, s.slot m = some v → v.lot = id → v.number = number → m = n) :
    s.findWafer states id number = some n := by
  cases hf : s.findWafer states id number with
  | none =>
    have := List.find?_eq_none.1 hf n (List.mem_finRange n)
    simp [hw, hl, hn, hs] at this
  | some m =>
    obtain ⟨v, hv, -, hvl, hvn⟩ := State.findWafer_spec hf
    rw [hu m v hv hvl hvn]


section WaferStart
variable {s : State} {i : StationId} {r : Frame}

theorem State.waferStart_of_badField (h : lotIdField r.payload 0 = none ∨ u8 r.payload 13 = 0 ∨
    50 < u8 r.payload 13 ∨ 3 < u8 r.payload 14) : s.waferStart i r = s.refuse i r.tag .badField := by
  unfold State.waferStart
  split
  next id q hid hq =>
    have hq := inRange_eq_some.1 hq
    refine if_pos ?_
    rcases h with h | h | h | h
    · rw [h] at hid
      cases hid
    · exact .inl h
    · exact .inr h
    · omega
  next => rfl

theorem State.waferStart_of_fields {id : LotId} {q : Fin 4} (hid : lotIdField r.payload 0 = some id)
    (h1 : 1 ≤ u8 r.payload 13) (h50 : u8 r.payload 13 ≤ 50) (hq : u8 r.payload 14 = q.val) :
    s.waferStart i r =
      if (s.station i).binding.isSome then s.refuse i r.tag .stationBound
      else
        match s.findWafer [.opening, .opened, .closing] id (u8 r.payload 13) with
        | none => s.refuse i r.tag .unknownWafer
        | some n =>
          if s.slotIs n .opening then s.deliver i (.wait r.tag)
          else if s.slotIs n .closing then s.refuse i r.tag .waferClosing
          else if (s.boundStation n).isSome then s.refuse i r.tag .waferBusy
          else
            (s.modStation i fun x => { x with binding := some ⟨n, q⟩ }).deliver i
              { StationReply.accept r.tag with boundSlot := some n } := by
  unfold State.waferStart
  rw [hid, inRange_of_eq hq]
  exact if_neg (by omega)

end WaferStart

/-- What is taken from a queue is no part of a binding. -/
theorem State.taken_boundStation (s : State) (i : StationId) (rest : List Frame) (n : SlotId) :
    (s.taken i rest).boundStation n = s.boundStation n := by
  refine State.boundStation_congr (fun j => ?_) n
  by_cases hj : i = j
  · subst hj
    rw [State.taken_station]
    rfl
  · have : i.val ≠ j.val := fun e => hj (Fin.ext e)
    simp [State.taken, State.granted, State.station, this]

/-- Settles O22: WAFER_START check by check, then WAFER_END. -/
theorem waferStartAndEndBind : Obligations.WaferStartAndEndBind := by
  refine ⟨fun s i r rest h hk hi => ?_, fun s i r rest h hk hi => ?_⟩
  · have hf : (s.station i).intake ≠ .faulted := by rcases hi with e | e <;> simp [e]
    have hc : stateCheck r.kind (s.station i).intake = none := by
      rw [hk]
      rcases hi with e | e <;> rw [e] <;> rfl
    have hexec : exec .waferStart s = .next ((s.taken i rest).waferStart i r) := by
      rw [exec_waferStart h hk [], State.checked_nil, State.taken_station, checkedWork_of_none hc]
    have hrefuse := fun why => State.taken_refuse rest r.tag why hf
    have hst := State.taken_station s i rest
    refine ⟨fun hb => by rw [hexec, State.waferStart_of_badField hb, hrefuse], fun id q hid h1 h50 hq =>
      ⟨fun hb => ?_, fun hb => ⟨fun hn => ?_, fun n w hw hl hnum hu => ?_⟩⟩⟩
    · rw [hexec, State.waferStart_of_fields hid h1 h50 hq, hst, if_pos (Option.isSome_iff_ne_none.2 hb), hrefuse]
    · have hfind : (s.taken i rest).findWafer [.opening, .opened, .closing] id (u8 r.payload 13) = none :=
        State.findWafer_eq_none (s := s.taken i rest) fun n w hw hl hnum => by
          rcases hn n w hw hl hnum with e | e <;> simp [e]
      rw [hexec, State.waferStart_of_fields hid h1 h50 hq, hst, if_neg (by simp [hb]), hfind, hrefuse]
    · have hfind := fun hs => State.findWafer_eq_some (s := s.taken i rest)
        (states := [.opening, .opened, .closing]) hw hl hnum hs hu
      have hslot : ∀ x, (s.taken i rest).slotIs n x = decide (w.state = x) := fun x => by
        have : (s.taken i rest).slot n = some w := hw
        simp [State.slotIs, this]
      have hgo := fun hs => hexec.trans (congrArg _ ((State.waferStart_of_fields hid h1 h50 hq).trans
        ((if_neg (by rw [hst]; simp [hb])).trans (by rw [hfind hs]))))
      refine ⟨fun hs => ?_, fun hs => ?_, fun hs hbd => ?_, fun hs hbd => ?_⟩
      · rw [hgo (by simp [hs])]
        dsimp only
        rw [hslot, hs, if_pos (by decide), State.taken_deliver rest _ hf]
        rfl
      · rw [hgo (by simp [hs])]
        dsimp only
        rw [hslot, hslot, hs, if_neg (by decide), if_pos (by decide), hrefuse]
      · rw [hgo (by simp [hs])]
        dsimp only
        rw [hslot, hslot, hs, if_neg (by decide), if_neg (by decide), State.taken_boundStation,
          if_pos (Option.isSome_iff_ne_none.2 hbd), hrefuse]
      · rw [hgo (by simp [hs])]
        dsimp only
        rw [hslot, hslot, hs, if_neg (by decide), if_neg (by decide), State.taken_boundStation,
          if_neg (by simp [hbd]), State.taken_mod_deliver rest _ hf]
        rfl
  · have hf := Station.not_faulted_of_awake hi
    have hc : stateCheck r.kind (s.station i).intake = none := by
      rw [hk]
      rcases hi with e | e | e <;> rw [e] <;> rfl
    have hexec : exec .waferEnd s = .next ((s.taken i rest).waferEnd i r) := by
      rw [exec_waferEnd h hk [], State.checked_nil, State.taken_station, checkedWork_of_none hc]
    have hrefuse := fun why => State.taken_refuse rest r.tag why hf
    have hst := State.taken_station s i rest
    unfold State.waferEnd at hexec
    rw [hst] at hexec
    refine ⟨fun hb => ?_, fun hb hg => ?_, fun hb hg => ?_⟩
    · rw [hexec, if_pos hb, hrefuse]
    · rw [hexec, if_neg hb, if_pos (Option.isSome_iff_ne_none.2 hg), hrefuse]
    · rw [hexec, if_neg hb, if_neg (by simp [hg]), State.unbind, State.taken_mod_deliver rest _ hf]
      rfl

end Sys2Proof.Machine
end

section
/-! PROOF. O28, settled: the end of a group and the close of a wafer as one state each. -/

namespace Sys2Proof.Machine

/-! ## A close in its parts -/

/-- Adding a cause goes past every change of the state that neither reads nor writes the set and the ready list. -/
theorem State.addCause_comm {f : State → State} (hc : ∀ u, (f u).causes = u.causes) (hr : ∀ u, (f u).ready = u.ready)
    (hf : ∀ u cs r, f { u with causes := cs, ready := r } = { f u with causes := cs, ready := r }) (c : Cause)
    (s : State) : (f s).addCause c = f (s.addCause c) := by
  unfold State.addCause State.noticeWaits
  rw [hc, hr]
  split
  · rfl
  · exact (hf s _ _).symm

/-- The wafer joins its lot (R21 step 3). -/
def State.joinLot (w : Wafer) (s : State) : State :=
  match s.findLot w.lot with
  | none => s
  | some e => s.modLot e (Lot.join w.number w.totals)

/-- WAFER_CLOSED, where the close was deferred (R21 step 5). -/
def State.reportClose (deferred : Bool) (s : State) : State := if deferred then s.addCause .waferClosed else s

/-- The steps of a close behind the drop of the binding (R21 steps 2 to 6). -/
def State.books (n : SlotId) (w : Wafer) (deferred : Bool) (s : State) : State :=
  (((s.joinLot w).setSlot n (some w.closed)).reportClose deferred).releaseActive w.lot

theorem State.completeClose_eq_books {s : State} {n : SlotId} {w : Wafer} (hw : s.slot n = some w) (d : Bool) :
    s.completeClose n d = (s.unbindSlot n).books n w d := by
  unfold State.completeClose
  rw [hw]
  rfl

/-- The state with other stations. -/
def State.withStations (v : Vector Station 8) (s : State) : State := { s with stations := v }

theorem State.addCause_withStations (c : Cause) (v : Vector Station 8) (s : State) :
    (s.withStations v).addCause c = (s.addCause c).withStations v :=
  State.addCause_comm (f := State.withStations v) (fun _ => rfl) (fun _ => rfl) (fun _ _ _ => rfl) c s

theorem State.releaseActive_withStations (id : LotId) (v : Vector Station 8) (s : State) :
    (s.withStations v).releaseActive id = (s.releaseActive id).withStations v := by
  unfold State.releaseActive
  rw [show (s.withStations v).findLot id = s.findLot id from rfl]
  cases s.findLot id with
  | none => rfl
  | some e =>
    dsimp only
    rw [show (s.withStations v).lots[e] = s.lots[e] from rfl]
    cases s.lots[e] with
    | none => rfl
    | some l =>
      dsimp only
      split
      · exact State.addCause_withStations _ v (s.setLot e _)
      · rfl

theorem State.joinLot_withStations (w : Wafer) (v : Vector Station 8) (s : State) :
    (s.withStations v).joinLot w = (s.joinLot w).withStations v := by
  unfold State.joinLot
  rw [show (s.withStations v).findLot w.lot = s.findLot w.lot from rfl]
  cases s.findLot w.lot <;> rfl

theorem State.reportClose_withStations (d : Bool) (v : Vector Station 8) (s : State) :
    (s.withStations v).reportClose d = (s.reportClose d).withStations v := by
  cases d with
  | false => rfl
  | true => exact State.addCause_withStations _ v s

/-- What a close does to lot, slot and causes does not look at the stations. -/
theorem State.books_withStations (n : SlotId) (w : Wafer) (d : Bool) (v : Vector Station 8) (s : State) :
    (s.withStations v).books n w d = (s.books n w d).withStations v := by
  unfold State.books
  rw [State.joinLot_withStations, ← State.releaseActive_withStations, ← State.reportClose_withStations]
  rfl

theorem State.books_stations (n : SlotId) (w : Wafer) (d : Bool) (s : State) : (s.books n w d).stations = s.stations :=
  (congrArg State.stations (State.books_withStations n w d s.stations s)).trans rfl

theorem State.modStation_books (n : SlotId) (w : Wafer) (d : Bool) (i : StationId) (f : Station → Station) (s : State) :
    (s.books n w d).modStation i f = (s.modStation i f).books n w d := by
  have hs := State.books_stations n w d s
  refine Eq.trans ?_ (State.books_withStations n w d (s.stations.set i (f (s.station i))) s).symm
  rw [State.modStation_eq, State.station_congr hs, hs]
  rfl

/-! ## The end of a group -/

theorem State.unbindSlot_eq {s : State} {n : SlotId} {i : StationId} (h : s.boundStation n = some i) :
    s.unbindSlot n = s.modStation i fun x => { x with binding := none, silenceEnds := true } := by
  unfold State.unbindSlot
  rw [h]
  rfl

/-- The end of a group at a CLOSING slot: the close is that of the state in which the place is empty and a STOPPING
station has stopped (R73). -/
theorem State.endGroup_eq_of_closing {s : State} {i : StationId} {b : Binding} (hb : (s.station i).binding = some b)
    (hc : s.slotIs b.slot .closing = true) (hbs : s.boundStation b.slot = some i) :
    s.endGroup i = State.completeClose b.slot true (s.modStation i fun x =>
      { x with
        group := none
        intake := if x.intake = .stopping then .stopped else x.intake
        silenceEnds := true }) := by
  obtain ⟨w, hw, -⟩ := Option.map_eq_some_iff.1 (of_decide_eq_true hc)
  have hbound : ∀ f : Station → Station, (∀ x, (f x).binding = x.binding) →
      (s.modStation i f).boundStation b.slot = some i := fun f hf => by
    rw [State.boundStation_congr fun j => State.modStation_keeps Station.bound i s (by
      unfold Station.bound
      rw [hf]) j]
    exact hbs
  rw [State.endGroup_of_closing i hb (of_decide_eq_true hc),
    State.completeClose_eq_books (w := w) (by rw [State.modStation_slot]; exact hw),
    State.completeClose_eq_books (w := w) (by rw [State.modStation_slot]; exact hw),
    State.unbindSlot_eq (hbound (fun x => { x with group := none }) fun _ => rfl),
    State.unbindSlot_eq (hbound (fun x =>
      { x with
        group := none
        intake := if x.intake = .stopping then .stopped else x.intake
        silenceEnds := true }) fun _ => rfl),
    State.modStation_books, State.modStation_modStation, State.modStation_modStation, State.modStation_modStation]
  refine congrArg _ (State.modStation_congr ?_)
  unfold Station.finishStop Station.stopped
  dsimp only
  split <;> rfl

/-! ## O28 -/

/-- The lot's active slot count falls, and a CLOSING lot whose count comes to 0 is reported (R4, R6). -/
theorem State.releaseActive_eq {s : State} {id : LotId} {e : Fin 16} {l : Lot} (he : s.findLot id = some e)
    (hl : s.lots[e] = some l) : s.releaseActive id =
      if l.active - 1 = 0 ∧ l.state = .closing then
        State.addCause .lotClosed { s with lots := s.lots.set e (some l.released) }
      else { s with lots := s.lots.set e (some l.released) } := by
  unfold State.releaseActive Lot.released
  rw [he]
  dsimp only
  rw [hl]
  dsimp only
  split <;> rfl

theorem State.unbindSlot_stations_eq {s : State} {n : SlotId}
    (h : ∀ i j : StationId, (s.station i).bound = some n → (s.station j).bound = some n → i = j) :
    (s.unbindSlot n).stations = Vector.ofFn fun i =>
      if (s.station i).bound = some n then { s.station i with binding := none, silenceEnds := true }
      else s.station i := by
  refine Vector.ext fun k hk => ?_
  rw [Vector.getElem_ofFn]
  refine (State.unbindSlot_station n s ⟨k, hk⟩).trans ?_
  have hb : s.boundStation n = some ⟨k, hk⟩ ↔ (s.station ⟨k, hk⟩).bound = some n :=
    ⟨State.bound_of_boundStation, fun hb => by
      cases hj : s.boundStation n with
      | none => exact absurd hb (State.bound_ne_of_boundStation hj _)
      | some j => rw [h _ _ hb (State.bound_of_boundStation hj)]⟩
  simp only [hb]

theorem State.unbindSlot_withStations (n : SlotId) (s : State) :
    s.unbindSlot n = s.withStations (s.unbindSlot n).stations := by
  unfold State.unbindSlot
  split <;> rfl

/-- The parts of a completed close: the stations without the binding, the slot CLOSED, and the lot with its wafer. -/
theorem State.books_eq {s : State} {n : SlotId} {w : Wafer} {e : Fin 16} {l : Lot} (he : s.findLot w.lot = some e)
    (hl : s.lots[e] = some l) (d : Bool) :
    s.books n w d =
      let changed : State := { s with
        slots := s.slots.set n (some w.closed)
        lots := s.lots.set e (some (l.closes w)) }
      let reported := if d then changed.addCause .waferClosed else changed
      if l.active - 1 = 0 ∧ l.state = .closing then reported.addCause .lotClosed else reported := by
  have hmod : s.modLot e (Lot.join w.number w.totals) =
      { s with lots := s.lots.set e (some (l.join w.number w.totals)) } := by
    unfold State.modLot
    rw [hl]
    rfl
  have hfind : (s.modLot e (Lot.join w.number w.totals)).findLot w.lot = some e :=
    (State.findLot_modLot (F := Lot.join w.number w.totals) (fun _ => rfl) _ e _).trans he
  have hrel : ∀ u : State, u.lots = (s.modLot e (Lot.join w.number w.totals)).lots →
      u.releaseActive w.lot =
        if l.active - 1 = 0 ∧ l.state = .closing then
          State.addCause .lotClosed { u with lots := s.lots.set e (some (l.closes w)) }
        else { u with lots := s.lots.set e (some (l.closes w)) } := fun u hu => by
    have hu' : u.lots = s.lots.set e (some (l.join w.number w.totals)) := by rw [hu, hmod]
    rw [State.releaseActive_eq (l := l.join w.number w.totals)
      ((State.findLot_congr (fun f => by rw [hu]) _).trans hfind) (by rw [hu']; simp), hu', Vector.set_set]
    rfl
  have hj : s.joinLot w = s.modLot e (Lot.join w.number w.totals) := by
    unfold State.joinLot
    rw [he]
  unfold State.books
  rw [hj]
  cases d with
  | false =>
    refine (hrel ((s.modLot e (Lot.join w.number w.totals)).setSlot n (some w.closed)) rfl).trans ?_
    rw [hmod]
    rfl
  | true =>
    refine (hrel (((s.modLot e (Lot.join w.number w.totals)).setSlot n (some w.closed)).addCause .waferClosed)
      (State.addCause_lots _ _)).trans ?_
    rw [hmod]
    have := State.addCause_comm (f := fun u => { u with lots := s.lots.set e (some (l.closes w)) }) (fun _ => rfl)
      (fun _ => rfl) (fun _ _ _ => rfl) .waferClosed { s with
        slots := s.slots.set n (some w.closed)
        lots := s.lots.set e (some (l.join w.number w.totals)) }
    exact congrArg (fun u : State => if l.active - 1 = 0 ∧ l.state = .closing then u.addCause .lotClosed else u)
      this.symm

/-- Settles O28: the end of a group, and a close through its books. -/
theorem groupEndAndCloseCompletion : Obligations.GroupEndAndCloseCompletion := by
  refine ⟨fun s i b hb => ⟨fun hc => ?_, fun hc hbs => ?_⟩, fun s n d w e l hw he hl ha hu => ?_⟩
  · have hn : s.endCloses i = false := by
      unfold State.endCloses
      rw [hb]
      exact hc
    rw [State.endGroup_of_not_closes i hn, State.modStation_eq]
    congr 2
    unfold Station.ended Station.finishStop Station.stopped
    by_cases h : (s.station i).intake = .stopping <;> simp [h]
  · rw [State.endGroup_eq_of_closing hb hc hbs, State.modStation_eq]
  · have hlast : (l.active - 1 = 0 ∧ l.state = .closing) ↔ decide (l.state = .closing ∧ l.active = 1) = true :=
      ⟨fun ⟨h0, hc⟩ => decide_eq_true ⟨hc, by omega⟩, fun h => by
        obtain ⟨hc, h1⟩ := of_decide_eq_true h
        exact ⟨by omega, hc⟩⟩
    have hlot : l.closes w =
        { l with
          state := if decide (l.state = .closing ∧ l.active = 1) then .closed else l.state
          active := l.active - 1
          closedList := insertNumber w.number l.closedList
          totals :=
            ⟨l.totals.tested + w.acc.tested, l.totals.passed + w.acc.passed, l.totals.gross + w.gross,
              Vector.ofFn fun b => l.totals.hist[b] + w.acc.hist[b]⟩ } := by
      unfold Lot.closes Lot.released
      by_cases h : l.active - 1 = 0 ∧ l.state = .closing
      · rw [if_pos (hlast.1 h)]
        refine (if_pos h).trans ?_
        rw [h.1]
        rfl
      · rw [if_neg (mt hlast.2 h)]
        exact if_neg h
    rw [State.completeClose_eq_books hw]
    refine (congrArg (State.books n w d) (State.unbindSlot_withStations n s)).trans ?_
    rw [State.unbindSlot_stations_eq hu]
    refine (State.books_eq (by exact he) (by exact hl) d).trans ?_
    rw [hlot]
    exact if_congr hlast rfl rfl

end Sys2Proof.Machine
end

section
/-! PROOF. O23 and O25, settled: the records of a touchdown group. -/

namespace Sys2Proof.Machine

/-! ## What a work leaves of every station -/

section Keeps
variable {α : Type} (p : Station → α)

theorem State.checkEntries_keeps (hj : ∀ e x, p (Station.join e x) = p x) (i : StationId) (b : Binding)
    (xs : List Result) (s : State) (j : StationId) :
    p ((s.checkEntries i b xs).1.station j) = p (s.station j) := by
  have hread : ∀ (u : State) k, p ((u.readCell b.slot k).1.station j) = p (u.station j) := fun u k => by
    rw [State.readCell_station]
  induction xs generalizing s with
  | nil => rfl
  | cons x xs ih =>
    refine (ih _).trans ?_
    show p ((s.checkEntry i b x).1.station j) = _
    unfold State.checkEntry
    split
    · split
      · rfl
      · dsimp only
        split
        · exact hread s _
        · split
          · exact hread s _
          · exact (State.modStation_keeps p i _ (hj _ _) j).trans (hread s _)
    · rfl

section Commit
variable (hv : ∀ k x, p (Station.voided k x) = p x) (ha : ∀ k t x, p (Station.applied k t x) = p x)
  (hh : ∀ k l x, p (Station.hold k l x) = p x)

include hv ha in
theorem State.commitItem_keeps (n : SlotId) (i : StationId) (q : Plan) (x : Item) (s : State) (j : StationId) :
    p ((State.commitItem n i q x s).1.station j) = p (s.station j) := by
  have hvoid : ∀ (k : SiteId) (u : State), p ((u.voidItem n i k).station j) = p (u.station j) := fun k u =>
    State.modStation_keeps p i (u.modAcc n _) (hv _ _) j
  have hread : ∀ k, p ((s.readCell n k).1.station j) = p (s.station j) := fun k => by rw [State.readCell_station]
  have happly : ∀ (e : Entry) c f (u : State), p ((u.applyItem n i q e c f).station j) = p (u.station j) :=
    fun e c f u => State.modStation_keeps p i (((u.writeCell n e.cell c).modAcc n f).modAcc n _) (ha _ _ _) j
  unfold State.commitItem
  split
  · exact hvoid _ s
  · split
    · unfold State.mergeItem
      dsimp only
      split
      · exact (happly _ _ _ _).trans (hread _)
      · exact (happly _ _ _ _).trans (hread _)
      · exact (hvoid _ _).trans (hread _)
      · exact (hvoid _ _).trans (hread _)
    · exact hvoid _ s

include hv ha in
theorem State.commitItems_keeps (n : SlotId) (i : StationId) (q : Plan) (xs : List Item) (reads : List Nat)
    (s : State) (j : StationId) : p ((State.commitItems n i q xs reads s).1.station j) = p (s.station j) := by
  induction xs generalizing reads s with
  | nil => rfl
  | cons x xs ih =>
    refine (ih _ _).trans ((State.commitItem_keeps p hv ha n i q x _ j).trans ?_)
    rw [State.readAhead_station]

include hh in
theorem State.evalCommit_keeps (n : SlotId) (i : StationId) (s : State) (j : StationId) :
    p ((s.evalCommit n i).station j) = p (s.station j) := by
  have hfold : ∀ {β : Type} (f : State → β → State), (∀ u b, p ((f u b).station j) = p (u.station j)) →
      ∀ (l : List β) u, p ((l.foldl f u).station j) = p (u.station j) := by
    intro β f hf l
    induction l with
    | nil => exact fun _ => rfl
    | cons b l ih => exact fun u => (ih _).trans (hf u b)
  have hjudge := fun w f a (u : State) => State.judge_keeps p hh w f a u j
  refine hfold _ (fun u k => ?_) _ s
  have hslot : ∀ f, p ((u.judgeSlot k n i f).station j) = p (u.station j) := fun f => hjudge _ _ _ u
  have hskew : p ((u.judgeSkew k n i).station j) = p (u.station j) := by
    unfold State.judgeSkew
    exact hfold _ (fun v _ => hjudge _ _ _ v) _ u
  have hprobe : ∀ c, p ((u.judgeProbe k i c).station j) = p (u.station j) := fun c => by
    unfold State.judgeProbe
    exact hfold _ (fun v _ => hjudge _ _ _ v) _ u
  unfold State.commitRule
  split
  · split
    · exact hslot _
    · exact hslot _
    · exact hskew
    · rfl
    · exact hprobe _
    · exact hprobe _
    · rfl
  · rfl

include hv ha hh in
theorem State.commit_keeps (n : SlotId) (i : StationId) (g : Group) (reads : List Nat) (s : State) (j : StationId) :
    p ((s.commit n i g reads).1.station j) = p (s.station j) := by
  rw [State.commit_eq, State.evalCommit_keeps p hh, State.commitItems_keeps p hv ha]

end Commit
end Keeps

/-- Whether the station is FAULTED, which no work of the Collation Engine decides. -/
def Station.isFaulted (x : Station) : Bool := decide (x.intake = .faulted)

theorem Station.hold_isFaulted (k : Fin 16) (l : Fin 8) (x : Station) : (x.hold k l).isFaulted = x.isFaulted := by
  unfold Station.hold
  split
  next h => rw [Station.order_eq]; simp [Station.isFaulted, h]
  next => rfl

theorem Station.finishStop_isFaulted (x : Station) : x.finishStop.isFaulted = x.isFaulted := by
  unfold Station.finishStop
  split
  next h => simp [Station.isFaulted, h, Station.stopped]
  next => rfl

theorem State.commit_isFaulted (n : SlotId) (i : StationId) (g : Group) (reads : List Nat) (s : State)
    (j : StationId) : ((s.commit n i g reads).1.station j).isFaulted = (s.station j).isFaulted :=
  State.commit_keeps Station.isFaulted (fun _ _ => rfl) (fun _ _ _ => rfl) Station.hold_isFaulted n i g reads s j

theorem State.endGroup_isFaulted (i : StationId) (s : State) (j : StationId) :
    ((s.endGroup i).station j).isFaulted = (s.station j).isFaulted :=
  State.endGroup_keeps Station.isFaulted (fun _ => rfl) (fun _ => rfl) Station.finishStop_isFaulted i s j

/-- Outside FAULTED a REPLY joins the station's transmit list. -/
theorem State.deliver_of_not_faulted {s : State} {i : StationId} (h : (s.station i).isFaulted = false)
    (y : StationReply) : s.deliver i y = s.modStation i (Station.push (.reply y)) := by
  unfold State.deliver
  refine State.modStation_congr ?_
  rw [Station.deliver, if_neg (by simpa [Station.isFaulted] using h)]

theorem Station.isFaulted_of_awake {x : Station}
    (h : x.intake = .running ∨ x.intake = .stopping ∨ x.intake = .halted) : x.isFaulted = false :=
  decide_eq_false (by rcases h with h | h | h <;> simp [h])

theorem State.taken_isFaulted {s : State} {i : StationId} (rest : List Frame)
    (h : (s.station i).intake = .running ∨ (s.station i).intake = .stopping ∨ (s.station i).intake = .halted) :
    ((s.taken i rest).station i).isFaulted = false := by
  rw [State.taken_station]
  exact Station.isFaulted_of_awake h

/-! ## O23 -/

/-- Settles O23: TD_OPEN check by check. -/
theorem tdOpenOpensGroup : Obligations.TdOpenOpensGroup := by
  intro s i r rest h hk hi
  have hf : (s.station i).intake ≠ .faulted := by simp [hi]
  have hc : stateCheck r.kind (s.station i).intake = none := by rw [hk, hi]; rfl
  have hst := State.taken_station s i rest
  have hexec : exec .tdOpen s = .next ((s.taken i rest).tdOpen i r) := by
    rw [exec_tdOpen h hk [], State.checked_nil, State.taken_station, checkedWork_of_none hc]
  have hrefuse := fun why => State.taken_refuse rest r.tag why hf
  unfold State.tdOpen at hexec
  rw [hst] at hexec
  refine ⟨fun hb => ?_, fun b hb => ?_⟩
  · rw [hb] at hexec
    exact hexec.trans (congrArg _ (hrefuse _))
  · rw [hb] at hexec
    dsimp only at hexec
    refine ⟨fun hcl => ?_, fun hcl => ?_⟩
    · exact hexec.trans (congrArg _ ((if_pos hcl).trans (hrefuse _)))
    · have hcl' : ¬(s.taken i rest).slotIs b.slot .closing = true := by
        rw [show (s.taken i rest).slotIs b.slot .closing = _ from hcl]
        decide
      rw [if_neg hcl'] at hexec
      refine ⟨fun hg => ?_, fun hg hu => ?_, fun hg hu => ?_⟩
      · rw [hexec, if_pos (Option.isSome_iff_ne_none.2 hg), hrefuse]
      · rw [hexec, if_neg (by simp [hg]), if_pos hu, hrefuse]
      · rw [hexec, if_neg (by simp [hg]), if_neg hu, State.taken_mod_deliver rest _ hf]
        rfl

/-! ## O25 -/

/-- TD_CLOSE and TD_ABORT end a group through the same step, and answer ACCEPT over it. -/
theorem exec_tdAbort_eq {s : State} {i : StationId} {r : Frame} {rest : List Frame} {g : Group}
    (h : s.Grants i r rest) (hk : r.kind = 0x46)
    (hi : (s.station i).intake = .running ∨ (s.station i).intake = .stopping ∨ (s.station i).intake = .halted)
    (hg : (s.station i).group = some g) (ht : g.touchdown = u16 r.payload 0) :
    exec .tdAbort s = .next (((s.taken i rest).endGroup i).deliver i (.accept r.tag)) := by
  rw [exec_tdAbort h hk [], State.checked_of_awake hi (by rw [hk]; decide) (by rw [hk]; decide),
    State.tdAbort_eq (by rw [State.taken_station]; exact hg) ht]

/-- Settles O25: the commit, the end of the group, and the ACCEPT, each through the lemma about it. -/
theorem tdCloseAndAbortEndGroup : Obligations.TdCloseAndAbortEndGroup := by
  refine ⟨fun s i r rest g b h hk hi hg ht hb reads => ?_, fun s i r rest g b h hk hg ht hb hc => ?_,
    fun s i r rest g b h hk hi hg ht hb hc hbs => ?_⟩
  · have hst := State.taken_station s i rest
    have hnf : (((s.taken i rest).commit b.slot i g reads).1.endGroup i |>.station i).isFaulted = false := by
      rw [State.endGroup_isFaulted, State.commit_isFaulted, State.taken_isFaulted rest hi]
    refine (exec_tdClose h hk reads [] []).trans (congrArg _ ?_)
    rw [show s.upset [] = s from rfl,
      State.checked_of_awake hi (by rw [hk]; decide) (by rw [hk]; decide),
      State.tdClose_eq (by rw [hst]; exact hg) ht (by rw [hst]; exact hb), State.deliver_of_not_faulted hnf]
    rfl
  · have hend : (s.taken i rest).endGroup i = (s.taken i rest).modStation i (Station.ended false) :=
      State.endGroup_of_not_closes i (by
        unfold State.endCloses
        rw [State.taken_station, hb]
        exact hc)
    refine ⟨fun hi => ?_, fun hi => ?_⟩
    · have hx : Station.ended false { s.station i with staging := rest } =
          { s.station i with staging := rest, group := none } := by
        rcases hi with e | e <;> simp [Station.ended, Station.finishStop, e]
      rw [exec_tdAbort_eq h hk (hi.imp_right .inr) hg ht, hend, State.taken_mod_deliver rest _ (by
        rw [hx]
        rcases hi with e | e <;> simp [e]), hx]
      rfl
    · have hx : Station.ended false { s.station i with staging := rest } =
          { s.station i with staging := rest, group := none, intake := .stopped, silenceEnds := true } := by
        simp [Station.ended, Station.finishStop, Station.stopped, hi]
      rw [exec_tdAbort_eq h hk (.inr (.inl hi)) hg ht, hend,
        State.taken_mod_deliver rest _ (by rw [hx]; simp), hx]
      rfl
  · have hst := State.taken_station s i rest
    have hbs' : (s.taken i rest).boundStation b.slot = some i := (State.taken_boundStation s i rest _).trans hbs
    have hnf : (((s.taken i rest).endGroup i).station i).isFaulted = false := by
      rw [State.endGroup_isFaulted, State.taken_isFaulted rest hi]
    have hend := State.endGroup_eq_of_closing (s := s.taken i rest) (by rw [hst]; exact hb) hc hbs'
    rw [exec_tdAbort_eq h hk hi hg ht, State.deliver_of_not_faulted hnf, hend, State.taken,
      State.granted_modStation]
    rfl

end Sys2Proof.Machine
end

section
/-! PROOF. O24, settled: the entries of a TD_RESULTS, check by check. -/

namespace Sys2Proof.Machine

/-! ## The checks that read no cell (Table 4.2, steps 1 to 5) -/

section Screen
variable (w : Wafer) (q : Fin 4) (p : Plan) (g : Group) {x : Result}

theorem screenEntry_of_badSite (h : ¬∃ k : SiteId, x.site = k.val ∧ g.active.getLsbD k.val = true) :
    screenEntry w q p g x = .error .badSite := by
  unfold screenEntry
  split
  · rfl
  next k hk =>
    have ha : g.hasSite k = false := by
      by_contra hne
      exact h ⟨k, inRange_eq_some.1 hk, by simpa [Group.hasSite] using hne⟩
    exact if_pos ha

section Site
variable {g} {k : SiteId} (hs : x.site = k.val) (ha : g.active.getLsbD k.val = true)
include hs ha

theorem screenEntry_of_duplicateSite (h : ∃ e ∈ g.entries, e.site = k) :
    screenEntry w q p g x = .error .duplicateSite := by
  have hd : g.holdsSite k = true := by simpa [Group.holdsSite] using h
  unfold screenEntry
  rw [inRange_of_eq hs]
  exact (if_neg (by simp [Group.hasSite, ha])).trans (if_pos hd)

variable (hd : ∀ e ∈ g.entries, e.site ≠ k)
include hd

theorem screenEntry_of_newSite : screenEntry w q p g x =
    match transform w q x.sx x.sy with
    | .offMap => .error .offMap
    | .offWafer => .error .offWafer
    | .cell index =>
      if g.holdsCell index then .error .dieConflict
      else
        match inRange 64 x.bin with
        | none => .error .badBin
        | some b => if p.cls b = .unused then .error .badBin else .ok ⟨k, index, b⟩ := by
  have hn : ¬g.holdsSite k = true := by simpa [Group.holdsSite] using hd
  unfold screenEntry
  rw [inRange_of_eq hs]
  exact (if_neg (by simp [Group.hasSite, ha])).trans ((if_neg hn).trans rfl)

variable {c : Nat} (ht : transform w q x.sx x.sy = .cell c)
include ht

theorem screenEntry_of_dieConflict (h : ∃ e ∈ g.entries, e.cell = c) :
    screenEntry w q p g x = .error .dieConflict := by
  have hc : g.holdsCell c = true := by simpa [Group.holdsCell] using h
  rw [screenEntry_of_newSite w q p hs ha hd, ht]
  exact if_pos hc

variable (hc : ∀ e ∈ g.entries, e.cell ≠ c)
include hc

theorem screenEntry_of_badBin (h : ¬∃ a : Bin, x.bin = a.val ∧ p.cls a ≠ .unused) :
    screenEntry w q p g x = .error .badBin := by
  have hn : ¬g.holdsCell c = true := by simpa [Group.holdsCell] using hc
  rw [screenEntry_of_newSite w q p hs ha hd, ht]
  refine (if_neg hn).trans ?_
  split
  · rfl
  next a hb =>
    refine if_pos ?_
    by_contra hu
    exact h ⟨a, inRange_eq_some.1 hb, hu⟩

theorem screenEntry_eq_ok {a : Bin} (hb : x.bin = a.val) (hu : p.cls a ≠ .unused) :
    screenEntry w q p g x = .ok ⟨k, c, a⟩ := by
  have hn : ¬g.holdsCell c = true := by simpa [Group.holdsCell] using hc
  rw [screenEntry_of_newSite w q p hs ha hd, ht]
  refine (if_neg hn).trans ?_
  rw [inRange_of_eq hb]
  exact if_neg hu

end Site
end Screen

/-! ## One entry -/

section Entry
variable {s : State} {i : StationId} {b : Binding} {w : Wafer} {g : Group} {x : Result}
  (hw : s.slot b.slot = some w) (hg : (s.station i).group = some g)
include hw hg

theorem State.checkEntry_of_error {why : EntryReason} (h : screenEntry w b.q (s.planOf w.lot) g x = .error why) :
    s.checkEntry i b x = (s, some why) := by
  unfold State.checkEntry
  rw [hw, hg]
  dsimp only
  rw [h]

variable {e : Entry} (hok : screenEntry w b.q (s.planOf w.lot) g x = .ok e)
include hok

theorem State.checkEntry_of_damaged (hd : (s.readCell b.slot e.cell).2 = .damaged) :
    s.checkEntry i b x = ((s.readCell b.slot e.cell).1, some .cellDamaged) := by
  unfold State.checkEntry
  rw [hw, hg]
  dsimp only
  rw [hok]
  exact if_pos hd

variable (hd : (s.readCell b.slot e.cell).2 ≠ .damaged)
include hd

theorem State.checkEntry_of_limit {why : EntryReason}
    (h : limitCheck (s.planOf w.lot) e.bin (s.readCell b.slot e.cell).2 = some why) :
    s.checkEntry i b x = ((s.readCell b.slot e.cell).1, some why) := by
  unfold State.checkEntry
  rw [hw, hg]
  dsimp only
  rw [hok]
  refine (if_neg hd).trans ?_
  rw [h]

/-- An entry that passes every check joins the end of the group's list. -/
theorem State.checkEntry_of_passes
    (h : limitCheck (s.planOf w.lot) e.bin (s.readCell b.slot e.cell).2 = none) :
    s.checkEntry i b x =
      ((s.readCell b.slot e.cell).1.modStation i fun y =>
        { y with group := some { g with entries := g.entries ++ [e] } }, none) := by
  have hjoin : (s.readCell b.slot e.cell).1.modStation i (Station.join e) =
      (s.readCell b.slot e.cell).1.modStation i fun y =>
        { y with group := some { g with entries := g.entries ++ [e] } } := by
    refine State.modStation_congr ?_
    rw [State.readCell_station, Station.join, hg]
    rfl
  rw [← hjoin]
  unfold State.checkEntry
  rw [hw, hg]
  dsimp only
  rw [hok]
  refine (if_neg hd).trans ?_
  rw [h]

end Entry

theorem limitCheck_of_no_result {p : Plan} {b : Bin} (h : p.isResult b = false) (c : CellRecord) :
    limitCheck p b c = none := by
  cases c with
  | tested => exact if_pos h
  | _ => rfl

theorem limitCheck_of_tested {p : Plan} {b : Bin} (h : p.isResult b = true) (final first : Bin) (count : Nat)
    (site : SiteId) (st : StationId) : limitCheck p b (.tested final first count site st) =
      if p.limit ≤ count then some .retestLimit
      else if p.passLock = true ∧ p.cls final = .pass then some .passLocked else none :=
  if_neg (by simp [h])

theorem State.checkEntries_cons (i : StationId) (b : Binding) (x : Result) (xs : List Result) (s : State) :
    s.checkEntries i b (x :: xs) =
      (((s.checkEntry i b x).1.checkEntries i b xs).1,
        ((s.checkEntry i b x).2.map fun y => (⟨x.site, y⟩ : Refused)).toList ++
          ((s.checkEntry i b x).1.checkEntries i b xs).2) := rfl

/-- Settles O24: an entry by the check it fails, or joins. -/
theorem tdResultsChecksEntries : Obligations.TdResultsChecksEntries := by
  refine ⟨⟨fun s i r rest g b h hk hi hg ht hb => ?_, fun _ _ _ => rfl, fun s i b x xs =>
    ⟨fun t ht => ?_, fun t why ht => ?_⟩⟩, fun s i b w g x hw hg => ⟨fun hn => ?_, fun k hs ha =>
    ⟨fun hd => ?_, fun hd => ⟨fun ht => ?_, fun ht => ?_, fun c ht => ⟨fun hc => ?_, fun hc =>
    ⟨fun hb => ?_, fun a hb hu => ?_⟩⟩⟩⟩⟩⟩
  · have hst := State.taken_station s i rest
    have hnf : (((s.taken i rest).checkEntries i b (resultFields r.payload)).1.station i).isFaulted = false := by
      rw [State.checkEntries_keeps Station.isFaulted fun _ _ => rfl, State.taken_isFaulted rest hi]
    refine (exec_tdResults h hk [] []).trans (congrArg _ ?_)
    rw [show s.upset [] = s from rfl, State.checked_of_awake hi (by rw [hk]; decide) (by rw [hk]; decide),
      State.tdResults_eq (by rw [hst]; exact hg) ht (by rw [hst]; exact hb), State.deliver_of_not_faulted hnf]
    rfl
  · rw [State.checkEntries_cons, ht]
    rfl
  · rw [State.checkEntries_cons, ht]
    rfl
  · exact State.checkEntry_of_error hw hg (screenEntry_of_badSite w b.q _ g hn)
  · exact State.checkEntry_of_error hw hg (screenEntry_of_duplicateSite w b.q _ hs ha hd)
  · exact State.checkEntry_of_error hw hg (by rw [screenEntry_of_newSite w b.q _ hs ha hd, ht])
  · exact State.checkEntry_of_error hw hg (by rw [screenEntry_of_newSite w b.q _ hs ha hd, ht])
  · exact State.checkEntry_of_error hw hg (screenEntry_of_dieConflict w b.q _ hs ha hd ht hc)
  · exact State.checkEntry_of_error hw hg (screenEntry_of_badBin w b.q _ hs ha hd ht hc hb)
  · have hok := screenEntry_eq_ok w b.q (s.planOf w.lot) hs ha hd ht hc hb hu
    refine ⟨fun hf => State.checkEntry_of_damaged hw hg hok hf, fun final first count site st hf hr =>
      ⟨fun hl => ?_, fun hl hp hpass => ?_, fun hl hp => ?_⟩, fun hf => ?_⟩
    · exact State.checkEntry_of_limit hw hg hok (by rw [hf]; simp)
        (by rw [hf, limitCheck_of_tested hr, if_pos hl])
    · exact State.checkEntry_of_limit hw hg hok (by rw [hf]; simp)
        (by rw [hf, limitCheck_of_tested hr, if_neg (by omega), if_pos ⟨hp, hpass⟩])
    · have hlock : ¬((s.planOf w.lot).passLock = true ∧ (s.planOf w.lot).cls final = .pass) := by
        rintro ⟨h1, h2⟩
        rcases hp with hp | hp
        · simp [hp] at h1
        · exact hp h2
      exact State.checkEntry_of_passes hw hg hok (by rw [hf]; simp)
        (by rw [hf, limitCheck_of_tested hr, if_neg (by omega), if_neg hlock])
    · rcases hf with hf | ⟨hf, hr⟩
      · exact State.checkEntry_of_passes hw hg hok (by rw [hf]; simp) (by rw [hf]; rfl)
      · exact State.checkEntry_of_passes hw hg hok hf (limitCheck_of_no_result hr _)

end Sys2Proof.Machine
end

section
/-! PROOF. O26, settled: one item of a commit. -/

namespace Sys2Proof.Machine

/-! ## Counts that stay in their range -/

theorem bump_eq_min {top n : Nat} (h : n ≤ top) : bump top n = min top (n + 1) := by
  unfold bump
  split <;> omega

/-- A change of the accumulators of a slot that holds a wafer. -/
theorem State.modAcc_eq {s : State} {n : SlotId} {w : Wafer} (hw : s.slot n = some w) (f : Acc → Acc) :
    s.modAcc n f = s.setSlot n (some { w with acc := f w.acc }) := by
  unfold State.modAcc State.modWafer
  rw [hw]
  rfl

/-! ## The void path and an applied entry -/

section Item
variable {s : State} {n : SlotId} {st : StationId} {w : Wafer} (hw : s.slot n = some w)
include hw

theorem State.voidItem_eq {i : SiteId} (ha : w.acc.sites[i].voids ≤ topCount)
    (hb : (s.station st).consecVoid[i] ≤ 255) : s.voidItem n st i =
      { s with
        slots := s.slots.set n (some
          { w with
            acc := { w.acc with
              sites := w.acc.sites.set i
                { w.acc.sites[i] with voids := min topCount (w.acc.sites[i].voids + 1) } } })
        stations := s.stations.set st
          { s.station st with
            consecVoid := (s.station st).consecVoid.set i (min 255 ((s.station st).consecVoid[i] + 1)) } } := by
  rw [← bump_eq_min ha, ← bump_eq_min hb, State.voidItem, State.modAcc_eq hw]
  rfl

/-- The accumulators with other first counts (Table 6.1). -/
def Acc.counted (tested passed : Nat) (hist : Vector Nat 64) (a : Acc) : Acc :=
  { a with tested := tested, passed := passed, hist := hist }

/-- The state after an applied entry: the cell's record, the slot's counts, and the station's counters. -/
def State.appliedWith (s : State) (n : SlotId) (st : StationId) (w : Wafer) (e : Entry) (pass : Bool) (c : CellRecord)
    (tested passed : Nat) (hist : Vector Nat 64) : State :=
  { s with
    mem := s.mem.write (cellAddress n e.cell) ⟨c, .clean⟩
    slots := s.slots.set n (some
      { w with
        acc := { w.acc with
          tested := tested
          passed := passed
          hist := hist
          sites := w.acc.sites.set e.site
            { w.acc.sites[e.site] with
              tests := min topCount (w.acc.sites[e.site].tests + 1)
              passes := if pass then min topCount (w.acc.sites[e.site].passes + 1)
                else w.acc.sites[e.site].passes } } })
    stations := s.stations.set st
      { s.station st with
        consecFail := (s.station st).consecFail.set e.site
          (if pass then 0 else min 255 ((s.station st).consecFail[e.site] + 1))
        consecVoid := (s.station st).consecVoid.set e.site 0 } }

theorem State.applyItem_eq {p : Plan} {e : Entry} {counts : Acc → Acc} {tested passed : Nat} {hist : Vector Nat 64}
    (hcounts : counts w.acc = w.acc.counted tested passed hist)
    (ha : w.acc.sites[e.site].tests ≤ topCount ∧ w.acc.sites[e.site].passes ≤ topCount)
    (hb : (s.station st).consecFail[e.site] ≤ 255) (c : CellRecord) :
    s.applyItem n st p e c counts =
      s.appliedWith n st w e (decide (p.cls e.bin = .pass)) c tested passed hist := by
  have hslot : ((s.writeCell n e.cell c).setSlot n (some { w with acc := w.acc.counted tested passed hist })).slot n =
      some { w with acc := w.acc.counted tested passed hist } := by simp [State.setSlot, State.slot]
  rw [State.appliedWith, ← bump_eq_min ha.1, ← bump_eq_min ha.2, ← bump_eq_min hb, State.applyItem]
  dsimp only
  rw [State.modAcc_eq (s := s.writeCell n e.cell c) hw, hcounts, State.modAcc_eq hslot, State.modStation_eq]
  simp only [State.setSlot, Vector.set_set]
  rfl

end Item

/-! ## The merge by what the read finds -/

section Merge
variable {s : State} {n : SlotId} {st : StationId} {p : Plan} {e : Entry}

theorem State.commitItem_of_result (h : p.isResult e.bin = true) :
    State.commitItem n st p (.entry e) s = s.mergeItem n st p e := if_pos h

theorem State.commitItem_of_no_result (h : p.isResult e.bin = false) :
    State.commitItem n st p (.entry e) s = (s.voidItem n st e.site, []) := if_neg (by simp [h])

theorem State.mergeItem_of_untested (h : (s.readCell n e.cell).2 = .untested) :
    s.mergeItem n st p e = ((s.readCell n e.cell).1.applyItem n st p e (.tested e.bin e.bin 1 e.site st)
      (Acc.first p e.bin), []) := by
  unfold State.mergeItem
  dsimp only
  rw [h]

theorem State.mergeItem_of_tested {a first : Bin} {count : Nat} {i : SiteId} {x : StationId}
    (h : (s.readCell n e.cell).2 = .tested a first count i x) :
    s.mergeItem n st p e = ((s.readCell n e.cell).1.applyItem n st p e
      (.tested (p.finalBin a e.bin) first (count + 1) e.site st) (Acc.retest p a (p.finalBin a e.bin)), []) := by
  unfold State.mergeItem
  dsimp only
  rw [h]

theorem State.mergeItem_of_damaged (h : (s.readCell n e.cell).2 = .damaged) :
    s.mergeItem n st p e = ((s.readCell n e.cell).1.voidItem n st e.site, [⟨e.site.val, .cellDamaged⟩]) := by
  unfold State.mergeItem
  dsimp only
  rw [h]

/-- The merge goes on from its read. -/
theorem State.mergeItem_congr {t : State} (h : t.readCell n e.cell = s.readCell n e.cell) :
    t.mergeItem n st p e = s.mergeItem n st p e := by
  unfold State.mergeItem
  rw [h]

theorem State.readCell_readCell (k : Nat) : (s.readCell n k).1.readCell n k = s.readCell n k := by
  rw [State.readCell_of_clean (by rw [State.readCell_cellWord]), State.readCell_cellRecord]

theorem State.readCell_of_correctable {k : Nat} (h : (s.cellWord n k).health = .correctable) :
    s.readCell n k = (s.correct n k (s.cellRecord n k), s.cellRecord n k) := by
  unfold State.readCell
  rw [h]
  rfl

theorem State.readCell_of_uncorrectable {k : Nat} (h : (s.cellWord n k).health = .uncorrectable) :
    s.readCell n k = (s.damage n k, .damaged) := by
  unfold State.readCell
  rw [h]

end Merge

/-! ## Retests -/

theorem Plan.finalBin_of_ne {p : Plan} {a b : Bin} (h : p.finalBin a b ≠ a) : p.finalBin a b = b := by
  unfold Plan.finalBin at h ⊢
  split
  · rfl
  · split
    · rfl
    · simp_all

theorem Plan.passedAfter_of_results {p : Plan} {a b : Bin} (ha : p.cls a = .pass ∨ p.cls a = .fail)
    (hb : p.cls b = .pass ∨ p.cls b = .fail) (n : Nat) : p.passedAfter a b n =
      if p.cls a = p.cls b then n else if p.cls a = .pass then n - 1 else n + 1 := by
  unfold Plan.passedAfter
  rcases ha with ha | ha <;> rcases hb with hb | hb <;> rw [ha, hb] <;> rfl

theorem Acc.first_eq (p : Plan) (b : Bin) (x : Acc) : Acc.first p b x =
    x.counted (x.tested + 1) (x.passed + if decide (p.cls b = .pass) then 1 else 0) (x.hist.set b (x.hist[b] + 1)) := by
  unfold Acc.first
  by_cases h : p.cls b = .pass <;> simp [h, Acc.counted]

theorem Acc.retest_self (p : Plan) (a : Bin) (x : Acc) :
    Acc.retest p a a x = x.counted x.tested x.passed x.hist := if_pos rfl

theorem Acc.retest_of_ne {p : Plan} {a b : Bin} (h : a ≠ b) (x : Acc) : Acc.retest p a b x =
    x.counted x.tested (p.passedAfter a b x.passed) ((x.hist.set a (x.hist[a] - 1)).set b (x.hist[b] + 1)) := by
  have hn : a.val ≠ b.val := fun e => h (Fin.ext e)
  unfold Acc.retest
  rw [if_neg h]
  simp [hn, Acc.counted]

/-- Settles O26: the item by its kind and by what its read finds. -/
theorem commitItemEffects : Obligations.CommitItemEffects := by
  refine ⟨fun s n st p w e hw => ?_, fun s n st p e hr => ?_, fun p a b => ⟨?_, ?_, ?_, ?_⟩⟩
  · dsimp only
    intro hacc hst
    have hvoid := fun i => State.voidItem_eq hw (hacc i).2.2 (hst i).2
    have happly := fun c {counts tested passed hist} hcounts => State.applyItem_eq (p := p) (counts := counts)
      (tested := tested) (passed := passed) (hist := hist) hw hcounts ⟨(hacc e.site).1, (hacc e.site).2.1⟩
      (hst e.site).1 c
    refine ⟨fun i => congrArg (·, []) (hvoid i), fun hv => ?_, fun hr hc => ?_⟩
    · rw [State.commitItem_of_no_result (by unfold Plan.isResult; rw [hv]), hvoid]
    · have hread := State.readCell_of_clean hc
      rw [State.commitItem_of_result (Plan.isResult_iff.2 hr)]
      refine ⟨fun hd => ?_, fun hu => ?_, fun a first count i x ht => ⟨fun hf => ?_, fun hf ha => ?_⟩⟩
      · rw [State.mergeItem_of_damaged (by rw [hread]; exact hd), hread, hvoid]
      · rw [State.mergeItem_of_untested (by rw [hread]; exact hu), hread, happly _ (Acc.first_eq p e.bin _)]
        rfl
      · rw [State.mergeItem_of_tested (by rw [hread]; exact ht), hread, hf, happly _ (Acc.retest_self p a _)]
        rfl
      · have hb := Plan.finalBin_of_ne hf
        have hne : a ≠ e.bin := fun h => hf (by rw [hb, h])
        rw [State.mergeItem_of_tested (by rw [hread]; exact ht), hread, hb, happly _ (Acc.retest_of_ne hne _),
          Plan.passedAfter_of_results ha hr]
        rfl
  · have hgo := fun t : State => State.commitItem_of_result (s := t) (n := n) (st := st) (Plan.isResult_iff.2 hr)
    refine ⟨?_, State.readCell_cellWord n e.cell s, fun hc => ?_, fun hu => ?_⟩
    · rw [hgo, hgo, State.mergeItem_congr (State.readCell_readCell e.cell)]
    · rw [State.readCell_of_correctable hc]
    · have hd : (s.readCell n e.cell).2 = .damaged := by rw [State.readCell_of_uncorrectable hu]
      exact ⟨hd, by rw [hgo, State.mergeItem_of_damaged hd]⟩
  · intro h
    unfold Plan.finalBin
    rw [h]
  · intro h hab
    unfold Plan.finalBin
    rw [h]
    exact if_pos hab
  · intro h hab
    unfold Plan.finalBin
    rw [h]
    exact if_neg (by omega)
  · unfold Plan.finalBin
    split
    · rfl
    · exact if_pos (Nat.le_refl _)

end Sys2Proof.Machine
end

section
/-! PROOF. O27, O29 and O30, settled: the order of a commit, the tick and the expiry. -/

namespace Sys2Proof.Machine

/-! ## The items of a group -/

theorem Group.sorted_sites_le (g : Group) : (g.sorted.map Entry.site).Pairwise (· ≤ ·) := by
  unfold Group.sorted
  rw [List.pairwise_map, List.pairwise_flatMap]
  have hmem : ∀ {i : SiteId} {e : Entry}, e ∈ g.entries.filter (fun e => decide (e.site = i)) → e.site = i :=
    fun h => of_decide_eq_true (List.mem_filter.1 h).2
  refine ⟨fun i _ => List.pairwise_iff_forall_sublist.2 fun {a b} hab => ?_,
    (List.sortedLT_finRange 16).pairwise.imp fun {i j} hij a ha b hb => ?_⟩
  · have hsub := hab.subset
    rw [hmem (hsub (List.mem_cons_self ..)), hmem (hsub (by simp))]
  · rw [hmem ha, hmem hb]
    exact Fin.le_of_lt hij

/-- The entries of a commit stand in ascending site order (R69 step 1). -/
theorem Group.sorted_sites_lt {g : Group} (h : (g.entries.map Entry.site).Nodup) :
    (g.sorted.map Entry.site).Pairwise (· < ·) :=
  ((g.sorted_sites_le).and ((g.sorted_perm.map Entry.site).nodup_iff.2 h)).imp fun h => lt_of_le_of_ne h.1 h.2

theorem Group.mem_sorted_sites {g : Group} {i : SiteId} : i ∈ g.sorted.map Entry.site ↔ g.holdsSite i = true := by
  rw [(g.sorted_perm.map Entry.site).mem_iff]
  simp [Group.holdsSite]

theorem Group.mem_missing {g : Group} {i : SiteId} : i ∈ g.missing ↔ g.hasSite i = true ∧ g.holdsSite i = false := by
  simp [Group.missing]

/-! ## Reads ahead -/

section Reading
variable {s : State} {tag : Byte} {n : SlotId} {row first base count : Nat} {cells : List CellRecord}
  (hp : s.inProgress = some (.reading tag n row first base count cells))
include hp

theorem State.readOne_of_done (h : count ≤ cells.length) : s.readOne = s := by
  unfold State.readOne
  rw [hp]
  exact if_neg (by omega)

theorem State.readAhead_of_done (h : count ≤ cells.length) (k : Nat) : State.readAhead k s = s := by
  induction k with
  | zero => rfl
  | succ k ih => rw [State.readAhead, State.readOne_of_done hp h, ih]

theorem State.readOne_of_left (h : cells.length < count) : s.readOne =
    { (s.readCell n (base + cells.length)).1 with
      inProgress := some (.reading tag n row first base count
        (cells ++ [(s.readCell n (base + cells.length)).2])) } := by
  unfold State.readOne
  rw [hp]
  exact if_pos h

end Reading

/-! ## The commit -/

theorem State.commitItem_inProgress (n : SlotId) (i : StationId) (p : Plan) (x : Item) (s : State) :
    (State.commitItem n i p x s).1.inProgress = s.inProgress := by
  have hread : ∀ k, (s.readCell n k).1.inProgress = s.inProgress := fun k => (State.readCell_frame n k s).2.2.2
  have happly : ∀ e c (f : Acc → Acc) {u : State}, (u.applyItem n i p e c f).inProgress = u.inProgress :=
    fun _ _ _ _ => rfl
  have hvoid : ∀ k (u : State), (u.voidItem n i k).inProgress = u.inProgress := fun _ _ => rfl
  unfold State.commitItem
  split
  · exact hvoid _ s
  · split
    · unfold State.mergeItem
      dsimp only
      split
      · exact (happly _ _ _).trans (hread _)
      · exact (happly _ _ _).trans (hread _)
      · exact (hvoid _ _).trans (hread _)
      · exact (hvoid _ _).trans (hread _)
    · exact hvoid _ s

/-- Without a CELL_READ in flight the items of a commit are added one after another. -/
theorem State.commitItems_of_not_reading {s : State} (h : s.reading = false) (n : SlotId) (i : StationId) (p : Plan)
    (xs : List Item) (reads : List Nat) (l : List Refused) :
    ((State.commitItems n i p xs reads s).1, l ++ (State.commitItems n i p xs reads s).2) =
      xs.foldl (fun (a : State × List Refused) x =>
        ((State.commitItem n i p x a.1).1, a.2 ++ (State.commitItem n i p x a.1).2)) (s, l) := by
  induction xs generalizing s l reads with
  | nil => simp [State.commitItems]
  | cons x xs ih =>
    have hr : (State.commitItem n i p x s).1.reading = false := by
      unfold State.reading
      rw [State.commitItem_inProgress]
      exact h
    rw [List.foldl_cons, ← ih hr reads.tail, State.commitItems, State.readAhead_of_not_reading h]
    simp only [List.append_assoc]

/-- Settles O27: the items in order, the fold of a commit, and the reads between its items. -/
theorem commitRunsItemsThenRules : Obligations.CommitRunsItemsThenRules := by
  refine ⟨fun g hg => ?_, fun s n st g w reads hw hr => ?_, fun s n st g w reads hw => ?_, fun s n st p x xs reads => ⟨rfl, rfl⟩,
    fun s k => ⟨rfl, fun h => State.readAhead_of_not_reading h k, fun tag n row first base count cells hp =>
      ⟨fun h => State.readAhead_of_done hp h k, fun h => ?_⟩⟩⟩
  · obtain ⟨-, hin, hsites, -⟩ := hg
    refine ⟨g.sorted, g.missing, g.items_eq, g.sorted_perm, Group.sorted_sites_lt hsites,
      (List.sortedLT_finRange 16).pairwise.filter _, fun i => ?_⟩
    have hheld : g.holdsSite i = true → g.hasSite i = true := fun h => by
      obtain ⟨e, he, hei⟩ := List.any_eq_true.1 h
      rw [← of_decide_eq_true hei]
      exact hin e he
    rw [Group.mem_sorted_sites, Group.mem_missing]
    show g.hasSite i = true ↔ _
    cases hh : g.holdsSite i with
    | true => simp [hheld hh]
    | false => simp
  · rw [State.commit_eq, State.slotPlan_of_slot hw]
    dsimp only
    rw [← State.commitItems_of_not_reading hr n st _ _ reads]
    rfl
  · rw [State.commit_eq, State.slotPlan_of_slot hw]
  · exact congrArg (State.readAhead k) (State.readOne_of_left hp h)

/-! ## The tick -/

theorem Station.tick_eq (x : Station) : x.tick =
    { x with
      silence :=
        if x.binding ≠ none ∧ (x.intake = .running ∨ x.intake = .stopping ∨ x.intake = .halted) ∧
            x.silenceEnds = false then
          if x.silence < 65535 then x.silence + 1 else x.silence
        else 0
      silenceEnds := false
      group := x.group.map fun g => { g with timer := g.timer - 1 } } := by
  have hc : (x.counting = true ∧ x.silenceEnds = false) ↔ (x.binding ≠ none ∧
      (x.intake = .running ∨ x.intake = .stopping ∨ x.intake = .halted) ∧ x.silenceEnds = false) := by
    unfold Station.counting
    cases x.binding <;> cases x.intake <;> simp
  unfold Station.tick
  rw [if_congr hc rfl rfl]
  rfl

theorem State.evalSilence_of_no_rule {s : State}
    (h : ∀ k : Fin 16, s.rules[k].enabled = false ∨ s.rules[k].kind ≠ .linkSilent) (i : StationId) :
    s.evalSilence i = s := by
  refine List.foldl_fixed' (fun k => if_neg ?_) _
  rcases h k with h | h
  · rw [Rule.applies, h]
    simp
  · rw [decide_eq_false h]
    simp

/-- Settles O29: the counters and timers of every station, and the LINK_SILENT rules where one is enabled. -/
theorem tickCountsSilenceAndTimers : Obligations.TickCountsSilenceAndTimers := by
  intro s hr
  have hexec : exec .timerTick s = .next ((List.finRange 8).foldl State.evalSilence
      { s with stations := Vector.ofFn fun i => (s.station i).tick }) := by
    show execTimerTick s = _
    unfold execTimerTick
    rw [if_neg (by simp [hr])]
    rfl
  have hfix : (∀ k : Fin 16, s.rules[k].enabled = false ∨ s.rules[k].kind ≠ .linkSilent) → ∀ v,
      (List.finRange 8).foldl State.evalSilence (s.withStations v) = s.withStations v := fun h v =>
    List.foldl_fixed' (fun i => State.evalSilence_of_no_rule (s := s.withStations v) h i) _
  simp only [Station.tick_eq] at hexec
  exact ⟨hexec, fun h => hexec.trans (congrArg Host.Outcome.next (hfix h _))⟩

/-! ## The expiry -/

/-- The lowest index that a condition holds of is found first. -/
theorem find?_finRange_eq_some {n : Nat} {p : Fin n → Bool} {i : Fin n} (h : p i = true)
    (hlow : ∀ j, j < i → p j = false) : (List.finRange n).find? p = some i := by
  cases hf : (List.finRange n).find? p with
  | none =>
    have := List.find?_eq_none.1 hf i (List.mem_finRange i)
    exact absurd h this
  | some j =>
    obtain ⟨hj, as, bs, hl, has⟩ := List.find?_eq_some_iff_append.1 hf
    have hsorted := (List.sortedLT_finRange n).pairwise
    rw [hl] at hsorted
    have hi : i ∈ as ++ j :: bs := hl ▸ List.mem_finRange i
    rcases List.mem_append.1 hi with hi | hi
    · have := has i hi
      simp [h] at this
    · rcases List.mem_cons.1 hi with rfl | hi
      · rfl
      · have hlt : j < i := (List.pairwise_cons.1 (List.pairwise_append.1 hsorted).2.1).1 i hi
        rw [hlow j hlt] at hj
        cases hj

/-- Settles O30: the expiry of the lowest station, by its mode. -/
theorem expiryTakesLowestStation : Obligations.ExpiryTakesLowestStation := by
  intro s i b g w reads hr hg ht hb hlow hw
  have hx : ∀ j, (s.station j).expired = decide ((s.station j).group.map Group.timer = some 0) := fun _ => rfl
  have hd : s.dueExpiry = some i :=
    find?_finRange_eq_some (by rw [hx, hg]; simp [ht]) fun j hj => by rw [hx, decide_eq_false (hlow j hj)]
  have hexec : exec (.groupExpiry reads []) s = .next (s.expire i b g reads) :=
    (exec_groupExpiry reads [] hr hd hg hb).trans (congrArg Host.Outcome.next (if_pos rfl))
  unfold State.expire at hexec
  rw [State.modAcc_eq hw] at hexec
  refine ⟨fun hm => ?_, fun hm => ?_⟩
  · rw [hexec, hm]
    rfl
  · rw [hexec, hm]
    rfl

end Sys2Proof.Machine
end

section
/-! PROOF. O31 and O32, settled: conditions of rules and their evaluation. -/

namespace Sys2Proof.Machine

/-! ## Conditions -/

section Conditions
variable (r : Rule) {a : Acc}

theorem Rule.yieldFloor_of_zero (h : a.tested = 0) : r.yieldFloor a = .absent := by
  unfold Rule.yieldFloor Acc.testedYield
  rw [h, ratioYield_zero_right]

theorem Rule.yieldFloor_of_pos (h : 0 < a.tested) : r.yieldFloor a =
    ⟨decide (r.minSample ≤ a.tested) && decide ((20000 * a.passed + a.tested) / (2 * a.tested) < r.threshold),
      (20000 * a.passed + a.tested) / (2 * a.tested)⟩ := by
  unfold Rule.yieldFloor Acc.testedYield
  rw [ratioYield_of_pos _ h]

theorem Rule.binCeiling_of_zero (h : a.tested = 0) : r.binCeiling a = .absent := by
  unfold Rule.binCeiling Acc.binFraction
  rw [if_pos h]

theorem Rule.binCeiling_of_pos (h : 0 < a.tested) : r.binCeiling a =
    ⟨decide (r.minSample ≤ a.tested) && decide (r.threshold < a.hist[r.bin] * 1000000 / a.tested),
      a.hist[r.bin] * 1000000 / a.tested⟩ := by
  unfold Rule.binCeiling Acc.binFraction
  rw [if_neg (by omega)]

theorem Rule.siteSkew_of_zero {i : SiteId} (h : a.tested = 0 ∨ a.sites[i].tests = 0) : r.siteSkew a i = .absent := by
  unfold Rule.siteSkew Acc.testedYield SiteTriple.yield
  rcases h with h | h
  · rw [h, ratioYield_zero_right]
  · rw [h, ratioYield_zero_right]
    cases ratioYield a.passed a.tested <;> rfl

theorem Rule.siteSkew_of_pos {i : SiteId} (h : 0 < a.tested) (hi : 0 < a.sites[i].tests) : r.siteSkew a i =
    let ty := (20000 * a.passed + a.tested) / (2 * a.tested)
    let sy := (20000 * a.sites[i].passes + a.sites[i].tests) / (2 * a.sites[i].tests)
    ⟨decide (r.minSample ≤ a.tested) && decide (r.minSample ≤ a.sites[i].tests) && decide (r.threshold ≤ ty) &&
      decide (sy < ty - r.threshold), sy⟩ := by
  unfold Rule.siteSkew Acc.testedYield SiteTriple.yield
  rw [ratioYield_of_pos _ h, ratioYield_of_pos _ hi]

end Conditions

/-- Settles O31: a figure that divides by zero is absent, and every other is compared. -/
theorem ruleConditionsFollowTable : Obligations.RuleConditionsFollowTable := by
  intro r a
  refine ⟨?_, fun h => by rw [Rule.yieldFloor_of_pos r h], ?_, fun h => by rw [Rule.binCeiling_of_pos r h],
    fun i => ⟨?_, fun h hi => by rw [Rule.siteSkew_of_pos r h hi]⟩, decide_eq_true_iff, rfl,
    fun n => ⟨decide_eq_true_iff, rfl, decide_eq_true_iff, rfl⟩⟩
  · rcases Nat.eq_zero_or_pos a.tested with h | h
    · simp [Rule.yieldFloor_of_zero r h, h, Finding.absent]
    · simp [Rule.yieldFloor_of_pos r h, h]
  · rcases Nat.eq_zero_or_pos a.tested with h | h
    · simp [Rule.binCeiling_of_zero r h, h, Finding.absent]
    · simp [Rule.binCeiling_of_pos r h, h]
  · by_cases h : a.tested = 0 ∨ a.sites[i].tests = 0
    · rw [Rule.siteSkew_of_zero r h]
      refine ⟨fun e => (by cases e), fun e => ?_⟩
      omega
    · rw [Rule.siteSkew_of_pos r (by omega) (by omega)]
      simp only [Bool.and_eq_true, decide_eq_true_eq]
      generalize (20000 * a.passed + a.tested) / (2 * a.tested) = ty
      generalize (20000 * a.sites[i].passes + a.sites[i].tests) / (2 * a.sites[i].tests) = sy
      omega

/-! ## One watch -/

section Judge
variable {s : State} {w : Watch} {f : Finding} (a : Alarm)

theorem State.judge_of_trip (hw : w ∉ s.tripped) (hf : f.holds = true) :
    s.judge w f a = State.record a { s with tripped := w :: s.tripped } := by
  unfold State.judge
  rw [if_neg hw, if_pos hf]

theorem State.judge_of_armed (hw : w ∉ s.tripped) (hf : f.holds = false) : s.judge w f a = s := by
  unfold State.judge
  rw [if_neg hw, if_neg (by simp [hf])]

theorem State.judge_of_tripped (hw : w ∈ s.tripped) (hf : f.holds = true) : s.judge w f a = s := by
  unfold State.judge
  rw [if_pos hw, if_pos hf]

theorem State.judge_of_rearm (hw : w ∈ s.tripped) (hf : f.holds = false) :
    s.judge w f a = { s with tripped := s.tripped.filter fun x => decide (x ≠ w) } := by
  unfold State.judge
  rw [if_pos hw, if_neg (by simp [hf])]

end Judge

/-! ## The watches of an evaluation -/

/-- A fold may use what its steps keep. -/
theorem foldl_congr_of_kept {σ β : Type} {f g : σ → β → σ} {P : σ → Prop} (h : ∀ u b, P u → f u b = g u b ∧ P (f u b))
    (l : List β) {s : σ} (hs : P s) : l.foldl f s = l.foldl g s := by
  induction l generalizing s with
  | nil => rfl
  | cons b l ih => rw [List.foldl_cons, List.foldl_cons, ← (h s b hs).1, ih (h s b hs).2]

/-- What an evaluation leaves of the figures it compares: the rules, the slots and the stations' counters. -/
def State.Compares (s t : State) : Prop :=
  t.rules = s.rules ∧ t.slots = s.slots ∧ ∀ j, ((t.station j).consecFail, (t.station j).consecVoid) =
    ((s.station j).consecFail, (s.station j).consecVoid)

theorem State.judge_compares (w : Watch) (f : Finding) (a : Alarm) {s u : State} (h : s.Compares u) :
    s.Compares (u.judge w f a) := by
  obtain ⟨hr, hs, hc⟩ := h
  have hkept : ∀ j, (((u.judge w f a).station j).consecFail, ((u.judge w f a).station j).consecVoid) =
      ((u.station j).consecFail, (u.station j).consecVoid) :=
    State.judge_keeps (fun x => (x.consecFail, x.consecVoid))
      (fun k l x => by obtain ⟨_, _, e⟩ := Station.hold_form k l x; rw [e]) w f a u
  have hform := State.judge_form w f a u
  obtain ⟨_, _, _, _, _, _, _, e⟩ := hform
  refine ⟨?_, ?_, fun j => (hkept j).trans (hc j)⟩
  · rw [e]
    exact hr
  · rw [e]
    exact hs

section Rules
variable {s : State} {n : SlotId} {st : StationId} {k : Fin 16}

theorem Rule.applies_of_not (h : s.rules[k].enabled = false ∨ (s.rules[k].scope ≠ none ∧ s.rules[k].scope ≠ some st)) :
    s.rules[k].applies st = false := by
  unfold Rule.applies
  rcases h with h | ⟨h1, h2⟩
  · rw [h]
    rfl
  · rw [decide_eq_false (by tauto), Bool.and_false]

theorem State.commitRule_of_not_applies (h : s.rules[k].applies st = false) : State.commitRule n st s k = s :=
  if_neg (by simp only [h]; decide)

theorem State.accOf_of_slot {w : Wafer} (h : s.slot n = some w) : s.accOf n = w.acc := by
  unfold State.accOf
  rw [h]

variable (ha : s.rules[k].applies st = true)
include ha

theorem State.commitRule_of_other (h : s.rules[k].kind = .groupTimeouts ∨ s.rules[k].kind = .linkSilent) :
    State.commitRule n st s k = s := by
  unfold State.commitRule
  rw [if_pos ha]
  rcases h with h | h <;> rw [h]

theorem State.commitRule_yieldFloor (h : s.rules[k].kind = .yieldFloor) :
    State.commitRule n st s k = s.judgeSlot k n st Rule.yieldFloor := by
  unfold State.commitRule
  rw [if_pos ha, h]

theorem State.commitRule_binCeiling (h : s.rules[k].kind = .binCeiling) :
    State.commitRule n st s k = s.judgeSlot k n st Rule.binCeiling := by
  unfold State.commitRule
  rw [if_pos ha, h]

theorem State.commitRule_siteSkew (h : s.rules[k].kind = .siteSkew) :
    State.commitRule n st s k = s.judgeSkew k n st := by
  unfold State.commitRule
  rw [if_pos ha, h]

theorem State.commitRule_consecFail (h : s.rules[k].kind = .consecFail) :
    State.commitRule n st s k = s.judgeProbe k st fun x i => x.consecFail[i] := by
  unfold State.commitRule
  rw [if_pos ha, h]

theorem State.commitRule_consecVoid (h : s.rules[k].kind = .consecVoid) :
    State.commitRule n st s k = s.judgeProbe k st fun x i => x.consecVoid[i] := by
  unfold State.commitRule
  rw [if_pos ha, h]

end Rules

/-- The 16 watches of SITE_SKEW, over the figures that stood before the first. -/
theorem State.judgeSkew_eq (k : Fin 16) (n : SlotId) (st : StationId) (s : State) : s.judgeSkew k n st =
    (List.finRange 16).foldl (fun t i => t.judge (.slotSite k n i) (s.rules[k].siteSkew (s.accOf n) i)
      (s.rules[k].alarm k (some n) st (some i) (s.rules[k].siteSkew (s.accOf n) i).observed)) s := by
  refine foldl_congr_of_kept (P := s.Compares) (fun u i hu => ⟨?_, State.judge_compares _ _ _ hu⟩) _
    ⟨rfl, rfl, fun _ => rfl⟩
  obtain ⟨hr, hs, -⟩ := hu
  have hacc : u.accOf n = s.accOf n := by
    unfold State.accOf
    rw [State.slot_congr hs]
  rw [hacc, hr]

/-- Those of CONSEC_FAIL and CONSEC_VOID. -/
theorem State.judgeProbe_eq (k : Fin 16) (st : StationId) (counter : Station → SiteId → Nat)
    (hc : ∀ x y : Station, (y.consecFail, y.consecVoid) = (x.consecFail, x.consecVoid) → counter y = counter x)
    (s : State) : s.judgeProbe k st counter =
    (List.finRange 16).foldl (fun t i => t.judge (.probe k st i) (s.rules[k].consec (counter (s.station st) i))
      (s.rules[k].alarm k none st (some i) (counter (s.station st) i))) s := by
  refine foldl_congr_of_kept (P := s.Compares) (fun u i hu => ⟨?_, State.judge_compares _ _ _ hu⟩) _
    ⟨rfl, rfl, fun _ => rfl⟩
  obtain ⟨hr, -, hcs⟩ := hu
  rw [hc _ _ (hcs st), hr]
  rfl

/-- Settles O32: one watch by Table 7.4, and the watches of each rule by its kind. -/
theorem evaluationTripsInRuleOrder : Obligations.EvaluationTripsInRuleOrder := by
  refine ⟨fun s w f a => ⟨State.judge_of_trip a, State.judge_of_armed a, State.judge_of_tripped a,
    State.judge_of_rearm a⟩, fun s n st k => ⟨rfl, fun h => ?_, fun he hsc w hw => ?_⟩,
    fun s n st k => ⟨rfl, rfl, fun h => ?_, fun h => ?_, fun h => ?_, fun he hsc => ?_⟩⟩
  · cases ha : s.rules[k].applies st with
    | false => exact State.commitRule_of_not_applies ha
    | true =>
      refine State.commitRule_of_other ha ?_
      have hn : ¬(s.rules[k].enabled = false ∨ (s.rules[k].scope ≠ none ∧ s.rules[k].scope ≠ some st)) := fun h => by
        rw [Rule.applies_of_not h] at ha
        cases ha
      tauto
  · have ha : s.rules[k].applies st = true := by
      rw [Rule.applies, he, decide_eq_true hsc]
      rfl
    have hacc := State.accOf_of_slot hw
    refine ⟨fun h => ?_, fun h => ?_, fun h => ?_, fun h => ?_, fun h => ?_⟩
    · rw [State.commitRule_yieldFloor ha h, State.judgeSlot, Rule.alarm, hacc, h]
    · rw [State.commitRule_binCeiling ha h, State.judgeSlot, Rule.alarm, hacc, h]
    · rw [State.commitRule_siteSkew ha h, State.judgeSkew_eq, hacc]
      simp only [Rule.alarm, h]
    · rw [State.commitRule_consecFail ha h, State.judgeProbe_eq _ _ _ (fun x y e => by rw [(Prod.mk.inj e).1])]
      simp only [Rule.alarm, h]
    · rw [State.commitRule_consecVoid ha h, State.judgeProbe_eq _ _ _ (fun x y e => by rw [(Prod.mk.inj e).2])]
      simp only [Rule.alarm, h]
  · have ha := Rule.applies_of_not h
    exact ⟨if_neg (by rw [ha, Bool.false_and]; decide), if_neg (by rw [ha, Bool.false_and]; decide)⟩
  · exact if_neg (by rw [decide_eq_false h, Bool.and_false]; decide)
  · exact if_neg (by rw [decide_eq_false h, Bool.and_false]; decide)
  · have ha : s.rules[k].applies st = true := by
      rw [Rule.applies, he, decide_eq_true hsc]
      rfl
    refine ⟨fun w hw h => ?_, fun h => ?_⟩
    · rw [State.timeoutRule, if_pos (by rw [ha, decide_eq_true h]; rfl), State.judgeSlot, Rule.alarm,
        State.accOf_of_slot hw, h]
      rfl
    · rw [State.silenceRule, if_pos (by rw [ha, decide_eq_true h]; rfl)]
      dsimp only
      rw [Rule.alarm, h]
      rfl

end Sys2Proof.Machine
end

section
/-! PROOF. O33, settled: the recording of an alarm. -/

namespace Sys2Proof.Machine

/-! ## Where an alarm is stored -/

/-- The least urgent level of a list that holds an entry of it and none above it. -/
theorem worstLevel_eq {es : List Alarm} {e : Alarm} (he : e ∈ es) (h : ∀ x ∈ es, x.level ≤ e.level) :
    worstLevel es = e.level.val := by
  have hle : ∀ (l : List Nat) (a m : Nat), (∀ x ∈ l, x ≤ m) → a ≤ m → l.foldl max a ≤ m := by
    intro l
    induction l with
    | nil => exact fun _ _ _ ha => ha
    | cons x l ih =>
      intro a m hl ha
      exact ih _ _ (fun y hy => hl y (List.mem_cons_of_mem _ hy)) (max_le ha (hl x (List.mem_cons_self ..)))
  have hge : ∀ (l : List Nat) (a : Nat), a ≤ l.foldl max a ∧ ∀ x ∈ l, x ≤ l.foldl max a := by
    intro l
    induction l with
    | nil => exact fun a => ⟨le_refl a, by simp⟩
    | cons x l ih =>
      intro a
      obtain ⟨h1, h2⟩ := ih (max a x)
      refine ⟨le_trans (le_max_left a x) h1, fun y hy => ?_⟩
      rcases List.mem_cons.1 hy with rfl | hy
      · exact le_trans (le_max_right a y) h1
      · exact h2 y hy
  refine Nat.le_antisymm (hle _ _ _ (fun x hx => ?_) (Nat.zero_le _)) ((hge _ 0).2 _ (List.mem_map_of_mem he))
  obtain ⟨y, hy, rfl⟩ := List.mem_map.1 hx
  exact h y hy

section Split
variable {α : Type} {p : α → Bool} {before after : List α} {e : α} (hb : ∀ x ∈ before, p x = false) (he : p e = true)
include hb he

theorem findIdx?_split : (before ++ e :: after).findIdx? p = some before.length := by
  have hn : before.findIdx? p = none := List.findIdx?_eq_none_iff.2 hb
  rw [List.findIdx?_append, hn, List.findIdx?_cons, if_pos he]
  simp

theorem eraseP_split : (before ++ e :: after).eraseP p = before ++ after := by
  rw [List.eraseP_append_right _ (fun x hx => by simp [hb x hx]), List.eraseP_cons_of_pos he]

end Split

theorem modify_split {α : Type} (before after : List α) (e : α) (f : α → α) :
    (before ++ e :: after).modify before.length f = before ++ f e :: after := by
  induction before with
  | nil => rfl
  | cons x l ih => simpa using ih

section Store
variable {a e : Alarm} {es before after : List Alarm} (o : Bool)

theorem storeAlarm_of_repeat (hes : es = before ++ e :: after) (hb : ∀ x ∈ before, a.repeatsInto x = false)
    (he : a.repeatsInto e = true) :
    storeAlarm a es o = (before ++ Alarm.repeated a.observed e :: after, o, some before.length) := by
  unfold storeAlarm
  rw [hes, findIdx?_split hb he]
  dsimp only
  rw [modify_split]

variable (hn : ∀ x ∈ es, a.repeatsInto x = false)
include hn

/-- A new entry in a list with room (R145). -/
theorem storeAlarm_of_room (h : es.length < 32) : storeAlarm a es o = (es ++ [a], o, some es.length) := by
  unfold storeAlarm
  rw [List.findIdx?_eq_none_iff.2 hn]
  exact if_pos h

variable (hfull : 32 ≤ es.length)
include hfull

/-- In a full list, the oldest ACKED entry gives way (R146). -/
theorem storeAlarm_of_acked (hes : es = before ++ e :: after) (hb : ∀ x ∈ before, x.state ≠ .acked)
    (he : e.state = .acked) :
    storeAlarm a es o = (before ++ after ++ [a], o, some (before.length + after.length)) := by
  have hany : es.any (fun e => decide (e.state = .acked)) = true :=
    List.any_eq_true.2 ⟨e, by simp [hes], decide_eq_true he⟩
  have herase : es.eraseP (fun e => decide (e.state = .acked)) = before ++ after := by
    rw [hes]
    exact eraseP_split (fun x hx => decide_eq_false (hb x hx)) (decide_eq_true he)
  unfold storeAlarm
  rw [List.findIdx?_eq_none_iff.2 hn]
  refine (if_neg (by omega)).trans ((if_pos hany).trans ?_)
  rw [herase]
  dsimp only
  rw [List.length_append]

variable (hna : ∀ x ∈ es, x.state ≠ .acked)
include hna

theorem storeAlarm_of_no_acked : storeAlarm a es o =
    if a.level.val < worstLevel es then
      let rest := es.eraseP fun e => decide (e.level.val = worstLevel es)
      (rest ++ [a], true, some rest.length)
    else (es, true, none) := by
  have hany : ¬es.any (fun e => decide (e.state = .acked)) = true := fun h => by
    obtain ⟨x, hx, hs⟩ := List.any_eq_true.1 h
    exact hna x hx (of_decide_eq_true hs)
  unfold storeAlarm
  rw [List.findIdx?_eq_none_iff.2 hn]
  exact (if_neg (by omega)).trans (if_neg hany)

end Store

/-! ## The raise and the hold -/

theorem State.raise_of_pending {s : State} {before after : List Alarm} {e : Alarm} (hs : s.alarms = before ++ e :: after)
    (he : e.state = .pending) (hl : e.level.val < s.cal) : s.raise before.length =
      State.addCause .alarm
        { s with alarms := before ++ { e with state := .raised } :: after, cal := e.level.val } := by
  have hset : s.alarms.set before.length { e with state := .raised } = before ++ { e with state := .raised } :: after := by
    simp [hs]
  unfold State.raise
  rw [show s.alarms[before.length]? = some e by simp [hs]]
  dsimp only
  rw [if_pos ⟨he, hl⟩, hset]

theorem State.raise_of_other {s : State} {before after : List Alarm} {e : Alarm} (hs : s.alarms = before ++ e :: after)
    (h : e.state ≠ .pending ∨ s.cal ≤ e.level.val) : s.raise before.length = s := by
  unfold State.raise
  rw [show s.alarms[before.length]? = some e by simp [hs]]
  refine if_neg ?_
  rintro ⟨h1, h2⟩
  rcases h with h | h
  · exact h h1
  · omega

theorem State.heldStation_eq_some {s : State} {a : Alarm} {i : StationId}
    (h : (a.slot = none ∧ a.station = i) ∨ ∃ n, a.slot = some n ∧ s.boundStation n = some i) :
    s.heldStation a = some i := by
  unfold State.heldStation
  rcases h with ⟨h, rfl⟩ | ⟨n, h, hb⟩
  · rw [h]
  · rw [h]
    exact hb

theorem State.act_of_hold {s : State} {a : Alarm} {i : StationId} (ha : a.action = .hold)
    (h : s.heldStation a = some i) : s.act a = s.modStation i (Station.hold a.rule a.level) := by
  unfold State.act
  rw [ha]
  dsimp only
  rw [h]

/-- Settles O33: where an alarm is stored, its raise, and its hold. -/
theorem alarmIsStoredRaisedAndActedOn : Obligations.AlarmIsStoredRaisedAndActedOn := by
  refine ⟨fun s a es o => ⟨fun k h => ?_, fun h => ?_⟩, fun a es o => ⟨fun before after e => storeAlarm_of_repeat o, fun hn =>
    ⟨storeAlarm_of_room o hn, fun hfull => ⟨fun before after e => storeAlarm_of_acked o hn hfull, fun hna before after e hes hb ha =>
      ?_⟩⟩⟩, ⟨fun s before after e hs => ⟨State.raise_of_pending hs, State.raise_of_other hs⟩, fun s a =>
      ⟨fun h => ?_, fun h i hi => ⟨fun hr => ?_, fun hr => ?_⟩, fun n hn hb => ?_⟩⟩⟩
  · unfold State.record
    rw [h]
  · unfold State.record
    rw [h]
  · have hworst : worstLevel es = e.level.val := worstLevel_eq (by simp [hes]) fun x hx => by
      rw [hes, List.mem_append, List.mem_cons] at hx
      rcases hx with hx | rfl | hx
      · exact le_of_lt (hb x hx)
      · exact le_refl _
      · exact ha x hx
    have herase : es.eraseP (fun x => decide (x.level.val = e.level.val)) = before ++ after := by
      rw [hes]
      exact eraseP_split (fun x hx => decide_eq_false (Nat.ne_of_lt (hb x hx))) (decide_eq_true rfl)
    rw [storeAlarm_of_no_acked o hn hfull hna, hworst]
    refine ⟨fun h => (if_pos h).trans ?_, fun h => if_neg (Nat.not_lt.2 h)⟩
    rw [herase]
    dsimp only
    rw [List.length_append]
  · unfold State.act
    rw [h]
  · rw [State.act_of_hold h (State.heldStation_eq_some hi), State.modStation_eq, Station.hold, if_pos hr, Station.order_eq]
  · rw [State.act_of_hold h (State.heldStation_eq_some hi)]
    exact State.modStation_self (if_neg hr)
  · unfold State.act State.heldStation
    rw [hn]
    cases a.action with
    | note => rfl
    | hold =>
      dsimp only
      rw [hb]

end Sys2Proof.Machine
end

section
/-! PROOF. O34 to O36, settled: RULE_SET, ALARM_LIST, ALARM_CLEAR and ALARM_ACK. -/

namespace Sys2Proof.Machine

/-! ## RULE_SET -/

theorem boolOfCode_eq_none {n : Nat} (h : 1 < n) : boolOfCode n = none := by
  unfold boolOfCode
  split <;> first | omega | rfl

theorem RuleAction.ofCode_eq_none {n : Nat} (h : 1 < n) : RuleAction.ofCode n = none := by
  unfold RuleAction.ofCode
  split <;> first | omega | rfl

theorem RuleKind.ofCode_eq_none {n : Nat} (h : 6 < n) : RuleKind.ofCode n = none := by
  unfold RuleKind.ofCode
  split <;> first | omega | rfl

theorem scopeOfCode_eq_none {n : Nat} (h : 7 < n) (hn : n ≠ 255) : scopeOfCode n = none := by
  unfold scopeOfCode
  rw [if_neg hn, inRange_of_le (by omega)]
  rfl

section RuleFields
variable {p : List Byte}

theorem ruleFields_eq {enabled : Bool} {kind : RuleKind} {scope : Option StationId} {level : Fin 8} {action : RuleAction}
    (he : boolOfCode (u8 p 1) = some enabled) (hk : RuleKind.ofCode (u8 p 2) = some kind)
    (hs : scopeOfCode (u8 p 3) = some scope) (hl : u8 p 13 = level.val)
    (ha : RuleAction.ofCode (u8 p 14) = some action) (hb : kind = .binCeiling → u8 p 4 ≤ 63) :
    ruleFields p = some (Rule.clamped enabled kind scope (u8 p 4) (u32 p 5) (u32 p 9) level action) := by
  unfold ruleFields
  rw [he, hk, hs, inRange_of_eq hl, ha]
  refine if_neg ?_
  rintro ⟨h1, h2⟩
  have := hb h1
  omega

/-- Each field out of its range is found by steps 2 and 3 of R132. -/
theorem ruleFields_eq_none (h : 1 < u8 p 1 ∨ 6 < u8 p 2 ∨ (7 < u8 p 3 ∧ u8 p 3 ≠ 255) ∨ 7 < u8 p 13 ∨ 1 < u8 p 14 ∨
    (u8 p 2 = 1 ∧ 63 < u8 p 4)) : ruleFields p = none := by
  unfold ruleFields
  split
  next enabled kind action scope level he hk ha hs hl =>
    refine if_pos ?_
    rcases h with h | h | ⟨h, h'⟩ | h | h | ⟨h, h'⟩
    · rw [boolOfCode_eq_none h] at he
      cases he
    · rw [RuleKind.ofCode_eq_none h] at hk
      cases hk
    · rw [scopeOfCode_eq_none h h'] at hs
      cases hs
    · have := inRange_eq_some.1 hl
      omega
    · rw [RuleAction.ofCode_eq_none h] at ha
      cases ha
    · rw [h] at hk
      exact ⟨(Option.some.inj hk).symm, h'⟩
  next => rfl

end RuleFields

/-- Settles O34: a rule whose fields are in their ranges is clamped by its kind; any other is refused. -/
theorem ruleSetClampsAndArms : Obligations.RuleSetClampsAndArms := by
  intro s r rest ho hk
  have hx := fun t => exec_request_eq (c := .ruleSet) (t := t) rfl ho (ofKind_eq_true_iff.2 hk)
  refine ⟨fun k enabled kind scope level action hk he hkd hs hl ha hb =>
    ⟨Rule.clamped enabled kind scope (u8 r.payload 4) (u32 r.payload 5) (u32 r.payload 9) level action,
      hx _ ?_, rfl, rfl, rfl, rfl, rfl, ?_, ?_, ?_⟩, fun h => hx _ ?_⟩
  · unfold State.ruleSet
    rw [inRange_of_eq hk, ruleFields_eq he hkd hs hl ha hb]
    rfl
  · by_cases hc : kind = .binCeiling
    · have := hb hc
      simp only [Rule.clamped, hc, if_true, Fin.val_ofNat]
      omega
    · simp [Rule.clamped, hc]
  · cases kind with
    | yieldFloor => exact clamp_zero _ _
    | siteSkew => exact clamp_zero _ _
    | binCeiling => exact clamp_zero _ _
    | groupTimeouts => exact clamp_eq (by omega) _
    | consecFail => exact clamp_eq (by omega) _
    | consecVoid => exact clamp_eq (by omega) _
    | linkSilent => exact clamp_eq (by omega) _
  · cases kind with
    | yieldFloor => exact clamp_eq (by omega) _
    | siteSkew => exact clamp_eq (by omega) _
    | binCeiling => exact clamp_eq (by omega) _
    | groupTimeouts => rfl
    | consecFail => rfl
    | consecVoid => rfl
    | linkSilent => rfl
  · unfold State.ruleSet
    rcases h with h | h
    · rw [inRange_of_le (by omega)]
      rfl
    · rw [ruleFields_eq_none h]
      cases inRange 16 (u8 r.payload 0) <;> rfl

/-! ## ALARM_LIST and ALARM_CLEAR -/

/-- The entries of a range of indexes stand together. -/
theorem filter_zipIdx (first count : Nat) (es : List Alarm) (b : Nat) :
    (es.zipIdx b).filter (fun x => decide (first ≤ x.2 ∧ x.2 < first + count)) =
      ((es.drop (first - b)).take (count - (b - first))).zipIdx (max first b) := by
  induction es generalizing b with
  | nil => simp
  | cons e es ih =>
    rw [List.zipIdx_cons, List.filter_cons, ih]
    rcases Nat.lt_or_ge b first with hb | hb
    · rw [if_neg (by simp; omega), show first - b = (first - (b + 1)) + 1 by omega, List.drop_succ_cons,
        show count - (b - first) = count - (b + 1 - first) by omega, show max first b = max first (b + 1) by omega]
    · rw [show first - b = 0 by omega, show first - (b + 1) = 0 by omega, List.drop_zero, List.drop_zero,
        show max first b = b by omega, show max first (b + 1) = b + 1 by omega]
      by_cases hc : b < first + count
      · rw [if_pos (by simp; omega), show count - (b - first) = (count - (b + 1 - first)) + 1 by omega,
          List.take_succ_cons, List.zipIdx_cons]
      · rw [if_neg (by simp; omega), show count - (b - first) = 0 by omega, show count - (b + 1 - first) = 0 by omega]
        simp

theorem alarmRange_eq (first count : Nat) (es : List Alarm) :
    alarmRange first count es = (((es.drop first).take count).zipIdx first).map Prod.swap := by
  have h := filter_zipIdx first count es 0
  rw [Nat.sub_zero, Nat.zero_sub, Nat.sub_zero, Nat.max_zero] at h
  unfold alarmRange
  rw [← h, List.zipIdx_eq_zip_range', ← List.range_eq_range', ← List.zip_swap es, List.filter_map]
  rfl

/-- Settles O35: the range of ALARM_LIST entry by entry, and ALARM_CLEAR. -/
theorem alarmListAndClear : Obligations.AlarmListAndClear := by
  refine ⟨fun s r rest ho hk => ?_, fun s r rest ho hk => ?_⟩
  · have hx := fun t => exec_request_eq (c := .alarmList) (t := t) rfl ho (ofKind_eq_true_iff.2 hk)
    refine ⟨fun h1 h2 h3 => hx _ ?_, fun h => hx _ (if_pos (by omega))⟩
    refine (if_neg (by omega)).trans ?_
    dsimp only
    rw [alarmRange_eq, List.flatMap_map, List.length_map, List.length_zipIdx]
    rfl
  · exact exec_request_eq (c := .alarmClear) rfl ho (ofKind_eq_true_iff.2 hk) rfl

/-! ## ALARM_ACK -/

theorem Alarm.acknowledged_eq (e : Alarm) :
    e.acknowledged = if e.state = .raised then { e with state := .acked } else e := by
  unfold Alarm.acknowledged
  cases e.state <;> rfl

theorem State.raise_of_none_below {s : State} (h : ∀ e ∈ s.alarms, e.state = .pending → s.cal ≤ e.level.val) (k : Nat) :
    s.raise k = s := by
  unfold State.raise
  cases he : s.alarms[k]? with
  | none => rfl
  | some e =>
    refine if_neg ?_
    rintro ⟨hp, hl⟩
    have := h e (List.mem_of_getElem? he) hp
    omega

/-- The most urgent PENDING entry, the oldest of those (R149 step 3). -/
theorem urgentPending_split {before after : List Alarm} {e : Alarm} (he : e.state = .pending)
    (hb : ∀ x ∈ before, x.state = .pending → e.level < x.level)
    (ha : ∀ x ∈ after, x.state = .pending → e.level ≤ x.level) :
    urgentPending (before ++ e :: after) = some before.length := by
  have hlevel : pendingLevel (before ++ e :: after) = e.level.val := by
    refine Nat.le_antisymm (pendingLevel_le (by simp) he) ?_
    have hmem := foldl_min_mem 8 (((before ++ e :: after).filter fun e : Alarm => decide (e.state = .pending)).map
      fun e => e.level.val)
    rcases hmem with h | h
    · have : pendingLevel (before ++ e :: after) = 8 := h
      have := e.level.isLt
      omega
    · obtain ⟨x, hx, hl⟩ := List.mem_map.1 h
      obtain ⟨hx, hxp⟩ := List.mem_filter.1 hx
      have hxp := of_decide_eq_true hxp
      have hle : e.level ≤ x.level := by
        rcases List.mem_append.1 hx with hx | hx
        · exact le_of_lt (hb x hx hxp)
        · rcases List.mem_cons.1 hx with rfl | hx
          · exact le_refl _
          · exact ha x hx hxp
      have : x.level.val = pendingLevel (before ++ e :: after) := hl
      rw [← this]
      exact hle
  unfold urgentPending
  rw [hlevel]
  refine findIdx?_split (fun x hx => decide_eq_false ?_) (decide_eq_true ⟨he, rfl⟩)
  rintro ⟨hp, hl⟩
  exact absurd (hb x hx hp) (by rw [Fin.lt_def]; omega)

section Acknowledge
variable {s : State} {n : Nat}

theorem State.acknowledge_of_none_below
    (h : ∀ e ∈ s.alarms.map Alarm.acknowledged, e.state = .pending → clamp 0 8 n ≤ e.level.val) :
    s.acknowledge n = { s with alarms := s.alarms.map Alarm.acknowledged, cal := clamp 0 8 n } := by
  unfold State.acknowledge
  dsimp only
  split
  · rfl
  · exact State.raise_of_none_below h _

theorem State.acknowledge_of_urgent {before after : List Alarm} {e : Alarm}
    (hs : s.alarms.map Alarm.acknowledged = before ++ e :: after) (he : e.state = .pending)
    (hl : e.level.val < clamp 0 8 n) (hb : ∀ x ∈ before, x.state = .pending → e.level < x.level)
    (ha : ∀ x ∈ after, x.state = .pending → e.level ≤ x.level) :
    s.acknowledge n = State.addCause .alarm
      { s with alarms := before ++ { e with state := .raised } :: after, cal := e.level.val } := by
  unfold State.acknowledge
  dsimp only
  rw [hs, urgentPending_split he hb ha]
  exact State.raise_of_pending (s := { s with alarms := before ++ e :: after, cal := clamp 0 8 n }) rfl he hl

end Acknowledge

/-- Settles O36: nothing is raised where no PENDING entry stands below the level; the most urgent is, where one does. -/
theorem alarmAckRaisesMostUrgent : Obligations.AlarmAckRaisesMostUrgent := by
  intro s r rest ho hk
  have hx := fun t => exec_request_eq (c := .alarmAck) (t := t) rfl ho (ofKind_eq_true_iff.2 hk)
  have hmap : s.alarms.map Alarm.acknowledged =
      s.alarms.map fun e => if e.state = .raised then { e with state := .acked } else e :=
    List.map_congr_left fun e _ => Alarm.acknowledged_eq e
  dsimp only
  rw [← hmap, ← clamp_zero]
  have hok : ∀ {u t : State}, u.acknowledge (u8 r.payload 0) = t → u.alarmAck r = t.ok r [byte t.cal] := fun h => by
    unfold State.alarmAck
    rw [h]
  refine ⟨fun h => hx _ (hok (State.acknowledge_of_none_below (s := { s with requests := rest }) h)), fun before after e hs he hl hb ha => hx _ ?_⟩
  refine (hok (State.acknowledge_of_urgent (s := { s with requests := rest }) hs he hl hb ha)).trans ?_
  rw [State.addCause_cal]
  rfl

end Sys2Proof.Machine
end

section
/-! PROOF. O37 to O40, settled: the requests about plans and lots. -/

namespace Sys2Proof.Machine

/-! ## Plans -/

theorem Policy.ofCode_eq_none {n : Nat} (h : 1 < n) : Policy.ofCode n = none := by
  unfold Policy.ofCode
  split <;> first | omega | rfl

theorem BinClass.ofCode_eq_none {n : Nat} (h : 3 < n) : BinClass.ofCode n = none := by
  unfold BinClass.ofCode
  split <;> first | omega | rfl

section PlanFields
variable {p : List Byte}

theorem planFields_eq {policy : Policy} {lock : Bool} {classes : Bin → BinClass}
    (hp : Policy.ofCode (u8 p 1) = some policy) (hl : boolOfCode (u8 p 3) = some lock)
    (hc : ∀ b : Bin, BinClass.ofCode (u8 p (4 + 2 * b.val)) = some (classes b)) :
    planFields p = some
      { policy := policy
        limit := max 1 (min 15 (u8 p 2))
        passLock := lock
        bins := Vector.ofFn fun b => ⟨classes b, min 63 (u8 p (5 + 2 * b.val))⟩ } := by
  have hbin : binField p = fun b => some ⟨classes b, min 63 (u8 p (5 + 2 * b.val))⟩ := funext fun b => by
    unfold binField
    rw [hc b, clamp_zero]
    rfl
  unfold planFields
  rw [hp, hl, hbin, clamp_eq (by omega)]
  exact if_pos (List.all_eq_true.2 fun _ _ => rfl)

theorem planFields_eq_none (h : 1 < u8 p 1 ∨ 1 < u8 p 3 ∨ ∃ b : Bin, 3 < u8 p (4 + 2 * b.val)) :
    planFields p = none := by
  unfold planFields
  split
  next policy lock hp hl =>
    rcases h with h | h | ⟨b, h⟩
    · rw [Policy.ofCode_eq_none h] at hp
      cases hp
    · rw [boolOfCode_eq_none h] at hl
      cases hl
    · refine if_neg fun hall => ?_
      have := List.all_eq_true.1 hall b (List.mem_finRange b)
      unfold binField at this
      rw [BinClass.ofCode_eq_none h] at this
      cases this
  next => rfl

end PlanFields

theorem State.planInUse_iff {s : State} {k : Fin 4} :
    s.planInUse k = true ↔ ∃ (e : Fin 16) (l : Lot), s.lots[e] = some l ∧ l.plan = k := by
  unfold State.planInUse
  simp [Option.map_eq_some_iff]

/-- Settles O37: PLAN_LOAD of a plan in its ranges by its use, and of any other. -/
theorem planLoadReplacesUnusedPlan : Obligations.PlanLoadReplacesUnusedPlan := by
  intro s r rest ho hk
  have hx := fun t => exec_request_eq (c := .planLoad) (t := t) rfl ho (ofKind_eq_true_iff.2 hk)
  refine ⟨fun k policy lock classes hkk hp hl hc => ?_, fun h => hx _ ?_⟩
  · have hgo : ∀ u : State, u.planLoad r = _ := fun u => by
      unfold State.planLoad
      rw [inRange_of_eq hkk, planFields_eq hp hl hc]
    refine ⟨fun hn => hx _ ((hgo _).trans (if_neg fun hu => ?_)), fun e l hel hlk =>
      hx _ ((hgo _).trans (if_pos (State.planInUse_iff.2 ⟨e, l, hel, hlk⟩)))⟩
    obtain ⟨e, l, hel, hlk⟩ := State.planInUse_iff.1 hu
    exact hn e l hel hlk
  · unfold State.planLoad
    rcases h with h | h
    · rw [inRange_of_le (by omega)]
      rfl
    · rw [planFields_eq_none h]
      cases inRange 4 (u8 r.payload 0) <;> rfl

theorem Vector.toList_eq_map_finRange {α : Type} {n : Nat} (v : Vector α n) :
    v.toList = (List.finRange n).map fun i => v[i] := by
  refine List.ext_getElem (by simp) fun i h1 h2 => ?_
  simp

/-- Settles O38: PLAN_READ and RULE_READ give the fields as they stand. -/
theorem planAndRuleAreReadBack : Obligations.PlanAndRuleAreReadBack := by
  refine ⟨fun s r rest ho hk => ?_, fun s r rest ho hk => ?_⟩
  · have hx := fun t => exec_request_eq (c := .planRead) (t := t) rfl ho (ofKind_eq_true_iff.2 hk)
    refine ⟨fun k hkk => hx _ ?_, fun h => hx _ ?_⟩
    · unfold State.planRead
      rw [inRange_of_eq hkk]
      dsimp only
      rw [Plan.fields, Vector.toList_eq_map_finRange, List.flatMap_map]
      rfl
    · unfold State.planRead
      rw [inRange_of_le (by omega)]
      rfl
  · have hx := fun t => exec_request_eq (c := .ruleRead) (t := t) rfl ho (ofKind_eq_true_iff.2 hk)
    refine ⟨fun k hkk => hx _ ?_, fun h => hx _ ?_⟩
    · unfold State.ruleRead
      rw [inRange_of_eq hkk]
      rfl
    · unfold State.ruleRead
      rw [inRange_of_le (by omega)]
      rfl

/-! ## Lots -/

theorem State.findLot_eq_none {s : State} {id : LotId} (h : ∀ (e : Fin 16) (l : Lot), s.lots[e] = some l → l.id ≠ id) :
    s.findLot id = none := by
  cases hf : s.findLot id with
  | none => rfl
  | some e =>
    obtain ⟨l, hl, hid⟩ := Option.map_eq_some_iff.1 (State.findLot_spec hf)
    exact absurd hid (h e l hl)

theorem State.findLot_isSome {s : State} {e : Fin 16} {l : Lot} (h : s.lots[e] = some l) :
    ∃ f, s.findLot l.id = some f := by
  cases hf : s.findLot l.id with
  | some f => exact ⟨f, rfl⟩
  | none =>
    have := List.find?_eq_none.1 hf e (List.mem_finRange e)
    rw [h] at this
    simp at this

section LotOpen
variable {s : State} {r : Frame}

theorem State.lotOpen_of_range (h : lotIdField r.payload 0 = none ∨ 3 < u8 r.payload 13 ∨ u8 r.payload 14 = 0 ∨
    50 < u8 r.payload 14) : s.lotOpen r = s.status r .badField := by
  unfold State.lotOpen
  split
  next id k hid hk =>
    have := inRange_eq_some.1 hk
    rcases h with h | h | h | h
    · rw [h] at hid
      cases hid
    · omega
    · exact if_pos (.inl h)
    · exact if_pos (.inr h)
  next => rfl

variable {id : LotId} {k : Fin 4} (hid : lotIdField r.payload 0 = some id) (hk : u8 r.payload 13 = k.val)
  (h1 : 1 ≤ u8 r.payload 14) (h50 : u8 r.payload 14 ≤ 50)
include hid hk h1 h50

theorem State.lotOpen_of_exists {f : Fin 16} (hf : s.findLot id = some f) : s.lotOpen r = s.status r .exists := by
  unfold State.lotOpen
  rw [hid, inRange_of_eq hk]
  refine (if_neg (by omega)).trans ?_
  rw [hf]

theorem State.lotOpen_of_full (hf : s.findLot id = none) (he : s.freeLot = none) :
    s.lotOpen r = s.status r .noSpace := by
  unfold State.lotOpen
  rw [hid, inRange_of_eq hk]
  refine (if_neg (by omega)).trans ?_
  rw [hf, he]

theorem State.lotOpen_of_free (hf : s.findLot id = none) {e : Fin 16} (he : s.freeLot = some e) :
    s.lotOpen r = (s.setLot e (some (Lot.new id k (u8 r.payload 14)))).ok r [byte e.val] := by
  unfold State.lotOpen
  rw [hid, inRange_of_eq hk]
  refine (if_neg (by omega)).trans ?_
  rw [hf, he]

end LotOpen

/-- Settles O39: LOT_OPEN check by check. -/
theorem lotOpenTakesLowestFreeEntry : Obligations.LotOpenTakesLowestFreeEntry := by
  intro s r rest ho hk
  have hx := fun t => exec_request_eq (c := .lotOpen) (t := t) rfl ho (ofKind_eq_true_iff.2 hk)
  refine ⟨fun h => hx _ (State.lotOpen_of_range h), fun id k hid hkk h1 h50 => ⟨fun e l hl hlid => hx _ ?_, fun hn =>
    ⟨fun hfull => hx _ ?_, fun e he hlow => hx _ ?_⟩⟩⟩
  · obtain ⟨f, hf⟩ := State.findLot_isSome hl
    exact State.lotOpen_of_exists hid hkk h1 h50 (hlid ▸ hf)
  · refine State.lotOpen_of_full hid hkk h1 h50 (State.findLot_eq_none hn) (List.find?_eq_none.2 fun e _ => ?_)
    have := hfull e
    simpa using this
  · have hfree : s.freeLot = some e := find?_finRange_eq_some (decide_eq_true he) fun f hf => decide_eq_false (hlow f hf)
    exact State.lotOpen_of_free (s := { s with requests := rest }) hid hkk h1 h50 (State.findLot_eq_none hn) hfree

/-! ## Requests that name a lot -/

section WithLot
variable {s : State} {r : Frame} {offset : Nat} (go : Fin 16 → Lot → State → State)

theorem State.withLot_of_malformed (h : lotIdField r.payload offset = none) :
    s.withLot offset r go = s.status r .badField := by
  unfold State.withLot
  rw [h]

theorem State.withLot_of_unknown {id : LotId} (h : lotIdField r.payload offset = some id) (hf : s.findLot id = none) :
    s.withLot offset r go = s.status r .notFound := by
  unfold State.withLot
  rw [h]
  dsimp only
  rw [hf]

theorem State.withLot_of_found {id : LotId} {e : Fin 16} {l : Lot} (h : lotIdField r.payload offset = some id)
    (hf : s.findLot id = some e) (hl : s.lots[e] = some l) : s.withLot offset r go = go e l s := by
  unfold State.withLot
  rw [h]
  dsimp only
  rw [hf]
  dsimp only
  rw [hl]

end WithLot

/-- The rows that name a lot by its id, each with its kind and the place of the id. -/
def lotRows : List (Instr × Byte × Nat) :=
  [(.lotClose, 0x0B, 0), (.lotRelease, 0x0C, 0), (.lotQuery, 0x0D, 0), (.waferOpen, 0x0E, 0), (.yieldQueryLot, 0x14, 1)]

/-- Each of them goes on with the lot. -/
theorem exec_lotRow {s : State} {r : Frame} {rest : List Frame} (ho : s.Offers r rest) {x : Instr × Byte × Nat}
    (hx : x ∈ lotRows) (hk : r.kind = x.2.1) (hsel : r.kind = 0x14 → u8 r.payload 0 = 1) :
    ∃ go, exec x.1 s = .next (State.withLot x.2.2 r go { s with requests := rest }) := by
  have hkind := ofKind_eq_true_iff.2 hk
  simp only [lotRows, List.mem_cons, List.not_mem_nil, or_false] at hx
  rcases hx with rfl | rfl | rfl | rfl | rfl
  · exact ⟨_, exec_request (c := .lotClose) rfl ho hkind⟩
  · exact ⟨_, exec_request (c := .lotRelease) rfl ho hkind⟩
  · exact ⟨_, exec_request (c := .lotQuery) rfl ho hkind⟩
  · exact ⟨_, exec_request (c := .waferOpen) rfl ho hkind⟩
  · have h1 := hsel hk
    refine ⟨_, exec_request_eq (c := .yieldQueryLot) rfl ho (ofCode_of_eq hk h1) (if_pos ?_)⟩
    simp [selectorKnown, h1]

theorem State.lotHasSlot_iff {s : State} {id : LotId} :
    s.lotHasSlot id = true ↔ ∃ (n : SlotId) (w : Wafer), s.slot n = some w ∧ w.lot = id := by
  unfold State.lotHasSlot
  simp [Option.map_eq_some_iff]

/-- Settles O40: the lookup of the lot, and each request by the lot's state. -/
theorem lotRequestsFollowLotState : Obligations.LotRequestsFollowLotState := by
  refine ⟨fun s r rest ho x hx hk hsel => ?_, fun s r rest id e l ho hk hid hf hl => ?_,
    fun s r rest id e l ho hk hid hf hl => ?_, fun s r rest id e l ho hk hid hf hl => ?_⟩
  · obtain ⟨go, hgo⟩ := exec_lotRow ho hx hk hsel
    refine ⟨fun h => hgo.trans (congrArg _ (State.withLot_of_malformed go h)), fun id hid hn =>
      hgo.trans (congrArg _ (State.withLot_of_unknown go hid (State.findLot_eq_none hn)))⟩
  · have hx := fun t h => exec_request_eq (c := .lotClose) (t := t) rfl ho (ofKind_eq_true_iff.2 hk)
      ((State.withLot_of_found (s := { s with requests := rest }) _ hid hf hl).trans h)
    refine ⟨fun hs ha => hx _ ?_, fun hs ha => hx _ ?_, fun hs => hx _ ?_, fun hs => hx _ ?_⟩
    · rw [hs]
      exact if_pos ha
    · rw [hs]
      exact if_neg (by omega)
    · rw [hs]
      rfl
    · rw [hs]
      rfl
  · have hx := fun t h => exec_request_eq (c := .lotRelease) (t := t) rfl ho (ofKind_eq_true_iff.2 hk)
      ((State.withLot_of_found (s := { s with requests := rest }) _ hid hf hl).trans h)
    refine ⟨fun hs hn => ?_, fun h => ?_⟩
    · refine hx _ (if_pos ⟨hs, Bool.eq_false_iff.2 fun hh => ?_⟩)
      obtain ⟨n, w, hw, hwl⟩ := State.lotHasSlot_iff.1 hh
      exact hn n w hw hwl
    · refine hx _ (if_neg ?_)
      rintro ⟨hs, hh⟩
      rcases h with h | h
      · exact h hs
      · have : s.lotHasSlot l.id = true := State.lotHasSlot_iff.2 h
        rw [show ({ s with requests := rest } : State).lotHasSlot l.id = s.lotHasSlot l.id from rfl, this] at hh
        cases hh
  · refine exec_request_eq (c := .lotQuery) rfl ho (ofKind_eq_true_iff.2 hk)
      ((State.withLot_of_found (s := { s with requests := rest }) _ hid hf hl).trans ?_)
    unfold Lot.fields lotIdBytes Totals.counts histFields
    rw [State.ok_record_eq]
    simp only [List.append_assoc, List.cons_append, List.nil_append]

end Sys2Proof.Machine
end

section
/-! PROOF. O41, settled: the opening of a wafer. -/

namespace Sys2Proof.Machine

/-! ## The checks of Table 1.6 -/

theorem gridValid_iff {l : Lot} {p : List Byte} : gridValid l p = true ↔
    1 ≤ u8 p 13 ∧ u8 p 13 ≤ l.expected ∧ 1 ≤ u16 p 14 ∧ u16 p 14 ≤ 256 ∧ 1 ≤ u16 p 16 ∧ u16 p 16 ≤ 256 := by
  simp [gridValid, and_assoc]

theorem outlineValid_iff {p : List Byte} : outlineValid p = true ↔
    spansValid (u16 p 14) (u16 p 16) (spanFields p) = true ∧ u8 p 18 < u16 p 14 ∧ u8 p 19 < u16 p 16 := by
  simp [outlineValid, and_assoc]

theorem State.waferExists_iff {s : State} {l : Lot} {number : Nat} : s.waferExists l number = true ↔
    number ∈ l.closedList ∨ ∃ (m : SlotId) (v : Wafer), s.slot m = some v ∧ v.lot = l.id ∧ v.number = number := by
  unfold State.waferExists
  rw [Bool.or_eq_true, decide_eq_true_iff, or_comm]
  refine or_congr_right ⟨fun h => ?_, fun ⟨m, v, hv, hl, hn⟩ => ?_⟩
  · obtain ⟨m, hm⟩ := Option.isSome_iff_exists.1 h
    obtain ⟨v, hv, -, hl, hn⟩ := State.findWafer_spec hm
    exact ⟨m, v, hv, hl, hn⟩
  · rw [← Option.not_isNone, Bool.not_eq_true', Option.isNone_eq_false_iff]
    by_contra hnone
    rw [Option.not_isSome_iff_eq_none] at hnone
    have := List.find?_eq_none.1 hnone m (List.mem_finRange m)
    rw [hv] at this
    cases hs : v.state <;> simp [hl, hn, hs] at this

section Open
variable {s : State} {r : Frame} {id : LotId} {e : Fin 16} {l : Lot} (hid : lotIdField r.payload 0 = some id)
  (hf : s.findLot id = some e) (hl : s.lots[e] = some l)
include hid hf hl

theorem State.waferOpen_of_state (hs : l.state ≠ .opened) : s.waferOpen r = s.status r .state :=
  (State.withLot_of_found _ hid hf hl).trans (if_pos hs)

variable (hs : l.state = .opened)
include hs

theorem State.waferOpen_of_badField (hg : ¬gridValid l r.payload = true) : s.waferOpen r = s.status r .badField :=
  (State.withLot_of_found _ hid hf hl).trans ((if_neg (not_not.2 hs)).trans (if_pos (Bool.not_eq_true _ ▸ hg)))

variable (hg : gridValid l r.payload = true)
include hg

theorem State.waferOpen_of_exists (he : s.waferExists l (u8 r.payload 13) = true) :
    s.waferOpen r = s.status r .exists :=
  (State.withLot_of_found _ hid hf hl).trans ((if_neg (not_not.2 hs)).trans ((if_neg (by simp [hg])).trans (if_pos he)))

variable (he : ¬s.waferExists l (u8 r.payload 13) = true)
include he

theorem State.waferOpen_of_badSpans (hv : ¬outlineValid r.payload = true) : s.waferOpen r = s.status r .badSpans :=
  (State.withLot_of_found _ hid hf hl).trans ((if_neg (not_not.2 hs)).trans ((if_neg (by simp [hg])).trans
    ((if_neg he).trans (if_pos (Bool.not_eq_true _ ▸ hv)))))

variable (hv : outlineValid r.payload = true)
include hv

theorem State.waferOpen_of_full (hfree : s.freeSlot = none) : s.waferOpen r = s.status r .noSpace := by
  refine (State.withLot_of_found _ hid hf hl).trans ((if_neg (not_not.2 hs)).trans ((if_neg (by simp [hg])).trans
    ((if_neg he).trans ((if_neg (by simp [hv])).trans ?_))))
  rw [hfree]

theorem State.waferOpen_of_free {n : SlotId} (hfree : s.freeSlot = some n) :
    s.waferOpen r = s.takeSlot n e r.tag (Wafer.new l.id r.payload) := by
  refine (State.withLot_of_found _ hid hf hl).trans ((if_neg (not_not.2 hs)).trans ((if_neg (by simp [hg])).trans
    ((if_neg he).trans ((if_neg (by simp [hv])).trans ?_))))
  rw [hfree]

end Open

theorem State.takeSlot_eq {s : State} {n : SlotId} {e : Fin 16} {l : Lot} (hl : s.lots[e] = some l) (tag : Byte)
    (w : Wafer) : s.takeSlot n e tag w =
      { s with
        inProgress := some (.opening tag n)
        lots := s.lots.set e (some { l with active := l.active + 1 })
        slots := s.slots.set n (some w)
        tripped := s.tripped.filter fun x => !Watch.ofSlot n x
        mem := s.mem.writeRun (cellAddress n 0) (w.cols * w.rows) (initialRecord w.cols w.spans) } := by
  unfold State.takeSlot State.modLot
  dsimp only
  rw [show (s.setSlot n (some w)).lots[e] = some l from hl]
  rfl

theorem initialRecord_at {cols : Nat} (spans : List Span) {row col : Nat} (h : col < cols) :
    initialRecord cols spans (row * cols + col) =
      if spans.any fun x => decide (x.row = row ∧ x.first ≤ col ∧ col ≤ x.last) then .untested else .offWafer := by
  have hmod : (row * cols + col) % cols = col := by
    rw [Nat.mul_add_mod', Nat.mod_eq_of_lt h]
  have hdiv : (row * cols + col) / cols = row := by
    rw [Nat.mul_comm, Nat.mul_add_div (by omega), Nat.div_eq_of_lt h, Nat.add_zero]
  unfold initialRecord onWafer
  rw [hmod, hdiv]
  simp only [Bool.decide_and, Bool.and_assoc]

theorem cellAddress_eq_add (n : SlotId) (k : Nat) : cellAddress n k = cellAddress n 0 + k := by
  unfold cellAddress
  omega

/-- Settles O41: the checks in their order, the slot that is taken with its map, and the end of initialisation. -/
theorem waferOpenFollowsItsChecks : Obligations.WaferOpenFollowsItsChecks := by
  refine ⟨?_, ?_, ?_⟩
  · intro s r rest id e l n ho hk hid hf hl hs h1 h2 h3 h4 h5 h6 hno hnc hsp h18 h19 hn hlow
    have hx := fun t => exec_request_eq (c := .waferOpen) (t := t) rfl ho (ofKind_eq_true_iff.2 hk)
    have hheld : ¬State.waferExists { s with requests := rest } l (u8 r.payload 13) = true := fun h => by
      rcases State.waferExists_iff.1 h with h | ⟨m, v, hv, hvl, hvn⟩
      · exact hnc h
      · exact hno m v hv hvl hvn
    have hfree : s.freeSlot = some n :=
      find?_finRange_eq_some (decide_eq_true hn) fun m hm => decide_eq_false (hlow m hm)
    have htake := State.waferOpen_of_free (s := { s with requests := rest }) hid hf hl hs
      (gridValid_iff.2 ⟨h1, h2, h3, h4, h5, h6⟩) hheld (outlineValid_iff.2 ⟨hsp, h18, h19⟩) hfree
    refine ⟨_, hx _ (htake.trans (State.takeSlot_eq (s := { s with requests := rest }) hl _ _)), rfl,
      fun row hrow col hcol => ?_, fun a ha => ?_⟩
    · have hin : row * u16 r.payload 14 + col < u16 r.payload 14 * u16 r.payload 16 :=
        calc row * u16 r.payload 14 + col < row * u16 r.payload 14 + u16 r.payload 14 := Nat.add_lt_add_left hcol _
          _ = u16 r.payload 14 * (row + 1) := by rw [Nat.mul_add, Nat.mul_one, Nat.mul_comm]
          _ ≤ u16 r.payload 14 * u16 r.payload 16 := Nat.mul_le_mul_left _ hrow
      have hword := Mem.word_writeRun_mem s.mem (cellAddress n 0) _
        (initialRecord (u16 r.payload 14) (spanFields r.payload)) hin
      rw [initialRecord_at _ hcol, ← cellAddress_eq_add] at hword
      exact hword
    · rw [cellAddress_eq_add n (_ * _)] at ha
      exact Mem.word_writeRun_ne s.mem _ _ _ ha
  · intro s r rest id e l ho hk hid hf hl
    have hx := fun t => exec_request_eq (c := .waferOpen) (t := t) rfl ho (ofKind_eq_true_iff.2 hk)
    dsimp only
    have hheld := State.waferExists_iff (s := { s with requests := rest }) (l := l) (number := u8 r.payload 13)
    refine ⟨fun hs => hx _ (State.waferOpen_of_state hid hf hl hs), fun hs => ⟨fun hg => ?_, fun hg he => ?_,
      fun hg he hv => ?_, fun hg he hv hfull => ?_⟩⟩
    · exact hx _ (State.waferOpen_of_badField hid hf hl hs (mt gridValid_iff.1 hg))
    · exact hx _ (State.waferOpen_of_exists hid hf hl hs (gridValid_iff.2 hg) (hheld.2 he))
    · exact hx _ (State.waferOpen_of_badSpans hid hf hl hs (gridValid_iff.2 hg) (mt hheld.1 he)
        (mt outlineValid_iff.1 hv))
    · refine hx _ (State.waferOpen_of_full hid hf hl hs (gridValid_iff.2 hg) (mt hheld.1 he) (outlineValid_iff.2 hv) ?_)
      exact List.find?_eq_none.2 fun n _ => mt of_decide_eq_true (hfull n)
  · intro s tag n w hr hp hw
    show execInitialisationComplete s = _
    unfold execInitialisationComplete
    rw [hp]
    dsimp only
    rw [if_neg (by simp [hr]), State.grossOf, hw, State.modWafer,
      show ({ s with inProgress := none } : State).slot n = some w from hw]
    rfl

end Sys2Proof.Machine
end

section
/-! PROOF. O42 to O44, settled: the requests about a slot. -/

namespace Sys2Proof.Machine

/-! ## Requests that name a slot -/

section WithSlot
variable {s : State} {r : Frame} (go : SlotId → State → State)

theorem State.withSlot_of_slot {n : SlotId} (h : u8 r.payload 0 = n.val) : s.withSlot r go = go n s := by
  unfold State.withSlot
  rw [inRange_of_eq h]

theorem State.withSlot_of_range (h : 31 < u8 r.payload 0) : s.withSlot r go = s.status r .badField := by
  unfold State.withSlot
  rw [inRange_of_le (by omega)]

end WithSlot

/-- The rows that name a slot, each with its kind. -/
def slotRows : List (Instr × Byte) :=
  [(.waferClose, 0x0F), (.waferReopen, 0x10), (.waferRelease, 0x11), (.waferQuery, 0x12)]

theorem exec_slotRow {s : State} {r : Frame} {rest : List Frame} (ho : s.Offers r rest) {x : Instr × Byte}
    (hx : x ∈ slotRows) (hk : r.kind = x.2) :
    ∃ go, exec x.1 s = .next (State.withSlot r go { s with requests := rest }) := by
  have hkind := ofKind_eq_true_iff.2 hk
  simp only [slotRows, List.mem_cons, List.not_mem_nil, or_false] at hx
  rcases hx with rfl | rfl | rfl | rfl
  · exact ⟨_, exec_request (c := .waferClose) rfl ho hkind⟩
  · exact ⟨_, exec_request (c := .waferReopen) rfl ho hkind⟩
  · exact ⟨_, exec_request (c := .waferRelease) rfl ho hkind⟩
  · exact ⟨_, exec_request (c := .waferQuery) rfl ho hkind⟩

/-! ## WAFER_REOPEN -/

section Reopen
variable {s : State} {r : Frame} {n : SlotId} (hn : u8 r.payload 0 = n.val)
include hn

theorem State.waferReopen_of_not_closed (h : s.slotIs n .closed = false) :
    s.waferReopen r = s.status r .state := by
  refine (State.withSlot_of_slot _ hn).trans ?_
  split
  · rfl
  next w hw =>
    rw [State.slotIs_of_slot hw] at h
    split
    · rfl
    · exact if_neg fun hc => of_decide_eq_false h hc.1

variable {w : Wafer} {e : Fin 16} {l : Lot} (hw : s.slot n = some w) (hs : w.state = .closed)
  (hf : s.findLot w.lot = some e) (hl : s.lots[e] = some l)
include hw hs hf hl

theorem State.waferReopen_of_closed :
    s.waferReopen r = if l.state = .closed then s.status r .state else (s.reopen n w e).ok r [] := by
  refine (State.withSlot_of_slot _ hn).trans ?_
  rw [hw]
  dsimp only
  rw [hf]
  dsimp only
  rw [hl, Option.map_some]
  by_cases hc : l.state = .closed
  · rw [if_pos hc, if_neg (by simp [hc])]
  · rw [if_neg hc, if_pos ⟨hs, by simpa using hc⟩]

end Reopen

theorem State.reopen_eq {s : State} {e : Fin 16} {l : Lot} (n : SlotId) (w : Wafer) (hl : s.lots[e] = some l) :
    s.reopen n w e = { s with
      slots := s.slots.set n (some { w with state := .opened, closing := none })
      lots := s.lots.set e (some
        { l.leave w.number (w.closing.getD Totals.zero) with active := l.active + 1 }) } := by
  unfold State.reopen State.modLot
  rw [hl]
  rfl

/-- Settles O42: each request by the slot's state. -/
theorem waferCloseReopenRelease : Obligations.WaferCloseReopenRelease := by
  refine ⟨fun s r rest ho => ⟨fun n hn => ⟨?_, ?_, ?_, ?_, ?_, ?_⟩, fun h x hx hk => ?_⟩, fun s r rest n ho hk hn =>
    ⟨fun w t e l hw hs ht hf hl => ?_, fun h => ?_⟩⟩
  · intro hk hs hg
    refine exec_request_eq (c := .waferClose) rfl ho (ofKind_eq_true_iff.2 hk) ((State.withSlot_of_slot _ hn).trans ?_)
    refine (if_pos hs).trans ((if_neg (Bool.eq_false_iff.1 hg)).trans rfl)
  · intro w hw hk hs hg
    have hopened : s.slotIs n .opened = true := by rw [State.slotIs_of_slot hw, hs]; rfl
    refine exec_request_eq (c := .waferClose) rfl ho (ofKind_eq_true_iff.2 hk) ((State.withSlot_of_slot _ hn).trans ?_)
    refine (if_pos hopened).trans ((if_pos hg).trans ?_)
    rw [State.modWafer, show ({ s with requests := rest } : State).slot n = some w from hw]
    rfl
  · intro hk hs
    have hopened : ¬s.slotIs n .opened = true := fun h => by
      have h1 := of_decide_eq_true h
      rw [of_decide_eq_true hs] at h1
      cases h1
    exact exec_request_eq (c := .waferClose) rfl ho (ofKind_eq_true_iff.2 hk)
      ((State.withSlot_of_slot _ hn).trans ((if_neg hopened).trans (if_pos hs)))
  · intro hk h1 h2
    exact exec_request_eq (c := .waferClose) rfl ho (ofKind_eq_true_iff.2 hk)
      ((State.withSlot_of_slot _ hn).trans ((if_neg (Bool.eq_false_iff.1 h1)).trans (if_neg (Bool.eq_false_iff.1 h2))))
  · intro hk hs
    exact exec_request_eq (c := .waferRelease) rfl ho (ofKind_eq_true_iff.2 hk)
      ((State.withSlot_of_slot _ hn).trans (if_pos hs))
  · intro hk hs
    exact exec_request_eq (c := .waferRelease) rfl ho (ofKind_eq_true_iff.2 hk)
      ((State.withSlot_of_slot _ hn).trans (if_neg (Bool.eq_false_iff.1 hs)))
  · obtain ⟨go, hgo⟩ := exec_slotRow ho hx hk
    exact hgo.trans (congrArg _ (State.withSlot_of_range go h))
  · have hx := fun u => exec_request_eq (c := .waferReopen) (t := u) rfl ho (ofKind_eq_true_iff.2 hk)
    have hre := State.waferReopen_of_closed (s := { s with requests := rest }) hn hw hs hf hl
    refine ⟨fun hc => hx _ (hre.trans ((if_neg hc).trans ?_)), fun hc => hx _ (hre.trans (if_pos hc))⟩
    rw [State.reopen_eq (s := { s with requests := rest }) n w hl, ht]
    rfl
  · exact exec_request_eq (c := .waferReopen) rfl ho (ofKind_eq_true_iff.2 hk) (State.waferReopen_of_not_closed hn h)

/-! ## O43 -/

theorem filter_insertNumber {n : Nat} {l : List Nat} (h : n ∉ l) : (insertNumber n l).filter (· ≠ n) = l := by
  have hkeep : ∀ {k : List Nat}, n ∉ k → k.filter (· ≠ n) = k := fun hk =>
    List.filter_eq_self.2 fun x hx => by simpa using fun e : x = n => hk (e ▸ hx)
  induction l with
  | nil => simp [insertNumber]
  | cons m l ih =>
    obtain ⟨hm, hl⟩ := not_or.1 (mt List.mem_cons.2 h)
    unfold insertNumber
    split
    · rw [List.filter_cons, if_neg (by simp), hkeep h]
    · rw [List.filter_cons, if_pos (by simpa using Ne.symm hm), ih hl]

theorem Totals.add_sub (a b : Totals) : (a.add b).sub b = a := by
  unfold Totals.add Totals.sub
  cases a with
  | mk t p g h =>
    simp

/-- A wafer that leaves again the lot it has joined leaves it as it was (R7, R23). -/
theorem Lot.reopens_closes {l : Lot} {w : Wafer} (hs : l.state = .opened) (ha : 1 ≤ l.active)
    (hn : w.number ∉ l.closedList) :
    { (l.closes w).leave w.number w.totals with active := (l.closes w).active + 1 } = l := by
  have hcloses : l.closes w = { l.join w.number w.totals with active := l.active - 1 } :=
    if_neg fun h => by
      have := h.2
      rw [show (l.join w.number w.totals).state = l.state from rfl, hs] at this
      cases this
  rw [hcloses]
  unfold Lot.leave Lot.join
  dsimp only
  rw [filter_insertNumber hn, Totals.add_sub, Nat.sub_add_cancel ha]

/-- Settles O43: a lot's close and a slot's close undone field by field. -/
theorem reopenAfterCloseRestoresLot : Obligations.ReopenAfterCloseRestoresLot := by
  intro s n w e l hw hs hcl hf hl hls ha hnc hsorted v hv
  have hvw : v = w.closed := by
    rw [State.completeClose_slot hw, if_pos rfl] at hv
    exact (Option.some.inj hv).symm
  subst hvw
  have hlots := State.completeClose_lots hw hf hl false
  have hlot : (s.completeClose n false).lots[e] = some (l.closes w) := by
    rw [hlots]
    simp
  have hback : { (l.closes w).leave w.number w.totals with active := (l.closes w).active + 1 } = l :=
    Lot.reopens_closes hls ha hnc
  rw [State.reopen_eq n w.closed hlot]
  refine ⟨?_, ?_⟩
  · rw [show w.closed.closing.getD Totals.zero = w.totals from rfl, show w.closed.number = w.number from rfl, hback, hlots,
      Vector.set_set, ← hl]
    exact Vector.set_getElem_self ..
  · have hwafer : { w.closed with state := .opened, closing := none } = w := by
      unfold Wafer.closed
      rw [← hs, ← hcl]
    rw [hwafer, State.completeClose_slots_eq hw, Vector.set_set, ← hw]
    exact Vector.set_getElem_self ..

/-! ## O44 -/

/-- Settles O44: the fields of a slot. -/
theorem waferQueryReportsSlot : Obligations.WaferQueryReportsSlot := by
  intro s r rest n ho hk hn
  have hx := fun u => exec_request_eq (c := .waferQuery) (t := u) rfl ho (ofKind_eq_true_iff.2 hk)
  refine ⟨fun hw => hx _ ?_, fun w hw => hx _ ?_⟩
  · refine (State.withSlot_of_slot _ hn).trans ?_
    rw [show ({ s with requests := rest } : State).slot n = none from hw]
    rfl
  · refine (State.withSlot_of_slot _ hn).trans ?_
    rw [show ({ s with requests := rest } : State).slot n = some w from hw,
      show ({ s with requests := rest } : State).boundStation n = s.boundStation n from rfl]
    dsimp only
    unfold Wafer.fields lotIdBytes Totals.counts
    cases s.boundStation n <;> cases w.closing <;>
      simp only [State.ok_record_eq, List.append_assoc, List.cons_append, List.nil_append] <;> rfl

end Sys2Proof.Machine
end

section
/-! PROOF. O47, settled: the yields as they are reported. -/

namespace Sys2Proof.Machine

theorem opt16_ratioYield (n d : Nat) :
    opt16 (ratioYield n d) = if d = 0 then [0xFF, 0xFF] else be16 ((20000 * n + d) / (2 * d)) := by
  unfold ratioYield
  split <;> rfl

section YieldSlot
variable {s : State} {r : Frame}

theorem State.yieldSlot_of_range (h : 31 < u8 r.payload 1) : s.yieldSlot r = s.status r .badField := by
  unfold State.yieldSlot
  rw [inRange_of_le (by omega)]

variable {n : SlotId} (hn : u8 r.payload 1 = n.val)
include hn

theorem State.yieldSlot_of_state (h : s.slot n = none ∨ s.slotIs n .exporting = true) :
    s.yieldSlot r = s.status r .state := by
  unfold State.yieldSlot
  rw [inRange_of_eq hn]
  dsimp only
  split
  · rfl
  next w hw =>
    refine if_pos ?_
    rcases h with h | h
    · rw [hw] at h
      cases h
    · rw [State.slotIs_of_slot hw] at h
      exact of_decide_eq_true h

theorem State.yieldSlot_of_slot {w : Wafer} (hw : s.slot n = some w) (hs : w.state ≠ .exporting) :
    s.yieldSlot r = s.ok r (w.yieldFields n) := by
  unfold State.yieldSlot
  rw [inRange_of_eq hn]
  dsimp only
  rw [hw]
  exact if_neg hs

end YieldSlot

/-- Settles O47: YIELD_QUERY by slot and by lot, and with an undefined selector. -/
theorem yieldQueriesReportCounts : Obligations.YieldQueriesReportCounts := by
  refine ⟨fun s r rest ho hk h0 => ?_, fun s r rest id e l ho hk h1 hid hf hl => ?_, fun s r rest ho hk h c hc => ?_⟩
  · have hsel : selectorKnown r = true := decide_eq_true (by omega)
    have hx := fun t h => exec_request_eq (c := .yieldQuerySlot) (t := t) rfl ho (ofCode_of_eq hk h0)
      ((if_pos hsel).trans h)
    dsimp only
    refine ⟨fun n w hn hw hs => hx _ ?_, fun n hn h => hx _ (State.yieldSlot_of_state hn h), fun h =>
      hx _ (State.yieldSlot_of_range h)⟩
    refine (State.yieldSlot_of_slot (s := { s with requests := rest }) hn hw hs).trans ?_
    unfold Wafer.yieldFields Totals.counts histFields
    simp only [← opt16_ratioYield]
    rw [State.ok_record_eq]
    simp only [List.append_assoc]
    rfl
  · have hsel : selectorKnown r = true := decide_eq_true (by omega)
    refine exec_request_eq (c := .yieldQueryLot) rfl ho (ofCode_of_eq hk h1) ((if_pos hsel).trans
      ((State.withLot_of_found (s := { s with requests := rest }) _ hid hf hl).trans ?_))
    unfold Lot.yieldFields lotIdBytes Totals.counts histFields
    simp only [← opt16_ratioYield]
    rw [State.ok_record_eq]
    simp only [List.append_assoc, List.cons_append, List.nil_append]
  · have hsel : ¬selectorKnown r = true := fun hs => by
      have := of_decide_eq_true hs
      omega
    have hundef : ∀ k, ofCode 0x14 0 2 k r = true := fun k => ofCode_of_undefined hk h
    simp only [List.mem_cons, List.not_mem_nil, or_false] at hc
    rcases hc with rfl | rfl
    · exact exec_request_eq (c := .yieldQuerySlot) rfl ho (hundef 0) (if_neg hsel)
    · exact exec_request_eq (c := .yieldQueryLot) rfl ho (hundef 1) (if_neg hsel)

end Sys2Proof.Machine
end

section
/-! PROOF. O45 and O46, settled: reads of cells, and CELL_READ. -/

namespace Sys2Proof.Machine

/-! ## O45 -/

/-- The errors that come before a step change no record (log 4). -/
theorem State.upset_cellRecord (us : List Upset) (s : State) (n : SlotId) (k : Nat) :
    (s.upset us).cellRecord n k = s.cellRecord n k := by
  unfold State.upset
  induction us generalizing s with
  | nil => rfl
  | cons u us ih =>
    rw [List.foldl_cons, ih]
    split
    · exact Mem.record_strike ..
    · rfl

theorem State.upset_rst (us : List Upset) (s : State) : (s.upset us).rst = s.rst := by
  rw [State.upset_eq]

/-- A row that reads goes on from the state the errors leave. -/
theorem reads_from_upset {s : State} (h : s.rst = false) (us : List Upset) (f : State → State) :
    (if s.rst then s else f (s.upset us)) =
      if (s.upset us).rst then s.upset us else f ((s.upset us).upset []) := by
  rw [if_neg (by simp [h]), if_neg (by simp [State.upset_rst, h])]
  rfl

/-- Settles O45: a read by the word's health, and the errors that come before a step. -/
theorem readCorrectsOrDamages : Obligations.ReadCorrectsOrDamages := by
  refine ⟨fun s n k => ⟨State.readCell_of_clean, State.readCell_of_correctable, fun w hw h => ?_,
    State.readCell_cellWord n k s, fun a => State.readCell_word_ne n k s⟩,
    fun s us => ⟨⟨State.upset_eq us s, State.upset_cellRecord us s⟩, fun h cells reads bytes => ?_⟩⟩
  · rw [State.readCell_of_uncorrectable h, State.damage, State.modAcc_eq (s := s.writeCell n k .damaged) hw]
    rfl
  · have hr := fun f => congrArg (Host.Outcome.next (φ := Fault) (ρ := Refusal)) (reads_from_upset h us f)
    refine ⟨hr fun u => State.readAhead cells (if u.reading then u else u.takeRequest (ofKind Code.cellRead) State.cellRead),
      hr fun u => (State.readAhead u.cellsLeft u).finishRead, hr _, hr _, ?_, ?_⟩
    · show execGroupExpiry reads us s bytes = execGroupExpiry reads [] (s.upset us) bytes
      unfold execGroupExpiry
      rw [if_neg (by simp [h]), if_neg (by simp [State.upset_rst, h])]
      rfl
    · show execMapSegmentBuild us s = execMapSegmentBuild [] (s.upset us)
      unfold execMapSegmentBuild
      rw [if_neg (by simp [h]), if_neg (by simp [State.upset_rst, h])]
      rfl

/-! ## The rows of CELL_READ -/

section Rows
variable {s : State} {r : Frame} {rest : List Frame}

theorem State.readCell_rst (n : SlotId) (k : Nat) (s : State) : (s.readCell n k).1.rst = s.rst := by
  obtain ⟨_, _, _, _, _, h⟩ := State.readCell_read n k s
  rw [h]

/-- A waiting CELL_READ is taken, and so many of its cells are read. -/
theorem exec_cellRead_of_offers (ho : s.Offers r rest) (hk : r.kind = 0x13) (k : Nat) :
    exec (.cellRead k []) s = .next (State.readAhead k (State.cellRead r { s with requests := rest })) := by
  have htake := State.takeRequest_of_offers (carry := State.cellRead) ho (ofKind_eq_true_iff.2 hk)
  obtain ⟨hrst, hp, -, -⟩ := ho
  show execCellRead k [] s = _
  unfold execCellRead
  rw [if_neg (by simp [hrst]), show s.upset [] = s from rfl]
  dsimp only
  rw [if_neg (by simp [State.reading, hp]), htake]

theorem exec_cellRead_of_reading (hrst : s.rst = false) (h : s.reading = true) (k : Nat) :
    exec (.cellRead k []) s = .next (State.readAhead k s) := by
  show execCellRead k [] s = _
  unfold execCellRead
  rw [if_neg (by simp [hrst]), show s.upset [] = s from rfl]
  dsimp only
  rw [if_pos h]

theorem exec_cellReadComplete (hrst : s.rst = false) :
    exec (.cellReadComplete []) s = .next (State.readAhead s.cellsLeft s).finishRead := by
  show execCellReadComplete [] s = _
  unfold execCellReadComplete
  rw [if_neg (by simp [hrst])]
  rfl

theorem State.cellRead_of_range (h : 31 < u8 r.payload 0) : s.cellRead r = s.status r .badField :=
  State.withSlot_of_range _ h

variable {n : SlotId} (hn : u8 r.payload 0 = n.val)
include hn

theorem State.cellRead_of_free (hw : s.slot n = none) : s.cellRead r = s.status r .state := by
  refine (State.withSlot_of_slot _ hn).trans ?_
  rw [hw]

theorem State.cellRead_of_slot {w : Wafer} (hw : s.slot n = some w) : s.cellRead r =
    if w.rows ≤ u8 r.payload 1 ∨ w.cols ≤ u8 r.payload 2 then s.status r .badField
    else { s with inProgress := some (.reading r.tag n (u8 r.payload 1) (u8 r.payload 2)
      (u8 r.payload 1 * w.cols + u8 r.payload 2) (cellCount w.cols (u8 r.payload 2) (u16 r.payload 3)) []) } := by
  refine (State.withSlot_of_slot _ hn).trans ?_
  rw [hw]

omit hn in
/-- What taking the request leaves: a CELL_READ in flight, or none. -/
theorem State.cellRead_taken (r : Frame) (hrst : s.rst = false) (hp : s.inProgress = none) :
    (s.cellRead r).rst = false ∧ ((s.cellRead r).inProgress ≠ none → (s.cellRead r).reading = true) := by
  have hstatus : ∀ st, (s.status r st).rst = false ∧
      ((s.status r st).inProgress ≠ none → (s.status r st).reading = true) := fun st =>
    ⟨hrst, fun h => absurd hp h⟩
  rcases Nat.lt_or_ge 31 (u8 r.payload 0) with h | h
  · rw [State.cellRead_of_range h]
    exact hstatus _
  · have hn : u8 r.payload 0 = (⟨u8 r.payload 0, by omega⟩ : SlotId).val := rfl
    cases hw : s.slot ⟨u8 r.payload 0, by omega⟩ with
    | none =>
      rw [State.cellRead_of_free hn hw]
      exact hstatus _
    | some w =>
      rw [State.cellRead_of_slot hn hw]
      split
      · exact hstatus _
      · exact ⟨hrst, fun _ => rfl⟩

end Rows

/-- The count as clamped (R103). -/
theorem cellCount_eq {cols first : Nat} (h : first < cols) (count : Nat) :
    cellCount cols first count = min (max 1 count) (cols - first) := by
  unfold cellCount
  split
  · omega
  · split <;> omega

/-! ## A CELL_READ in flight -/

section InFlight
variable {s : State} {tag : Byte} {n : SlotId} {row first base count : Nat} {cells : List CellRecord}
  (hp : s.inProgress = some (.reading tag n row first base count cells))
include hp

theorem State.reading_of_inProgress : s.reading = true := by
  unfold State.reading
  rw [hp]

theorem State.cellsLeft_eq : s.cellsLeft = count - cells.length := by
  unfold State.cellsLeft
  rw [hp]

theorem State.finishRead_eq : s.finishRead = { s with
    inProgress := none
    ready := s.ready ++ [.reply false ⟨0x93, tag, 0 :: cellReadFields n row first cells⟩] } := by
  unfold State.finishRead
  rw [hp]
  rfl

/-- Over clean words the reads change nothing but their own record of what was found. -/
theorem State.readAhead_of_clean (m : Nat) (hm : cells.length + m = count)
    (hc : ∀ k, cells.length ≤ k → k < count → (s.cellWord n (base + k)).health = .clean) :
    State.readAhead m s = { s with
      inProgress := some (.reading tag n row first base count
        (cells ++ (List.range' cells.length m).map fun k => s.cellRecord n (base + k))) } := by
  induction m generalizing s cells with
  | zero =>
    rw [List.range'_zero, List.map_nil, List.append_nil, ← hp]
    rfl
  | succ m ih =>
    have hread := State.readCell_of_clean (hc cells.length (Nat.le_refl _) (by omega))
    rw [State.readAhead, State.readOne_of_left hp (by omega), hread]
    have hlen : (cells ++ [s.cellRecord n (base + cells.length)]).length = cells.length + 1 := by simp
    refine (ih (s := { s with inProgress := some (.reading tag n row first base count
      (cells ++ [s.cellRecord n (base + cells.length)])) }) rfl (by omega) fun k h1 h2 => hc k (by omega) h2).trans ?_
    rw [List.range'_succ, List.map_cons, hlen, List.append_assoc]
    rfl

end InFlight

theorem fullCode_eq (c : CellRecord) : fullCode c =
    match c with
    | .tested final firstBin tests site _ => [byte final.val, byte firstBin.val, byte (tests * 16 + site.val)]
    | .untested => [64, 0, 0]
    | .damaged => [65, 0, 0]
    | .offWafer => [66, 0, 0] := by
  cases c <;> rfl

/-- Settles O46: CELL_READ by its checks, and its reads one cell at a time. -/
theorem cellReadReadsItsRun : Obligations.CellReadReadsItsRun := by
  refine ⟨⟨fun s r rest ho hk => ?_, fun s tag n row first base count hrst hp hc => ?_⟩,
    fun s tag n row first base count cells hrst hp => ⟨fun hl => ?_, ?_, fun hd k => ?_, fun hd => ?_⟩,
    fun s t r rest ho hk ht k => ?_⟩
  · have hx := fun t h => (exec_cellRead_of_offers ho hk 0).trans (congrArg (Host.Outcome.next (φ := Fault)
      (ρ := Refusal)) (show State.readAhead 0 (State.cellRead r { s with requests := rest }) = t from h))
    refine ⟨fun h => hx _ (State.cellRead_of_range h), fun n hn => ⟨fun hw => hx _ (State.cellRead_of_free hn hw),
      fun w hw => ⟨fun h => hx _ ((State.cellRead_of_slot (s := { s with requests := rest }) hn hw).trans (if_pos h)), fun h1 h2 => hx _ ?_⟩⟩⟩
    rw [← cellCount_eq h2]
    exact (State.cellRead_of_slot (s := { s with requests := rest }) hn hw).trans (if_neg (by omega))
  · have hahead := State.readAhead_of_clean hp count (by simp) fun k _ hk => hc k hk
    rw [exec_cellReadComplete hrst, State.cellsLeft_eq hp]
    refine congrArg _ ((congrArg State.finishRead hahead).trans ((State.finishRead_eq rfl).trans ?_))
    rw [List.nil_append, List.length_nil, ← List.range_eq_range', cellReadFields, List.length_map, List.length_range,
      List.flatMap_map, List.map_map]
    simp only [fullCode_eq]
    rfl
  · have hone := State.readOne_of_left hp hl
    have hreading := State.reading_of_inProgress hp
    have hstep : ∀ k, exec (.cellRead (k + 1) []) s = .next (State.readAhead k s.readOne) := fun k =>
      exec_cellRead_of_reading hrst hreading (k + 1)
    have hrst' : s.readOne.rst = false := by
      rw [hone]
      exact (State.readCell_rst _ _ s).trans hrst
    have hreading' : s.readOne.reading = true := by
      rw [hone]
      rfl
    dsimp only
    rw [← hone]
    refine ⟨hstep 0, fun k => (hstep k).trans (exec_cellRead_of_reading hrst' hreading' k).symm, ?_⟩
    have hleft : s.cellsLeft = s.readOne.cellsLeft + 1 := by
      rw [State.cellsLeft_eq hp, hone, State.cellsLeft_eq rfl, List.length_append]
      simp
      omega
    rw [exec_cellReadComplete hrst, exec_cellReadComplete hrst', hleft]
    rfl
  · exact exec_cellRead_of_reading hrst (State.reading_of_inProgress hp) 0
  · rw [exec_cellRead_of_reading hrst (State.reading_of_inProgress hp), State.readAhead_of_done hp hd]
  · rw [exec_cellReadComplete hrst, State.readAhead_of_done hp hd, State.finishRead_eq hp, cellReadFields]
    rw [funext fullCode_eq]
    rfl
  · have ht' : t = State.cellRead r { s with requests := rest } :=
      (Host.Outcome.next.inj ((exec_cellRead_of_offers ho hk 0).symm.trans ht)).symm
    have hrst := State.cellRead_taken (s := { s with requests := rest }) r ho.1 ho.2.1
    rw [← ht'] at hrst
    refine ⟨ht' ▸ exec_cellRead_of_offers ho hk k, fun hn => State.readAhead_of_not_reading (by
      unfold State.reading
      rw [hn]) k, fun hn => exec_cellRead_of_reading hrst.1 (hrst.2 hn) k⟩

end Sys2Proof.Machine
end

section
/-! PROOF. O49, settled: the die transform. -/

namespace Sys2Proof.Machine

/-- Table 2.2 as one case distinction. -/
theorem rotate_eq (q : Fin 4) (sx sy : Int) : rotate q sx sy =
    (if q = 0 then sx else if q = 1 then -sy else if q = 2 then -sx else sy,
      if q = 0 then sy else if q = 1 then sx else if q = 2 then -sy else -sx) := by
  fin_cases q <;> rfl

theorem rotate_inj {q : Fin 4} {sx sy tx ty : Int} (h : rotate q sx sy = rotate q tx ty) : sx = tx ∧ sy = ty := by
  fin_cases q <;> simp [rotate] at h <;> omega

/-- The exact column and row of a station's coordinates (R29). -/
def dieAt (w : Wafer) (q : Fin 4) (sx sy : Int) : Int × Int := place w (rotate q sx sy)

theorem dieAt_inj {w : Wafer} {q : Fin 4} {sx sy tx ty : Int} (h : dieAt w q sx sy = dieAt w q tx ty) :
    sx = tx ∧ sy = ty := by
  refine rotate_inj (q := q) ?_
  unfold dieAt place at h
  obtain ⟨h1, h2⟩ := Prod.mk.inj h
  exact Prod.ext (by omega) (by omega)

/-- The die lies outside the grid (R30). -/
def offGrid (w : Wafer) (d : Int × Int) : Prop :=
  d.1 < 0 ∨ (w.cols : Int) ≤ d.1 ∨ d.2 < 0 ∨ (w.rows : Int) ≤ d.2

theorem onWafer_iff {spans : List Span} {col row : Int} (hc : 0 ≤ col) (hr : 0 ≤ row) :
    onWafer spans col.toNat row.toNat = true ↔
      ∃ x ∈ spans, (x.row : Int) = row ∧ (x.first : Int) ≤ col ∧ col ≤ (x.last : Int) := by
  unfold onWafer
  simp only [List.any_eq_true, Bool.and_eq_true, decide_eq_true_eq]
  refine exists_congr fun x => and_congr_right fun _ => ?_
  omega

section Transform
variable {w : Wafer} {q : Fin 4} {sx sy : Int}

theorem transform_of_offGrid (h : offGrid w (dieAt w q sx sy)) : transform w q sx sy = .offMap := if_pos h

theorem transform_of_inGrid (h : ¬offGrid w (dieAt w q sx sy)) : transform w q sx sy =
    if onWafer w.spans (dieAt w q sx sy).1.toNat (dieAt w q sx sy).2.toNat then
      .cell ((dieAt w q sx sy).2.toNat * w.cols + (dieAt w q sx sy).1.toNat)
    else .offWafer := if_neg h

theorem transform_eq_offMap_iff : transform w q sx sy = .offMap ↔ offGrid w (dieAt w q sx sy) := by
  refine ⟨fun h => ?_, transform_of_offGrid⟩
  by_contra hn
  rw [transform_of_inGrid hn] at h
  split at h <;> cases h

theorem transform_eq_cell_iff {k : Nat} : transform w q sx sy = .cell k ↔
    (0 ≤ (dieAt w q sx sy).1 ∧ (dieAt w q sx sy).1 < w.cols ∧ 0 ≤ (dieAt w q sx sy).2 ∧
      (dieAt w q sx sy).2 < w.rows) ∧
    (k : Int) = (dieAt w q sx sy).2 * w.cols + (dieAt w q sx sy).1 ∧
    ∃ x ∈ w.spans, (x.row : Int) = (dieAt w q sx sy).2 ∧ (x.first : Int) ≤ (dieAt w q sx sy).1 ∧
      (dieAt w q sx sy).1 ≤ (x.last : Int) := by
  by_cases h : offGrid w (dieAt w q sx sy)
  · rw [transform_of_offGrid h]
    unfold offGrid at h
    refine ⟨fun e => (by cases e), fun ⟨hin, _⟩ => ?_⟩
    omega
  · rw [transform_of_inGrid h]
    unfold offGrid at h
    have hin : 0 ≤ (dieAt w q sx sy).1 ∧ (dieAt w q sx sy).1 < w.cols ∧ 0 ≤ (dieAt w q sx sy).2 ∧
      (dieAt w q sx sy).2 < w.rows := by omega
    have hk : (((dieAt w q sx sy).2.toNat * w.cols + (dieAt w q sx sy).1.toNat : Nat) : Int) =
        (dieAt w q sx sy).2 * w.cols + (dieAt w q sx sy).1 := by
      rw [Int.natCast_add, Int.natCast_mul, Int.toNat_of_nonneg hin.1, Int.toNat_of_nonneg hin.2.2.1]
    rw [← onWafer_iff hin.1 hin.2.2.1]
    split
    next hon =>
      refine ⟨fun e => ⟨hin, (Transformed.cell.inj e) ▸ hk, hon⟩, fun ⟨_, e, _⟩ => congrArg _ ?_⟩
      exact Int.natCast_inj.1 (hk.trans e.symm)
    next hon => exact ⟨fun e => (by cases e), fun ⟨_, _, e⟩ => absurd e hon⟩

end Transform

/-- A cell index gives back its row and column. -/
theorem index_inj {cols col row col' row' : Int} (hc : 0 ≤ col) (hc' : 0 ≤ col') (h : col < cols) (h' : col' < cols)
    (e : row * cols + col = row' * cols + col') : col = col' ∧ row = row' := by
  have hdiv : ∀ {c r : Int}, 0 ≤ c → c < cols → (r * cols + c) / cols = r := fun {c r} h0 h1 => by
    rw [Int.add_comm, Int.add_mul_ediv_right _ _ (by omega), Int.ediv_eq_zero_of_lt h0 h1, Int.zero_add]
  have hrow : row = row' := (hdiv hc h).symm.trans ((congrArg (· / cols) e).trans (hdiv hc' h'))
  subst hrow
  exact ⟨by omega, rfl⟩

/-- Settles O49: the outcome by column and row, and the index both ways. -/
theorem transformIsOneToOne : Obligations.TransformIsOneToOne := by
  intro w q sx sy tx ty
  have hdie : dieAt w q sx sy = (w.refCol + (rotate q sx sy).1, w.refRow - (rotate q sx sy).2) := rfl
  rw [rotate_eq] at hdie
  have hoff := transform_eq_offMap_iff (w := w) (q := q) (sx := sx) (sy := sy)
  have hcell := fun k => transform_eq_cell_iff (w := w) (q := q) (sx := sx) (sy := sy) (k := k)
  refine ⟨?_, ?_, fun k h => ?_, fun k h h' => ?_⟩
  · rw [hdie] at hoff
    exact hoff
  · rw [hdie] at hcell
    exact hcell
  · obtain ⟨⟨h1, h2, h3, h4⟩, hk, -⟩ := (hcell k).1 h
    have hle : ((dieAt w q sx sy).2 + 1) * (w.cols : Int) ≤ w.rows * w.cols :=
      mul_le_mul_of_nonneg_right (by omega) (by omega)
    rw [add_mul, one_mul] at hle
    have : (k : Int) < (w.cols * w.rows : Nat) := by
      rw [Int.natCast_mul, mul_comm]
      omega
    exact Int.ofNat_lt.1 this
  · obtain ⟨⟨h1, h2, h3, h4⟩, hk, -⟩ := (hcell k).1 h
    obtain ⟨⟨g1, g2, g3, g4⟩, gk, -⟩ := transform_eq_cell_iff.1 h'
    obtain ⟨ec, er⟩ := index_inj h1 g1 h2 g2 (hk.symm.trans gk)
    exact dieAt_inj (Prod.ext ec er)

end Sys2Proof.Machine
end

section
/-! PROOF. O50, settled: the requests of the Map Export Unit. -/

namespace Sys2Proof.Machine

/-! ## The requests -/

theorem Detail.ofCode_eq_none {n : Nat} (h : 1 < n) : Detail.ofCode n = none := by
  unfold Detail.ofCode
  split <;> first | omega | rfl

section Start
variable {s : State} {r : Frame}

theorem State.exportStart_of_range (h : 31 < u8 r.payload 0 ∨ 1 < u8 r.payload 1) :
    s.exportStart r = s.status r .badField := by
  unfold State.exportStart
  split
  next n d hn hd =>
    have := inRange_eq_some.1 hn
    rcases h with h | h
    · omega
    · rw [Detail.ofCode_eq_none h] at hd
      cases hd
  next => rfl

variable {n : SlotId} {d : Detail} (hn : u8 r.payload 0 = n.val) (hd : Detail.ofCode (u8 r.payload 1) = some d)
include hn hd

theorem State.exportStart_of_busy (hm : s.mex ≠ none) : s.exportStart r = s.status r .busy := by
  unfold State.exportStart
  rw [inRange_of_eq hn, hd]
  dsimp only
  split
  · rfl
  next h => exact absurd h hm

variable (hm : s.mex = none)
include hm

theorem State.exportStart_of_state (h : s.slotIs n .closed = false) : s.exportStart r = s.status r .state := by
  unfold State.exportStart
  rw [inRange_of_eq hn, hd]
  dsimp only
  rw [hm]
  dsimp only
  split
  · rfl
  next w hw =>
    rw [State.slotIs_of_slot hw] at h
    exact if_neg (of_decide_eq_false h)

theorem State.exportStart_of_closed {w : Wafer} (hw : s.slot n = some w) (hs : w.state = .closed) :
    s.exportStart r = { s with
      slots := s.slots.set n (some { w with state := .exporting })
      mex := some ⟨false, n, d, w.spans.length, 0, clamp 1 64 (u8 r.payload 2), none⟩
      ready := s.ready ++ [answerTo r .ok ([byte n.val, d.code, byte (clamp 1 64 (u8 r.payload 2))] ++
        be16 w.spans.length)] } := by
  unfold State.exportStart
  rw [inRange_of_eq hn, hd]
  dsimp only
  rw [hm]
  dsimp only
  rw [hw]
  exact if_pos hs

end Start

section Stop
variable {s : State} {r : Frame} {rest : List Frame}

theorem exec_exportStop_of_offers (ho : s.Offers r rest) (hk : r.kind = 0x1C) :
    exec .exportStop s = .next (State.exportStop r { s with requests := rest }) := by
  have htake := State.takeRequest_of_offers (carry := State.exportStop) ho (ofKind_eq_true_iff.2 hk)
  show execExportStop s = _
  unfold execExportStop
  split
  next h =>
    rw [ho.2.1] at h
    cases h
  next => rw [htake]

/-- An EXPORT_STOP that waits is completed by its row's next turn: the segment has been sent whole. -/
theorem exec_exportStop_of_stopping {tag : Byte} (hr : s.rst = false) (hp : s.inProgress = some (.stopping tag)) :
    exec .exportStop s = .next ({ s with hostLine := none } : State).stopSent := by
  show execExportStop s = _
  unfold execExportStop
  split
  next => rw [if_neg (by simp [hr])]
  next h => exact absurd hp (h tag)

variable {m : Mex} (hm : s.mex = some m)
include hm

theorem State.stopExport_of_exporting {w : Wafer} (hw : s.slot m.slot = some w) (hx : w.state = .exporting) (tag : Byte) :
    s.stopExport tag = { s with
      mex := none
      slots := s.slots.set m.slot (some { w with state := .closed })
      causes := s.causes.filter fun c => decide (c ≠ .exportWaiting)
      ready := s.ready ++ [.reply false ⟨0x9C, tag, 0 :: be16 m.position⟩] } := by
  unfold State.stopExport
  rw [hm, State.haltExport_of_exporting hm hw hx]
  rfl

theorem State.exportStop_of_sends (h : s.sendsSegment m = true) : s.exportStop r =
    { s with mex := some { m with offered := none }, inProgress := some (.stopping r.tag) } := by
  unfold State.exportStop
  rw [hm]
  exact if_pos h

theorem State.exportStop_of_sent (h : s.sendsSegment m = false) : s.exportStop r = s.stopExport r.tag := by
  unfold State.exportStop
  rw [hm]
  exact if_neg (Bool.eq_false_iff.1 h)

end Stop

theorem State.buildsFor_of_stopping {s : State} {tag : Byte} (h : s.inProgress = some (.stopping tag)) :
    s.buildsFor = none := by
  unfold State.buildsFor State.exportStops
  rw [h]
  rfl

/-- Settles O50: the three requests by the unit's state. -/
theorem exportRequestsByState : Obligations.ExportRequestsByState := by
  refine ⟨fun s r rest ho hk => ?_, fun s r rest ho hk => ?_, fun s r rest ho hk => ?_, fun s tag hr hp =>
    ⟨⟨?_, ?_⟩, fun m w hm hw hx => ?_⟩⟩
  · have hx := fun t => exec_request_eq (c := .exportStart) (t := t) rfl ho (ofKind_eq_true_iff.2 hk)
    refine ⟨fun h => hx _ (State.exportStart_of_range h), fun n d hn hd => ⟨fun hm =>
      hx _ (State.exportStart_of_busy hn hd hm), fun hm h => hx _ (State.exportStart_of_state hn hd hm h),
      fun w hm hw hs => hx _ ?_⟩⟩
    rw [← clamp_eq (show 1 ≤ 64 by omega)]
    exact State.exportStart_of_closed (s := { s with requests := rest }) hn hd hm hw hs
  · have hx := fun t => exec_request_eq (c := .exportMore) (t := t) rfl ho (ofKind_eq_true_iff.2 hk)
    dsimp only
    rw [← clamp_eq (show 1 ≤ 64 by omega)]
    refine ⟨fun hm => hx _ ?_, fun m hm => ⟨fun hw => hx _ ?_, fun hw => hx _ ?_⟩⟩
    · unfold State.exportMore
      dsimp only
      rw [hm]
      rfl
    · unfold State.exportMore
      dsimp only
      rw [hm]
      exact if_pos hw
    · unfold State.exportMore
      dsimp only
      rw [hm]
      exact if_neg (Bool.eq_false_iff.1 hw)
  · refine ⟨fun hm => ?_, fun m w hm hw hx => ⟨fun h => ?_, fun f hf hkf hpos => ?_⟩⟩
    · rw [exec_exportStop_of_offers ho hk]
      unfold State.exportStop State.stopExport
      dsimp only
      rw [hm, answerTo, hk]
      rfl
    · have hsent : State.sendsSegment { s with requests := rest } m = false := by
        unfold State.sendsSegment
        cases hl : s.hostLine with
        | none => rfl
        | some f =>
          refine decide_eq_false ?_
          rintro ⟨h1, h2⟩
          rcases h f hl with h | h
          · exact h h1
          · omega
      rw [exec_exportStop_of_offers ho hk, State.exportStop_of_sent (s := { s with requests := rest }) hm hsent,
        State.stopExport_of_exporting (s := { s with requests := rest }) hm hw hx]
      rw [answerTo, hk]
      rfl
    · have hsends : State.sendsSegment { s with requests := rest } m = true := by
        unfold State.sendsSegment
        dsimp only
        rw [hf]
        exact decide_eq_true ⟨hkf, hpos⟩
      rw [exec_exportStop_of_offers ho hk, State.exportStop_of_sends (s := { s with requests := rest }) hm hsends]
  · show execMapSegmentBuild [] s = _
    unfold execMapSegmentBuild
    rw [if_neg (by simp [hr]), show s.upset [] = s from rfl]
    dsimp only
    rw [State.buildsFor_of_stopping hp]
  · show execExportEndBuild s = _
    unfold execExportEndBuild
    rw [if_neg (by simp [hr]), State.buildsFor_of_stopping hp]
  · rw [exec_exportStop_of_stopping hr hp, State.stopSent_of_stopping (s := { s with hostLine := none }) hp hm hw hx]

end Sys2Proof.Machine
end

section
/-! PROOF. O51, settled: the frames of the Map Export Unit. -/

namespace Sys2Proof.Machine

/-! ## Runs of cells -/

theorem State.readRun_length (n : SlotId) (base k : Nat) (s : State) : (s.readRun n base k).2.length = k := by
  induction k with
  | zero => rfl
  | succ k ih => exact (List.length_append ..).trans (congrArg (· + 1) ih)

/-- A run of clean words is read as it stands, and nothing changes. -/
theorem State.readRun_of_clean {n : SlotId} {base k : Nat} {s : State}
    (h : ∀ j < k, (s.cellWord n (base + j)).health = .clean) :
    s.readRun n base k = (s, (List.range k).map fun j => s.cellRecord n (base + j)) := by
  induction k with
  | zero => rfl
  | succ k ih =>
    have hk := State.readCell_of_clean (h k (Nat.lt_succ_self k))
    rw [List.range_succ, List.map_append]
    unfold State.readRun
    rw [ih fun j hj => h j (Nat.lt_succ_of_lt hj)]
    dsimp only
    rw [hk]
    rfl

/-! ## Building -/

theorem State.buildsFor_of_not_stopping {s : State} (h : ∀ tag, s.inProgress ≠ some (.stopping tag)) :
    s.buildsFor = s.mex := by
  have he : s.exportStops = false := by
    unfold State.exportStops
    split
    next tag ht => exact absurd ht (h tag)
    next => rfl
  unfold State.buildsFor
  rw [he]
  rfl

section Build
variable {s : State} {m : Mex} {w : Wafer} (hr : s.rst = false) (hm : s.mex = some m)
  (hs : ∀ tag, s.inProgress ≠ some (.stopping tag)) (hwait : m.waiting = false) (hoff : m.offered = none)
  (hw : s.slot m.slot = some w)
include hr hm hs hwait hoff hw

theorem exec_mapSegmentBuild {x : Span} (hwin : 0 < m.window) (hpos : m.position < m.spanCount)
    (hx : w.spans[m.position]? = some x) :
    exec (.mapSegmentBuild []) s = .next (s.buildSegment m w x) := by
  have hmay : m.mayBuild = true := by
    unfold Mex.mayBuild
    rw [hwait, hoff, decide_eq_true hwin, decide_eq_true hpos]
    rfl
  show execMapSegmentBuild [] s = _
  unfold execMapSegmentBuild
  rw [if_neg (by simp [hr]), show s.upset [] = s from rfl]
  dsimp only
  rw [State.buildsFor_of_not_stopping hs, hm]
  dsimp only
  rw [hw]
  dsimp only
  rw [hx]
  dsimp only
  rw [if_pos hmay]

theorem exec_exportEndBuild (hpos : m.spanCount ≤ m.position) :
    exec .exportEndBuild s = .next
      { s with mex := some { m with offered := some (.finish (endFrame m.slot w)) } } := by
  show execExportEndBuild s = _
  unfold execExportEndBuild
  rw [if_neg (by simp [hr]), State.buildsFor_of_not_stopping hs, hm]
  dsimp only
  rw [hw]
  dsimp only
  rw [if_pos ⟨hwait, hoff, hpos⟩]

end Build

theorem State.buildSegment_eq (m : Mex) (w : Wafer) (x : Span) (s : State) :
    s.buildSegment m w x = { (s.readRun m.slot (x.row * w.cols + x.first) x.cells).1 with
      mex := some { m with
        offered := some (.segment ⟨0xA1, 0,
          [byte m.slot.val, byte x.row, byte x.first, m.detail.code] ++ be16 x.cells ++
          (s.readRun m.slot (x.row * w.cols + x.first) x.cells).2.flatMap m.detail.cellCode⟩) } } := by
  have hl := State.readRun_length m.slot (x.row * w.cols + x.first) x.cells s
  unfold State.buildSegment segmentFrame
  dsimp only
  rw [hl]

/-- The run of a span, column by column. -/
theorem map_range_eq_map_range' {α : Type} (f : Nat → α) (base first k : Nat) :
    (List.range k).map (fun j => f (base + first + j)) = (List.range' first k).map fun col => f (base + col) := by
  rw [List.range'_eq_map_range, List.map_map]
  exact List.map_congr_left fun j _ => congrArg f (Nat.add_assoc ..)

theorem endFrame_eq (n : SlotId) (w : Wafer) :
    endFrame n w = ⟨0xA2, 0,
      [byte n.val] ++ be32 w.acc.tested ++ be32 w.acc.passed ++ be32 w.gross ++ be32 w.acc.damaged ++
        w.acc.hist.toList.flatMap be32⟩ := by
  unfold endFrame Wafer.totals Totals.counts histFields
  simp only [List.append_assoc, List.cons_append, List.nil_append]

/-! ## Taking -/

section Take
variable {s : State} {m : Mex} {f : Frame} (hm : s.mex = some m)
include hm

theorem exec_mapSegmentTaken_of_ready (h : s.ready ≠ []) : exec .mapSegmentTaken s = .next s := by
  show execMapSegmentTaken s = _
  unfold execMapSegmentTaken
  rw [hm]
  dsimp only
  split
  · rw [if_neg fun hc => h hc.2]
  · rfl

theorem exec_exportEndTaken_of_ready (h : s.ready ≠ []) : exec .exportEndTaken s = .next s := by
  show execExportEndTaken s = _
  unfold execExportEndTaken
  rw [hm]
  dsimp only
  split
  · rw [if_neg fun hc => h hc.2]
  · rfl

variable (hr : s.rst = false) (hd : s.ready = [])
include hr hd

theorem exec_mapSegmentTaken (ho : m.offered = some (.segment f)) :
    exec .mapSegmentTaken s = .next
      (if m.taken.waiting then State.addCause .exportWaiting { s with mex := some m.taken, hostLine := some f }
      else { s with mex := some m.taken, hostLine := some f }) := by
  show execMapSegmentTaken s = _
  unfold execMapSegmentTaken
  rw [hm]
  dsimp only
  rw [ho]
  dsimp only
  rw [if_pos ⟨hr, hd⟩]

theorem exec_exportEndTaken {w : Wafer} (ho : m.offered = some (.finish f)) (hw : s.slot m.slot = some w)
    (hx : w.state = .exporting) :
    exec .exportEndTaken s = .next (State.addCause .exportDone
      { s with
        hostLine := some f
        mex := none
        slots := s.slots.set m.slot (some { w with state := .closed }) }) := by
  have hw' : s.slots[m.slot] = some w := hw
  have hend : ({ s with hostLine := some f } : State).endExport =
      { s with
        hostLine := some f
        mex := none
        slots := s.slots.set m.slot (some { w with state := .closed }) } := by
    simp [State.endExport, State.modWafer, State.setSlot, State.slot, hm, hw', Wafer.endExport, hx]
  show execExportEndTaken s = _
  unfold execExportEndTaken
  rw [hm]
  dsimp only
  rw [ho]
  dsimp only
  rw [hm] at hend
  rw [if_pos ⟨hr, hd⟩, hend]

end Take

/-- The unit goes on while the window holds or no span is left. -/
theorem Mex.taken_of_going {m : Mex} (h : 1 < m.window ∨ m.spanCount ≤ m.position + 1) :
    m.taken = { m with waiting := false, offered := none, window := m.window - 1, position := m.position + 1 } := by
  unfold Mex.taken
  rw [decide_eq_false (by omega)]

/-- The unit waits with the window spent and spans left (R160). -/
theorem Mex.taken_of_spent {m : Mex} (hw : m.window ≤ 1) (hp : m.position + 1 < m.spanCount) :
    m.taken = { m with waiting := true, offered := none, window := 0, position := m.position + 1 } := by
  unfold Mex.taken
  rw [decide_eq_true (by omega), show m.window - 1 = 0 by omega]

/-- Settles O51: a segment over clean words and over any, EXPORT_END, and the frames taken. -/
theorem exportFramesCarryTheMap : Obligations.ExportFramesCarryTheMap := by
  refine ⟨fun s m w x hr hm hs hwait hoff hwin hpos hw hx hle hclean => ?_,
    ⟨fun s m w x hr hm hs hwait hoff hwin hpos hw hx => ?_, fun s n base k => ⟨rfl, rfl⟩,
      fun final first count site station => ⟨rfl, rfl⟩, rfl, rfl, rfl, rfl⟩,
    fun s m w hr hm hs hwait hoff hpos hw => ?_,
    fun s m f hm => ⟨fun h => ⟨exec_mapSegmentTaken_of_ready hm h, exec_exportEndTaken_of_ready hm h⟩,
      fun hr hd ho => ⟨fun h => ?_, fun hwin hpos => ?_⟩, fun w hr hd ho hw hx =>
      exec_exportEndTaken hm hr hd ho hw hx⟩⟩
  · have hrun := State.readRun_of_clean (s := s) (n := m.slot) (base := x.row * w.cols + x.first) (k := x.cells)
      fun j hj => by
        have hj' : j < x.last + 1 - x.first := hj
        rw [Nat.add_assoc]
        exact hclean (x.first + j) (by omega) (by omega)
    rw [exec_mapSegmentBuild hr hm hs hwait hoff hw hwin hpos hx, State.buildSegment_eq, hrun]
    rw [map_range_eq_map_range' (s.cellRecord m.slot), List.flatMap_map]
    rfl
  · rw [exec_mapSegmentBuild hr hm hs hwait hoff hw hwin hpos hx, State.buildSegment_eq]
    rfl
  · rw [exec_exportEndBuild hr hm hs hwait hoff hw hpos, endFrame_eq]
  · have hgo := Mex.taken_of_going h
    rw [exec_mapSegmentTaken hm hr hd ho, hgo]
    rfl
  · have hspent := Mex.taken_of_spent hwin hpos
    rw [exec_mapSegmentTaken hm hr hd ho, hspent]
    rfl

end Sys2Proof.Machine
end

section
/-! PROOF. The closes of a collation restart (R182 steps 1 to 3): what every close on its way leaves as it was due. -/

namespace Sys2Proof.Machine

/-! ## What a restart makes of stations, slots and the ready list -/

/-- A station after a restart: HELD, its queue, binding and group gone, its counts at 0 (R58, R182). -/
def Station.afterRestart (x : Station) : Station := { x.restart with group := none }

/-- A slot after a restart's closes. -/
def Wafer.settled (w : Wafer) : Wafer := if w.state = .closing then w.closed else w

theorem Wafer.settled_of_closing {w : Wafer} (h : w.state = .closing) : w.settled = w.closed := if_pos h

theorem Wafer.settled_of_not {w : Wafer} (h : w.state ≠ .closing) : w.settled = w := if_neg h

theorem Wafer.settled_closed (w : Wafer) : w.closed.settled = w.closed :=
  Wafer.settled_of_not (by simp [Wafer.closed])

/-- A NOTICE is due from a restart: a cause will join an empty set, and none waits. -/
abbrev State.NoticeDue (s : State) : Prop :=
  ReadyFrame.notice ∉ s.ready ∧
    (s.causes = [] ∨ ((∀ n : SlotId, s.slotIs n .closing = false) ∧ ∀ c ∈ s.causes, c = .exportWaiting))

/-- The ready list that a restart leaves ahead of its reply. -/
def State.announced (s : State) : List ReadyFrame := s.ready ++ if s.NoticeDue then [.notice] else []

/-- The state t is on a restart's way from s: where that way ends, for slots and ready list, is as it was at s. -/
structure State.Restarts (s t : State) : Prop where
  slots : ∀ n, (t.slot n).map Wafer.settled = (s.slot n).map Wafer.settled
  ready : t.announced = s.announced

theorem State.Restarts.refl (s : State) : s.Restarts s := ⟨fun _ => rfl, rfl⟩

theorem State.Restarts.trans {s t u : State} (h : s.Restarts t) (h' : t.Restarts u) : s.Restarts u :=
  ⟨fun n => (h'.slots n).trans (h.slots n), h'.ready.trans h.ready⟩

theorem State.announced_congr {s t : State} (hs : t.slots = s.slots) (hc : t.causes = s.causes)
    (hr : t.ready = s.ready) : t.announced = s.announced := by
  have hdue : t.NoticeDue ↔ s.NoticeDue := by
    unfold State.NoticeDue State.slotIs
    simp only [State.slot_congr hs, hc, hr]
  unfold State.announced
  rw [if_congr hdue rfl rfl]
  exact congrArg (· ++ _) hr

/-! ## The ready list past a close -/

theorem State.addCause_ready_of_mem {c x : Cause} {s : State} (h : x ∈ s.causes) : (s.addCause c).ready = s.ready := by
  unfold State.addCause
  split
  · rfl
  · exact if_neg fun hc => List.not_mem_nil (hc.1 ▸ h)

theorem State.releaseActive_ready_of_mem {id : LotId} {x : Cause} {s : State} (h : x ∈ s.causes) :
    (s.releaseActive id).ready = s.ready := by
  unfold State.releaseActive
  split
  · rfl
  · split
    · rfl
    · split
      · exact State.addCause_ready_of_mem (s := s.setLot _ _) h
      · rfl

theorem State.joinLot_bulletin (w : Wafer) (s : State) :
    (s.joinLot w).causes = s.causes ∧ (s.joinLot w).ready = s.ready := by
  unfold State.joinLot
  split <;> exact ⟨rfl, rfl⟩

theorem State.addCause_ready_congr {s t : State} (hc : t.causes = s.causes) (hr : t.ready = s.ready) (c : Cause) :
    (t.addCause c).ready = (s.addCause c).ready := by
  unfold State.addCause State.noticeWaits
  rw [hc, hr]
  split
  · exact hr
  · rfl

theorem State.unbindSlot_bulletin (n : SlotId) (s : State) :
    (s.unbindSlot n).causes = s.causes ∧ (s.unbindSlot n).ready = s.ready := by
  unfold State.unbindSlot
  split <;> exact ⟨rfl, rfl⟩

/-- A deferred close makes ready what adding WAFER_CLOSED makes ready: LOT_CLOSED never joins an empty set. -/
theorem State.completeClose_ready {s : State} {n : SlotId} {w : Wafer} (hw : s.slot n = some w) :
    (s.completeClose n true).ready = (s.addCause .waferClosed).ready := by
  obtain ⟨hc, hr⟩ := State.unbindSlot_bulletin n s
  obtain ⟨hc', hr'⟩ := State.joinLot_bulletin w (s.unbindSlot n)
  rw [State.completeClose_eq_books hw]
  refine (State.releaseActive_ready_of_mem (State.mem_addCause_self _ _)).trans ?_
  exact State.addCause_ready_congr (t := State.setSlot n (some w.closed) ((s.unbindSlot n).joinLot w))
    (hc'.trans hc) (hr'.trans hr) _

theorem State.announced_of_closing {s : State} {n : SlotId} (h : s.slotIs n .closing = true) :
    s.announced = (s.addCause .waferClosed).ready := by
  have hdue : s.NoticeDue ↔ ReadyFrame.notice ∉ s.ready ∧ s.causes = [] :=
    and_congr_right fun _ => or_iff_left fun hx => Bool.false_ne_true ((hx.1 n).symm.trans h)
  unfold State.announced State.addCause State.noticeWaits
  by_cases hm : Cause.waferClosed ∈ s.causes
  · have hne : ¬ s.NoticeDue := fun hd => List.not_mem_nil ((hdue.1 hd).2 ▸ hm)
    rw [if_pos hm, if_neg hne, List.append_nil]
  · rw [if_neg hm]
    by_cases hd : s.NoticeDue
    · obtain ⟨hno, hem⟩ := hdue.1 hd
      rw [if_pos hd]
      exact (if_pos ⟨hem, decide_eq_false hno⟩).symm
    · rw [if_neg hd, List.append_nil]
      exact (if_neg fun hx => hd (hdue.2 ⟨of_decide_eq_false hx.2, hx.1⟩)).symm

theorem State.announced_of_mem {s : State} (h : Cause.waferClosed ∈ s.causes) : s.announced = s.ready := by
  have hne : ¬ s.NoticeDue := by
    rintro ⟨-, hx | hx⟩
    · exact List.not_mem_nil (hx ▸ h)
    · exact absurd (hx.2 _ h) (by decide)
  unfold State.announced
  rw [if_neg hne, List.append_nil]

/-! ## The steps -/

theorem State.Restarts.completeClose {s : State} {n : SlotId} (h : s.slotIs n .closing = true) :
    s.Restarts (s.completeClose n true) := by
  obtain ⟨w, hw, hc⟩ := State.slotIs_iff.1 h
  refine ⟨fun m => ?_, ?_⟩
  · rw [State.completeClose_slot hw]
    split
    · next hnm =>
      rw [← hnm, hw]
      exact congrArg some ((Wafer.settled_closed w).trans (Wafer.settled_of_closing hc).symm)
    · rfl
  · rw [State.announced_of_mem (State.waferClosed_mem hw), State.completeClose_ready hw, State.announced_of_closing h]

/-- A property that every close and every change at the stations keeps, a restart keeps up to the Map Export Unit. -/
structure State.KeptByCloses (P : State → Prop) : Prop where
  close : ∀ s n, s.slotIs n .closing = true → P s → P (s.completeClose n true)
  stations : ∀ s v tr, P s → P { s with stations := v, tripped := tr }

theorem foldl_keeps {α β : Type} {P : β → Prop} {f : β → α → β} (h : ∀ b a, P b → P (f b a)) (l : List α) {b : β}
    (hb : P b) : P (l.foldl f b) := by
  induction l generalizing b with
  | nil => exact hb
  | cons a l ih => exact ih (h b a hb)

section Keep
variable {P : State → Prop} (h : State.KeptByCloses P)
include h

theorem State.KeptByCloses.modStation (i : StationId) (f : Station → Station) {s : State} (hs : P s) :
    P (s.modStation i f) :=
  h.stations s (s.modStation i f).stations s.tripped hs

theorem State.KeptByCloses.finishClosing (n : SlotId) {s : State} (hs : P s) : P (s.finishClosing n) := by
  unfold State.finishClosing
  split
  next hc => exact h.close s n hc hs
  next => exact hs

theorem State.KeptByCloses.discardGroup (i : StationId) {s : State} (hs : P s) : P (s.discardGroup i) := by
  unfold State.discardGroup State.endGroup
  split
  · refine h.modStation i _ ?_
    split
    · exact h.modStation i _ hs
    · exact h.finishClosing _ (h.modStation i _ hs)
  · exact hs

theorem State.KeptByCloses.discardGroups {s : State} (hs : P s) : P s.discardGroups :=
  foldl_keeps (fun _ i ht => h.discardGroup i ht) _ hs

theorem State.KeptByCloses.finishSlots {s : State} (hs : P s) : P s.finishSlots :=
  foldl_keeps (fun _ n ht => h.finishClosing n ht) _ hs

theorem State.KeptByCloses.restartStations {s : State} (hs : P s) : P s.restartStations :=
  h.stations s s.restartStations.stations s.restartStations.tripped hs

theorem State.KeptByCloses.collate {s : State} (hs : P s) : P s.discardGroups.restartStations.finishSlots :=
  h.finishSlots (h.restartStations (h.discardGroups hs))

end Keep

theorem State.Restarts.kept (s : State) : State.KeptByCloses s.Restarts where
  close _ _ hc h := h.trans (.completeClose hc)
  stations t _ _ h := h.trans ⟨fun _ => rfl, State.announced_congr (s := t) rfl rfl rfl⟩

/-! ## The stations -/

theorem Station.finishStop_afterRestart (x : Station) : x.finishStop.afterRestart = x.afterRestart := by
  unfold Station.finishStop
  split <;> rfl

theorem State.discardGroup_afterRestart (i : StationId) (s : State) (j : StationId) :
    ((s.discardGroup i).station j).afterRestart = (s.station j).afterRestart := by
  unfold State.discardGroup State.endGroup
  split
  · rw [State.modStation_keeps Station.afterRestart i _ (Station.finishStop_afterRestart _) j]
    have hmod := State.modStation_keeps Station.afterRestart i (f := fun x => { x with group := none }) s rfl j
    split
    · exact hmod
    · exact (State.finishClosing_keeps Station.afterRestart (fun _ => rfl) _ _ j).trans hmod
  · rfl

theorem State.discardGroups_afterRestart (s : State) (j : StationId) :
    (s.discardGroups.station j).afterRestart = (s.station j).afterRestart :=
  foldl_keeps (P := fun t : State => (t.station j).afterRestart = (s.station j).afterRestart)
    (fun t i ht => (State.discardGroup_afterRestart i t j).trans ht) _ rfl

theorem State.restartStations_station (s : State) (i : StationId) :
    s.restartStations.station i = (s.station i).restart := by
  simp [State.station, State.restartStations, State.arm]

theorem Station.restart_of_group {x : Station} (h : x.group = none) : x.restart = x.afterRestart :=
  congrArg (fun g => { x.restart with group := g }) h

/-- With every binding gone, a close is nothing to the stations. -/
theorem State.finishClosing_station_of_unbound {s : State} (h : ∀ i, (s.station i).binding = none) (n : SlotId)
    (i : StationId) : (s.finishClosing n).station i = s.station i := by
  unfold State.finishClosing
  split
  next hc =>
    obtain ⟨w, hw, -⟩ := State.slotIs_iff.1 hc
    rw [State.completeClose_station hw]
    refine if_neg fun hb => ?_
    have hbound := State.bound_of_boundStation hb
    unfold Station.bound at hbound
    rw [h i] at hbound
    cases hbound
  next => rfl

/-- Steps 1, 2, 3, 5 and 6 of a restart at the stations (R182). -/
theorem State.collate_station (s : State) (i : StationId) :
    s.discardGroups.restartStations.finishSlots.station i = (s.station i).afterRestart := by
  have hgroups : ∀ j, (s.discardGroups.station j).group = none :=
    (State.discardGroups_run (D := [.engine]) (List.mem_singleton_self _) s).2
  have hstart : ∀ j, s.discardGroups.restartStations.station j = (s.station j).afterRestart := fun j => by
    rw [State.restartStations_station, Station.restart_of_group (hgroups j), State.discardGroups_afterRestart]
  have hall := foldl_keeps (P := fun t : State => ∀ j, t.station j = (s.station j).afterRestart)
    (f := fun t n => t.finishClosing n)
    (fun t n ht j => (State.finishClosing_station_of_unbound (fun k => by rw [ht k]; rfl) n j).trans (ht j))
    (List.finRange 32) hstart
  exact hall i

/-! ## What is left at the end -/

theorem State.finishClosing_slotIs (n m : SlotId) (s : State) :
    (s.finishClosing n).slotIs m .closing = (decide (n ≠ m) && s.slotIs m .closing) := by
  unfold State.finishClosing
  split
  next hc =>
    obtain ⟨w, hw, -⟩ := State.slotIs_iff.1 hc
    unfold State.slotIs
    rw [State.completeClose_slot hw]
    by_cases hnm : n = m <;> simp [hnm, Wafer.closed]
  next hc =>
    by_cases hnm : n = m
    · subst hnm
      simp [hc]
    · simp [hnm]

/-- No slot is left CLOSING. -/
theorem State.finishSlots_slotIs (s : State) (m : SlotId) : s.finishSlots.slotIs m .closing = false := by
  have hall : ∀ (l : List SlotId) (t : State), (m ∈ l ∨ t.slotIs m .closing = false) →
      (l.foldl (fun t n => t.finishClosing n) t).slotIs m .closing = false := by
    intro l
    induction l with
    | nil => exact fun t h => h.resolve_left List.not_mem_nil
    | cons n l ih =>
      intro t h
      refine ih (t.finishClosing n) ?_
      rw [State.finishClosing_slotIs]
      rcases h with h | h
      · rcases List.mem_cons.1 h with rfl | h
        · exact .inr (by simp)
        · exact .inl h
      · exact .inr (by rw [h, Bool.and_false])
  exact hall _ s (.inl (List.mem_finRange m))

/-- What the steps before the Map Export Unit's leave alone. -/
theorem State.collate_form (s : State) : ∃ st sl l cs r, s.discardGroups.restartStations.finishSlots =
    { s with
      stations := st, slots := sl, lots := l, causes := cs, ready := r
      tripped := s.tripped.filter fun w => !Watch.ofStationKind w } := by
  obtain ⟨st, sl, l, cs, r, h⟩ : s.Ended s.discardGroups :=
    foldl_keeps (P := fun t => s.Ended t) (fun t i ht => ht.trans (State.discardGroup_ended i t)) _ (.refl s)
  obtain ⟨st', sl', l', cs', r', h'⟩ :
      s.discardGroups.restartStations.Ended s.discardGroups.restartStations.finishSlots :=
    foldl_keeps (P := fun t => s.discardGroups.restartStations.Ended t)
      (fun t n ht => ht.trans (State.finishClosing_ended n t)) _ (.refl _)
  refine ⟨st', sl', l', cs', r', ?_⟩
  rw [h', h]
  rfl

end Sys2Proof.Machine
end

section
/-! PROOF. The lots past the closes of a collation restart (R6, R7, R182): each close takes from what is due to its lot
what it adds to it. -/

namespace Sys2Proof.Machine

/-! ## What is due to a lot -/

/-- The wafers of a lot that a restart closes. -/
def State.closes (s : State) (id : LotId) : List Wafer :=
  (List.finRange 32).filterMap fun n => (s.slot n).filter fun w => decide (w.state = .closing ∧ w.lot = id)

/-- The closes that are due end a CLOSING lot (R6). -/
def Lot.endsWith (c : List Wafer) (l : Lot) : Bool :=
  decide (l.state = .closing ∧ c ≠ [] ∧ l.active = c.length)

/-- A lot once the closes that are due have come, its closed list left out. -/
def Lot.afterCloses (c : List Wafer) (l : Lot) : Lot :=
  { l with
    state := if l.endsWith c then .closed else l.state
    closedList := []
    totals :=
      ⟨l.totals.tested + (c.map fun w => w.acc.tested).sum, l.totals.passed + (c.map fun w => w.acc.passed).sum,
        l.totals.gross + (c.map fun w => w.gross).sum,
        Vector.ofFn fun b => l.totals.hist[b] + (c.map fun w => w.acc.hist[b]).sum⟩
    active := l.active - c.length }

/-- What a lot comes to: its record, and the numbers its closed list will hold. -/
def Lot.due (c : List Wafer) (l : Lot) : Lot × (Nat → Prop) :=
  (l.afterCloses c, fun k => k ∈ l.closedList ∨ k ∈ c.map Wafer.number)

theorem Lot.endsWith_perm {c d : List Wafer} (h : c.Perm d) (l : Lot) : l.endsWith c = l.endsWith d := by
  have hne : c ≠ [] ↔ d ≠ [] := not_congr ⟨fun he => (he ▸ h).nil_eq.symm, fun he => (he ▸ h).eq_nil⟩
  unfold Lot.endsWith
  rw [decide_eq_decide, h.length_eq, hne]

theorem Lot.due_perm {c d : List Wafer} (h : c.Perm d) (l : Lot) : l.due c = l.due d := by
  have hsum : ∀ f : Wafer → Nat, (c.map f).sum = (d.map f).sum := fun f => (h.map f).sum_eq
  unfold Lot.due Lot.afterCloses
  simp only [hsum, Lot.endsWith_perm h, h.length_eq, (h.map Wafer.number).mem_iff]

theorem Lot.endsWith_nil (l : Lot) : l.endsWith [] = false := decide_eq_false fun h => h.2.1 rfl

theorem Lot.afterCloses_nil (l : Lot) : l.afterCloses [] = { l with closedList := [] } := by
  have ht : (Vector.ofFn fun b : Bin => l.totals.hist[b] + 0) = l.totals.hist :=
    Vector.ext fun k hk => by rw [Vector.getElem_ofFn]; rfl
  unfold Lot.afterCloses
  rw [Lot.endsWith_nil]
  exact congrArg (fun v => { l with closedList := [], totals := { l.totals with hist := v } }) ht

theorem Lot.closes_state (w : Wafer) (l : Lot) :
    (l.closes w).state = if l.active - 1 = 0 ∧ l.state = .closing then .closed else l.state :=
  apply_ite Lot.state (l.active - 1 = 0 ∧ l.state = .closing) _ _

/-- The last close is the one that ends the lot, now or with those still due. -/
theorem Lot.endsWith_cons {c : List Wafer} {l : Lot} (w : Wafer) (h : c.length + 1 ≤ l.active) :
    l.endsWith (w :: c) = true ↔ (l.active - 1 = 0 ∧ l.state = .closing) ∨ (l.closes w).endsWith c = true := by
  have hlen : c ≠ [] ↔ c.length ≠ 0 := not_congr List.length_eq_zero_iff.symm
  unfold Lot.endsWith
  rw [decide_eq_true_iff, decide_eq_true_iff, Lot.closes_state, show (l.closes w).active = l.active - 1 from
    Lot.released_active _, hlen]
  have hcons : w :: c ≠ [] := List.cons_ne_nil w c
  split
  next hlast => exact ⟨fun _ => .inl hlast, fun _ => ⟨hlast.2, hcons, by simp only [List.length_cons]; omega⟩⟩
  next hlast =>
    constructor
    · rintro ⟨hc, -, ha⟩
      rw [List.length_cons] at ha
      have : l.active - 1 ≠ 0 := fun h0 => hlast ⟨h0, hc⟩
      exact .inr ⟨hc, by omega, by omega⟩
    · rintro (hx | ⟨hc, -, ha⟩)
      · exact absurd hx hlast
      · exact ⟨hc, hcons, by simp only [List.length_cons]; omega⟩

/-- A close leaves what its lot comes to. -/
theorem Lot.due_closes {c : List Wafer} {l : Lot} (w : Wafer) (h : c.length + 1 ≤ l.active) :
    (l.closes w).due c = l.due (w :: c) := by
  have hends := Lot.endsWith_cons w h
  have hstate : (if (l.closes w).endsWith c then .closed else (l.closes w).state) =
      if l.endsWith (w :: c) then .closed else l.state := by
    by_cases hlast : l.active - 1 = 0 ∧ l.state = .closing
    · rw [if_pos (hends.2 (.inl hlast)), (Lot.closes_state w l).trans (if_pos hlast), ite_self]
    · rw [(Lot.closes_state w l).trans (if_neg hlast), if_congr (hends.trans (or_iff_right hlast)) rfl rfl]
  have hnum : ∀ k, (k ∈ insertNumber w.number l.closedList ∨ k ∈ c.map Wafer.number) ↔
      (k ∈ l.closedList ∨ k ∈ (w :: c).map Wafer.number) := fun k => by
    rw [mem_insertNumber, List.map_cons, List.mem_cons]
    tauto
  have hhist : ∀ b : Bin, (l.totals.add w.totals).hist[b] = l.totals.hist[b] + w.acc.hist[b] := fun b => by
    simp [Totals.add, Wafer.totals]
  unfold Lot.due Lot.afterCloses
  refine Prod.ext ?_ (funext fun k => propext ?_)
  · dsimp only
    rw [hstate]
    unfold Lot.closes
    rw [Lot.released_totals, Lot.released_active, Lot.released_id, Lot.released_plan, Lot.released_expected]
    unfold Lot.join
    dsimp only
    simp only [hhist, List.map_cons, List.sum_cons, List.length_cons, Nat.add_assoc, Nat.sub_sub, Nat.add_comm 1]
    simp only [Totals.add, Wafer.totals, Nat.add_assoc]
  · dsimp only
    rw [show (l.closes w).closedList = insertNumber w.number l.closedList from Lot.released_closedList _]
    exact hnum k

/-! ## The lots that a restart reads -/

/-- Of the law of the lots, what the closes of a restart turn on. -/
structure State.BooksFit (s : State) : Prop where
  apart : ∀ (e f : Fin 16) l k, s.lots[e] = some l → s.lots[f] = some k → l.id = k.id → e = f
  named : ∀ n w, s.slot n = some w → w.state = .closing → ∃ (e : Fin 16) (l : Lot), s.lots[e] = some l ∧
    l.id = w.lot ∧ w.number ∉ l.closedList
  distinct : ∀ n m w v, s.slot n = some w → s.slot m = some v → w.lot = v.lot → w.number = v.number → n = m
  active : ∀ (e : Fin 16) l, s.lots[e] = some l → (s.closes l.id).length ≤ l.active
  sorted : ∀ (e : Fin 16) l, s.lots[e] = some l → l.closedList.Pairwise (· < ·)

theorem length_filterMap_le {α β : Type} (l : List α) {f : α → Option β} {p : α → Bool}
    (h : ∀ a, (f a).isSome = true → p a = true) : (l.filterMap f).length ≤ (l.filter p).length := by
  induction l with
  | nil => exact Nat.le_refl 0
  | cons a l ih =>
    cases hf : f a with
    | none =>
      rw [List.filterMap_cons_none hf]
      exact ih.trans (List.Sublist.length_le ((List.sublist_cons_self a l).filter p))
    | some b =>
      rw [List.filterMap_cons_some hf, List.filter_cons_of_pos (h a (by rw [hf]; rfl))]
      exact Nat.succ_le_succ ih

theorem State.LotLaw.booksFit {s : State} (h : s.LotLaw) : s.BooksFit := by
  have hl := s.lotsAgree_iff.2 h
  refine ⟨hl.apart, fun n w hw hc => ?_, hl.distinct, fun e l he => ?_, fun e l he => (hl.fits e l he).sorted⟩
  · obtain ⟨e, l, he, hid, -, hdone⟩ := hl.named n w hw
    exact ⟨e, l, he, hid, fun hx => by simpa [Wafer.done, hc] using hdone.1 hx⟩
  · rw [(hl.fits e l he).active]
    refine (length_filterMap_le _ (p := fun n => (s.slot n).any (Wafer.isActive l.id)) fun n hn => ?_).trans_eq
      (length_filter_eq_sum _ _)
    obtain ⟨w, hw⟩ := Option.isSome_iff_exists.1 hn
    obtain ⟨hw, hcl⟩ := Option.filter_eq_some_iff.1 hw
    obtain ⟨hc, hid⟩ := of_decide_eq_true hcl
    rw [hw]
    simp [Wafer.isActive, hc, hid]

/-! ## One close -/

theorem State.mem_addCause {c x : Cause} {s : State} : x ∈ (s.addCause c).causes ↔ x = c ∨ x ∈ s.causes := by
  have hall : x ∈ Cause.all := by cases x <;> decide
  unfold State.addCause
  split
  next h => exact ⟨.inr, fun hx => hx.elim (fun he => he ▸ h) id⟩
  next => exact List.mem_filter.trans ((and_iff_right hall).trans decide_eq_true_iff)

/-- A list's image past the one element at which the function loses its value. -/
theorem perm_cons_filterMap {α β : Type} [DecidableEq α] {l : List α} (hd : l.Nodup) {a : α} (ha : a ∈ l) {b : β}
    {f g : α → Option β} (hf : f a = some b) (hg : g a = none) (hfg : ∀ x, x ≠ a → f x = g x) :
    (l.filterMap f).Perm (b :: l.filterMap g) := by
  have hp := List.perm_cons_erase ha
  have he : (l.erase a).filterMap f = (l.erase a).filterMap g :=
    List.filterMap_congr fun x hx => hfg x (hd.mem_erase_iff.1 hx).1
  have h1 := hp.filterMap f
  have h2 := hp.filterMap g
  rw [List.filterMap_cons_some hf, he] at h1
  rw [List.filterMap_cons_none hg] at h2
  exact h1.trans (h2.symm.cons b)

section Close
variable {s t : State} {n : SlotId} {w : Wafer} {e : Fin 16} {l : Lot} (hs : s.BooksFit)
  (hw : s.slot n = some w) (hc : w.state = .closing) (hl : s.lots[e] = some l) (hid : l.id = w.lot)
  (hts : ∀ m, t.slot m = if n = m then some w.closed else s.slot m)
  (htl : t.lots = s.lots.set e (some (l.closes w)))

include hw hc hts in
/-- The lot of the wafer is due one close less. -/
theorem State.closes_perm : (s.closes w.lot).Perm (w :: t.closes w.lot) := by
  refine perm_cons_filterMap (List.nodup_finRange 32) (List.mem_finRange n) ?_ ?_ fun m hm => ?_
  · rw [hw]
    exact Option.filter_some_pos (decide_eq_true ⟨hc, rfl⟩)
  · rw [hts, if_pos rfl]
    exact Option.filter_some_neg (by simp [Wafer.closed])
  · rw [hts, if_neg fun h => hm h.symm]

include hw hts in
/-- Every other lot is due what it was due. -/
theorem State.closes_of_ne {id : LotId} (h : w.lot ≠ id) : t.closes id = s.closes id := by
  refine List.filterMap_congr fun m _ => ?_
  rw [hts]
  split
  next hnm =>
    rw [← hnm, hw]
    exact (Option.filter_some_neg (by simp [Wafer.closed])).trans (Option.filter_some_neg (by simp [h])).symm
  next => rfl

include htl in
theorem State.lots_of_close (f : Fin 16) : t.lots[f] = if e = f then some (l.closes w) else s.lots[f] := by
  rw [htl]
  exact State.lots_setLot s e f _

include hs hl hid in
theorem State.BooksFit.ne_of_other {f : Fin 16} (hef : e ≠ f) {k : Lot} (hk : s.lots[f] = some k) : w.lot ≠ k.id :=
  fun h => hef (hs.apart e f l k hl hk (hid.trans h))

include hs hw hc hl hid hts in
theorem State.BooksFit.active_of_close : (t.closes w.lot).length + 1 ≤ l.active := by
  have ha := hs.active e l hl
  rw [hid, (State.closes_perm hw hc hts).length_eq] at ha
  exact ha

include hs hw hc hl hid hts htl

theorem State.BooksFit.close : t.BooksFit := by
  obtain ⟨e', l', hl', hid', hnot⟩ := hs.named n w hw hc
  obtain rfl : e = e' := hs.apart e e' l l' hl hl' (hid.trans hid'.symm)
  obtain rfl : l = l' := Option.some.inj (hl.symm.trans hl')
  have hlots := State.lots_of_close (t := t) htl
  have hlist : (l.closes w).closedList = insertNumber w.number l.closedList := Lot.released_closedList _
  have hback : ∀ (f : Fin 16) (k : Lot), t.lots[f] = some k → ∃ k₀ : Lot, s.lots[f] = some k₀ ∧ k₀.id = k.id := fun f k hk => by
    rw [hlots] at hk
    split at hk
    next hef =>
      obtain rfl := Option.some.inj hk
      exact ⟨l, hef ▸ hl, (Lot.closes_id w l).symm⟩
    next => exact ⟨k, hk, rfl⟩
  have hslot : ∀ (m : SlotId) (v : Wafer), t.slot m = some v → ∃ v₀ : Wafer, s.slot m = some v₀ ∧ v₀.lot = v.lot ∧ v₀.number = v.number :=
    fun m v hv => by
      rw [hts] at hv
      split at hv
      next hnm =>
        obtain rfl := Option.some.inj hv
        exact ⟨w, hnm ▸ hw, rfl, rfl⟩
      next => exact ⟨v, hv, rfl, rfl⟩
  refine ⟨fun f g k k' hk hk' hkk => ?_, fun m v hv hvc => ?_, fun m m' v v' hv hv' hvl hvn => ?_,
    fun f k hk => ?_, fun f k hk => ?_⟩
  · obtain ⟨k₀, hk₀, hi⟩ := hback f k hk
    obtain ⟨k₁, hk₁, hi'⟩ := hback g k' hk'
    exact hs.apart f g k₀ k₁ hk₀ hk₁ (hi.trans (hkk.trans hi'.symm))
  · rw [hts] at hv
    split at hv
    next =>
      obtain rfl := Option.some.inj hv
      cases hvc
    next hnm =>
      obtain ⟨f, k, hk, hkid, hkn⟩ := hs.named m v hv hvc
      by_cases hef : e = f
      · subst hef
        obtain rfl : l = k := Option.some.inj (hl.symm.trans hk)
        refine ⟨e, l.closes w, (hlots e).trans (if_pos rfl), (Lot.closes_id w l).trans hkid, fun hmem => ?_⟩
        rw [hlist] at hmem
        rcases mem_insertNumber.1 hmem with hn | hn
        · exact hnm (hs.distinct n m w v hw hv (hid.symm.trans hkid) hn.symm)
        · exact hkn hn
      · exact ⟨f, k, (hlots f).trans ((if_neg hef).trans hk), hkid, hkn⟩
  · obtain ⟨v₀, hv₀, h1, h2⟩ := hslot m v hv
    obtain ⟨v₁, hv₁, h3, h4⟩ := hslot m' v' hv'
    exact hs.distinct m m' v₀ v₁ hv₀ hv₁ (h1.trans (hvl.trans h3.symm)) (h2.trans (hvn.trans h4.symm))
  · rw [hlots] at hk
    split at hk
    next hef =>
      obtain rfl := Option.some.inj hk
      have ha := hs.active_of_close hw hc hl hid hts
      rw [Lot.closes_id, hid, show (l.closes w).active = l.active - 1 from Lot.released_active _]
      omega
    next hef =>
      rw [State.closes_of_ne hw hts (hs.ne_of_other hl hid hef hk)]
      exact hs.active f k hk
  · rw [hlots] at hk
    split at hk
    next hef =>
      obtain rfl := Option.some.inj hk
      rw [hlist]
      exact pairwise_insertNumber (hs.sorted e l hl) hnot
    next => exact hs.sorted f k hk

/-- What every lot comes to stays. -/
theorem State.BooksFit.lotsDue_of_close (f : Fin 16) :
    (t.lots[f].map fun k => k.due (t.closes k.id)) = s.lots[f].map fun k => k.due (s.closes k.id) := by
  rw [State.lots_of_close (t := t) htl f]
  split
  next hef =>
    subst hef
    rw [hl]
    refine congrArg some ?_
    dsimp only
    rw [Lot.closes_id, hid, Lot.due_closes w (hs.active_of_close hw hc hl hid hts)]
    exact (Lot.due_perm (State.closes_perm hw hc hts) l).symm
  next hef =>
    cases hk : s.lots[f] with
    | none => rfl
    | some k => exact congrArg (fun c => some (k.due c)) (State.closes_of_ne hw hts (hs.ne_of_other hl hid hef hk))

/-- The lots that the closes still due end: those of before, less the one that this close has ended. -/
theorem State.BooksFit.ends_of_close :
    (∃ (f : Fin 16) (k : Lot), s.lots[f] = some k ∧ k.endsWith (s.closes k.id) = true) ↔
      (l.active - 1 = 0 ∧ l.state = .closing) ∨
        ∃ (f : Fin 16) (k : Lot), t.lots[f] = some k ∧ k.endsWith (t.closes k.id) = true := by
  have hlots := State.lots_of_close (t := t) htl
  have hown : l.endsWith (s.closes l.id) = true ↔
      (l.active - 1 = 0 ∧ l.state = .closing) ∨ (l.closes w).endsWith (t.closes (l.closes w).id) = true := by
    rw [Lot.closes_id, hid, Lot.endsWith_perm (State.closes_perm hw hc hts)]
    exact Lot.endsWith_cons w (hs.active_of_close hw hc hl hid hts)
  have hother : ∀ (f : Fin 16) (k : Lot), e ≠ f → s.lots[f] = some k → t.closes k.id = s.closes k.id := fun f k hef hk =>
    State.closes_of_ne hw hts (hs.ne_of_other hl hid hef hk)
  constructor
  · rintro ⟨f, k, hk, hends⟩
    by_cases hef : e = f
    · subst hef
      obtain rfl : l = k := Option.some.inj (hl.symm.trans hk)
      exact (hown.1 hends).imp_right fun h => ⟨e, l.closes w, (hlots e).trans (if_pos rfl), h⟩
    · exact .inr ⟨f, k, (hlots f).trans ((if_neg hef).trans hk), by rw [hother f k hef hk]; exact hends⟩
  · rintro (hlast | ⟨f, k, hk, hends⟩)
    · exact ⟨e, l, hl, hown.2 (.inl hlast)⟩
    · rw [hlots] at hk
      split at hk
      next hef =>
        obtain rfl := Option.some.inj hk
        exact ⟨e, l, hl, hown.2 (.inr hends)⟩
      next hef => exact ⟨f, k, hk, by rw [← hother f k hef hk]; exact hends⟩

end Close

/-! ## The causes -/

/-- The cause is in the set, or a close still due adds it. -/
def State.CauseDue (s : State) (c : Cause) : Prop :=
  c ∈ s.causes ∨ (c = .waferClosed ∧ ∃ n : SlotId, s.slotIs n .closing = true) ∨
    (c = .lotClosed ∧ ∃ (e : Fin 16) (l : Lot), s.lots[e] = some l ∧ l.endsWith (s.closes l.id) = true)

/-- The causes that a deferred close adds (R6, R21). -/
theorem State.mem_completeClose {s : State} {n : SlotId} {w : Wafer} {e : Fin 16} {l : Lot} (hw : s.slot n = some w)
    (he : s.findLot w.lot = some e) (hl : s.lots[e] = some l) (c : Cause) :
    c ∈ (s.completeClose n true).causes ↔
      c = .waferClosed ∨ c ∈ s.causes ∨ (c = .lotClosed ∧ l.active - 1 = 0 ∧ l.state = .closing) := by
  have hlots := State.unbindSlot_lots n s
  have hcauses : (s.unbindSlot n).causes = s.causes := (State.unbindSlot_bulletin n s).1
  rw [State.completeClose_eq_books hw, State.books_eq (s := s.unbindSlot n) (e := e) (l := l)
    ((State.findLot_congr (s := s) (fun f => by rw [hlots]) _).trans he) (by rw [hlots]; exact hl)]
  dsimp only
  rw [if_pos rfl]
  split
  next hlast => rw [State.mem_addCause, State.mem_addCause, hcauses]; tauto
  next hlast => rw [State.mem_addCause, hcauses]; tauto

/-- What a restart's closes leave as it is due, where the lots keep their law. -/
structure State.Collates (s t : State) : Prop where
  fits : t.BooksFit
  lots : ∀ f : Fin 16, (t.lots[f].map fun k => k.due (t.closes k.id)) = s.lots[f].map fun k => k.due (s.closes k.id)
  causes : ∀ c, t.CauseDue c ↔ s.CauseDue c

theorem State.BooksFit.findLot {s : State} (hs : s.BooksFit) {e : Fin 16} {l : Lot} {id : LotId}
    (hl : s.lots[e] = some l) (hid : l.id = id) : s.findLot id = some e := by
  cases hf : s.findLot id with
  | none =>
    have hno := List.find?_eq_none.1 hf e (List.mem_finRange e)
    rw [hl] at hno
    exact absurd (by simp [hid]) hno
  | some f =>
    obtain ⟨k, hk, hkid⟩ := Option.map_eq_some_iff.1 (State.findLot_spec hf)
    rw [hs.apart f e k l hk hl (hkid.trans hid.symm)]

theorem State.BooksFit.causeDue_of_close {s : State} (hs : s.BooksFit) {n : SlotId} {w : Wafer} {e : Fin 16} {l : Lot}
    (hw : s.slot n = some w) (hc : w.state = .closing) (hl : s.lots[e] = some l) (hid : l.id = w.lot) (c : Cause) :
    (s.completeClose n true).CauseDue c ↔ s.CauseDue c := by
  have he := hs.findLot hl hid
  have hends := hs.ends_of_close hw hc hl hid (State.completeClose_slot hw true) (State.completeClose_lots hw he hl true)
  have hsome : ∃ m : SlotId, s.slotIs m .closing = true := ⟨n, State.slotIs_iff.2 ⟨w, hw, hc⟩⟩
  unfold State.CauseDue
  rw [State.mem_completeClose hw he hl, hends]
  generalize (∃ m : SlotId, (s.completeClose n true).slotIs m .closing = true) = p
  generalize (∃ (f : Fin 16) (k : Lot), (s.completeClose n true).lots[f] = some k ∧
    k.endsWith ((s.completeClose n true).closes k.id) = true) = q
  tauto

theorem State.Collates.close {s : State} (hs : s.BooksFit) {n : SlotId} (h : s.slotIs n .closing = true) :
    s.Collates (s.completeClose n true) := by
  obtain ⟨w, hw, hc⟩ := State.slotIs_iff.1 h
  obtain ⟨e, l, hl, hid, -⟩ := hs.named n w hw hc
  have he := hs.findLot hl hid
  have hts := State.completeClose_slot hw true
  have htl := State.completeClose_lots hw he hl true
  exact ⟨hs.close hw hc hl hid hts htl, hs.lotsDue_of_close hw hc hl hid hts htl, hs.causeDue_of_close hw hc hl hid⟩

theorem State.Collates.kept (s : State) : State.KeptByCloses s.Collates where
  close _ _ hc h :=
    have h' := State.Collates.close h.fits hc
    ⟨h'.fits, fun f => (h'.lots f).trans (h.lots f), fun c => (h'.causes c).trans (h.causes c)⟩
  stations _ _ _ h := ⟨⟨h.fits.apart, h.fits.named, h.fits.distinct, h.fits.active, h.fits.sorted⟩, h.lots, h.causes⟩

end Sys2Proof.Machine
end

section
/-! PROOF. O5, settled: RESET COLLATION and the restart it waits for. -/

namespace Sys2Proof.Machine

/-! ## The Map Export Unit's step -/

/-- The slots after the Map Export Unit has been stopped (R166). -/
theorem State.haltExport_slot (s : State) (n : SlotId) :
    s.haltExport.slot n = if s.mex.map Mex.slot = some n then (s.slot n).map Wafer.endExport else s.slot n := by
  unfold State.haltExport State.endExport
  cases hm : s.mex with
  | none => rfl
  | some m =>
    refine (State.slot_setSlot ({ s with mex := none } : State) m.slot n _).trans ?_
    by_cases h : m.slot = n
    · rw [if_pos h, if_pos (show (some m).map Mex.slot = some n from congrArg some h), ← h]
      rfl
    · rw [if_neg h, if_neg fun hx : (some m).map Mex.slot = some n => h (Option.some.inj hx)]
      rfl

theorem State.haltExport_causes (s : State) :
    s.haltExport.causes = s.causes.filter fun x => decide (x ≠ .exportWaiting) := by
  unfold State.haltExport State.endExport
  split <;> rfl

theorem State.haltExport_eq (s : State) : s.haltExport =
    { s with mex := none, slots := s.haltExport.slots, causes := s.haltExport.causes } := by
  unfold State.haltExport State.endExport
  split
  next hm => rw [← hm]; rfl
  next => rfl

theorem State.haltExport_stations (s : State) : s.haltExport.stations = s.stations := by
  rw [State.haltExport_eq]

theorem State.haltExport_lots (s : State) : s.haltExport.lots = s.lots := by
  rw [State.haltExport_eq]

theorem State.haltExport_ready (s : State) : s.haltExport.ready = s.ready := by
  rw [State.haltExport_eq]

/-! ## The restart, field by field -/

/-- The steps before the Map Export Unit's. -/
def State.collated (s : State) : State := s.discardGroups.restartStations.finishSlots

theorem State.collated_slotIs (s : State) (n : SlotId) : s.collated.slotIs n .closing = false :=
  State.finishSlots_slotIs _ n

theorem State.collated_station (s : State) (i : StationId) : s.collated.station i = (s.station i).afterRestart := by
  unfold State.collated
  exact State.collate_station s i

theorem State.KeptByCloses.collated {P : State → Prop} (h : State.KeptByCloses P) {s : State} (hs : P s) :
    P s.collated := by
  unfold State.collated
  exact h.collate hs

theorem State.collated_restarts (s : State) : s.Restarts s.collated := (State.Restarts.kept s).collated (.refl s)

theorem State.restart_eq (s : State) :
    s.restart = State.addCause .restarted { s.collated.haltExport with lastReset := .collation } := rfl

theorem State.restart_slots (s : State) : s.restart.slots = s.collated.haltExport.slots := by
  rw [State.restart_eq, State.addCause_slots]

theorem State.restart_lots (s : State) : s.restart.lots = s.collated.lots := by
  rw [State.restart_eq, State.addCause_lots]
  dsimp only
  rw [State.haltExport_lots]

theorem State.restart_station (s : State) (i : StationId) : s.restart.station i = (s.station i).afterRestart := by
  rw [← State.collated_station]
  refine State.station_congr ?_ i
  rw [State.restart_eq, State.addCause_stations]
  dsimp only
  rw [State.haltExport_stations]

theorem State.mem_restart_causes (s : State) (c : Cause) :
    c ∈ s.restart.causes ↔ c = .restarted ∨ (c ∈ s.collated.causes ∧ c ≠ .exportWaiting) := by
  rw [State.restart_eq, State.mem_addCause]
  dsimp only
  rw [State.haltExport_causes, List.mem_filter, decide_eq_true_iff]

/-- What a restart leaves alone. -/
theorem State.restart_form (s : State) : ∃ st sl l cs r, s.restart =
    { s with
      stations := st, slots := sl, lots := l, causes := cs, ready := r
      tripped := s.tripped.filter fun w => !Watch.ofStationKind w
      mex := none, lastReset := .collation } := by
  obtain ⟨st, sl, l, cs, r, h⟩ := State.collate_form s
  obtain ⟨cs', r', h', -⟩ := State.addCause_form .restarted
    ({ s.collated.haltExport with lastReset := .collation } : State)
  refine ⟨st, s.collated.haltExport.slots, l, cs', r', ?_⟩
  rw [State.restart_eq, h', State.haltExport_eq]
  unfold State.collated
  rw [h]

/-- With no close due, a NOTICE is due from a set that holds EXPORT_WAITING at most. -/
theorem State.noticeDue_iff {s : State} (h : ∀ n, s.slotIs n .closing = false) :
    s.NoticeDue ↔ ReadyFrame.notice ∉ s.ready ∧ s.causes.filter (fun x => decide (x ≠ .exportWaiting)) = [] := by
  refine and_congr_right fun _ => ?_
  rw [List.filter_eq_nil_iff]
  simp only [decide_eq_true_iff, not_not]
  exact ⟨fun hx => hx.elim (fun he c hc => absurd (he ▸ hc) List.not_mem_nil) And.right, fun hx => .inr ⟨h, hx⟩⟩

theorem State.addCause_restarted_ready {u v : State} (h : ∀ n, u.slotIs n .closing = false)
    (hc : v.causes = u.causes.filter fun x => decide (x ≠ .exportWaiting)) (hr : v.ready = u.ready) :
    (v.addCause .restarted).ready = u.announced := by
  have hdue := State.noticeDue_iff h
  unfold State.announced State.addCause State.noticeWaits
  rw [hc, hr]
  split
  next hin =>
    have hne : ¬ u.NoticeDue := fun hd => List.not_mem_nil ((hdue.1 hd).2 ▸ hin)
    rw [if_neg hne, List.append_nil, hr]
  next =>
    by_cases hd : u.NoticeDue
    · obtain ⟨hno, hem⟩ := hdue.1 hd
      rw [if_pos hd]
      exact if_pos ⟨hem, decide_eq_false hno⟩
    · rw [if_neg hd, List.append_nil]
      exact if_neg fun hx => hd (hdue.2 ⟨of_decide_eq_false hx.2, hx.1⟩)

theorem State.restart_ready (s : State) : s.restart.ready = s.announced := by
  rw [← (State.collated_restarts s).ready, State.restart_eq]
  refine State.addCause_restarted_ready (State.collated_slotIs s) ?_ ?_
  · dsimp only
    rw [State.haltExport_causes]
  · dsimp only
    rw [State.haltExport_ready]

/-! ## Slots -/

theorem Wafer.endExport_of_not {w : Wafer} (h : w.state ≠ .exporting) : w.endExport = w := if_neg h

/-- A slot before the Map Export Unit's step. -/
theorem State.collated_slot (s : State) (n : SlotId) : s.collated.slot n = (s.slot n).map Wafer.settled := by
  rw [← (State.collated_restarts s).slots n]
  cases hw : s.collated.slot n with
  | none => rfl
  | some w =>
    refine congrArg some (Wafer.settled_of_not fun hc => ?_).symm
    have := State.collated_slotIs s n
    rw [State.slotIs_of_slot hw] at this
    exact of_decide_eq_false this hc

theorem State.restart_slot (s : State) (n : SlotId) : s.restart.slot n =
    if s.collated.mex.map Mex.slot = some n then ((s.slot n).map Wafer.settled).map Wafer.endExport
    else (s.slot n).map Wafer.settled := by
  rw [State.slot_congr (State.restart_slots s), State.haltExport_slot, State.collated_slot]

theorem State.restart_slot_of_settled {s : State} {n : SlotId}
    (h : ∀ w, s.slot n = some w → w.settled.state ≠ .exporting) :
    s.restart.slot n = (s.slot n).map Wafer.settled := by
  rw [State.restart_slot]
  split
  · cases hw : s.slot n with
    | none => rfl
    | some w => exact congrArg some (Wafer.endExport_of_not (h w hw))
  · rfl

theorem State.collated_mex (s : State) : s.collated.mex = s.mex := by
  obtain ⟨_, _, _, _, _, h⟩ := State.collate_form s
  unfold State.collated
  rw [h]

/-! ## Lots -/

theorem State.closes_eq_nil {s : State} (h : ∀ n, s.slotIs n .closing = false) (id : LotId) : s.closes id = [] := by
  refine List.filterMap_eq_nil_iff.2 fun n _ => Option.filter_eq_none_iff.2 fun w hw hc => ?_
  have hn := h n
  rw [State.slotIs_of_slot hw] at hn
  exact of_decide_eq_false hn (of_decide_eq_true hc).1

section Lots
variable {s : State} (h : s.LotLaw)
include h

theorem State.LotLaw.collates : s.Collates s.collated :=
  (State.Collates.kept s).collated ⟨h.booksFit, fun _ => rfl, fun _ => .rfl⟩

theorem State.LotLaw.collated_lots (e : Fin 16) :
    (s.collated.lots[e].map fun l => l.due []) = s.lots[e].map fun l => l.due (s.closes l.id) := by
  rw [← h.collates.lots e]
  simp only [State.closes_eq_nil (State.collated_slotIs s)]

theorem State.LotLaw.restart_lot_none {e : Fin 16} (he : s.lots[e] = none) : s.restart.lots[e] = none := by
  have hl := h.collated_lots e
  rw [he] at hl
  rw [State.restart_lots]
  exact Option.map_eq_none_iff.1 hl

theorem State.LotLaw.restart_lot {e : Fin 16} {l : Lot} (he : s.lots[e] = some l) : ∃ numbers : List Nat,
    s.restart.lots[e] = some { l.afterCloses (s.closes l.id) with closedList := numbers } ∧
      numbers.Pairwise (· < ·) ∧ ∀ k, k ∈ numbers ↔ k ∈ l.closedList ∨ k ∈ (s.closes l.id).map Wafer.number := by
  have hl := h.collated_lots e
  rw [he] at hl
  obtain ⟨l', hl', hdue⟩ := Option.map_eq_some_iff.1 hl
  obtain ⟨hlot, hnum⟩ := Prod.mk.inj hdue
  rw [Lot.afterCloses_nil] at hlot
  refine ⟨l'.closedList, ?_, h.collates.fits.sorted e l' hl', fun k => ?_⟩
  · rw [State.restart_lots, hl', ← hlot]
  · rw [← congrFun hnum k]
    simp

theorem State.LotLaw.mem_restart_causes (c : Cause) : c ∈ s.restart.causes ↔
    c = .restarted ∨ (c ∈ s.causes ∧ c ≠ .exportWaiting) ∨
      (c = .waferClosed ∧ ∃ n : SlotId, s.slotIs n .closing = true) ∨
      (c = .lotClosed ∧ ∃ (e : Fin 16) (l : Lot), s.lots[e] = some l ∧ l.endsWith (s.closes l.id) = true) := by
  have hcol : c ∈ s.collated.causes ↔ s.CauseDue c := by
    rw [← h.collates.causes c]
    refine ⟨.inl, ?_⟩
    rintro (hc | ⟨-, n, hn⟩ | ⟨-, e, l, -, hl⟩)
    · exact hc
    · rw [State.collated_slotIs] at hn
      cases hn
    · rw [State.closes_eq_nil (State.collated_slotIs s), Lot.endsWith_nil] at hl
      cases hl
  have hwafer : c = .waferClosed → c ≠ .exportWaiting := by rintro rfl; decide
  have hlot : c = .lotClosed → c ≠ .exportWaiting := by rintro rfl; decide
  rw [State.mem_restart_causes, hcol]
  clear h hcol
  unfold State.CauseDue
  generalize (∃ n : SlotId, s.slotIs n .closing = true) = p
  generalize (∃ (e : Fin 16) (l : Lot), s.lots[e] = some l ∧ l.endsWith (s.closes l.id) = true) = q
  tauto

end Lots

/-! ## The rows -/

theorem exec_collationRestart {s : State} {tag : Byte} (hr : s.rst = false) (hd : s.dueExpiry = none)
    (hp : s.inProgress = some (.restarting tag)) : exec .collationRestart s =
      .next { s.restart with
        inProgress := none
        ready := s.restart.ready ++ [.reply false ⟨0x83, tag, [0]⟩] } := by
  show execCollationRestart s = _
  unfold execCollationRestart
  rw [hp]
  dsimp only
  rw [if_pos ⟨hr, hd⟩]
  generalize s.restart = u
  rfl

theorem State.restart_slot_of_closing {s : State} {n : SlotId} {w : Wafer} (hw : s.slot n = some w)
    (hc : w.state = .closing) : s.restart.slot n = some { w with state := .closed, closing := some w.totals } := by
  have hset := Wafer.settled_of_closing hc
  rw [State.restart_slot_of_settled fun v hv => ?_, hw]
  · exact congrArg some hset
  · obtain rfl := Option.some.inj (hw.symm.trans hv)
    rw [hset]
    simp [Wafer.closed]

theorem State.restart_slot_of_exporting {s : State} {m : Mex} {w : Wafer} (hm : s.mex = some m)
    (hw : s.slot m.slot = some w) (hx : w.state = .exporting) :
    s.restart.slot m.slot = some { w with state := .closed } := by
  have hset : w.settled = w := Wafer.settled_of_not (by rw [hx]; decide)
  have hm' : s.collated.mex.map Mex.slot = some m.slot := by rw [State.collated_mex, hm]; rfl
  rw [State.restart_slot, if_pos hm', hw]
  exact congrArg some ((congrArg Wafer.endExport hset).trans (if_pos hx))

theorem State.restart_slot_of_still {s : State} {n : SlotId}
    (h : s.slotIs n .opened = true ∨ s.slotIs n .closed = true ∨ s.slot n = none) : s.restart.slot n = s.slot n := by
  have hstill : ∀ w, s.slot n = some w → w.state ≠ .closing ∧ w.state ≠ .exporting := fun w hw => by
    rcases h with h | h | h
    · rw [State.slotIs_of_slot hw] at h
      simp [of_decide_eq_true h]
    · rw [State.slotIs_of_slot hw] at h
      simp [of_decide_eq_true h]
    · rw [hw] at h
      cases h
  have hset : ∀ w, s.slot n = some w → w.settled = w := fun w hw => Wafer.settled_of_not (hstill w hw).1
  rw [State.restart_slot_of_settled fun w hw => by rw [hset w hw]; exact (hstill w hw).2]
  cases hw : s.slot n with
  | none => rfl
  | some w => exact congrArg some (hset w hw)

/-- Settles O5: the request that waits, and the restart field by field. -/
theorem collationRestartStopsCollation : Obligations.CollationRestartStopsCollation := by
  refine ⟨fun s r rest ho hk hcode => ?_, fun s tag hr hd hp => ?_⟩
  · refine exec_request_eq (c := .resetCollation) rfl ho (ofCode_of_eq hk hcode) ?_
    exact if_pos (decide_eq_true (show u8 r.payload 0 < 2 by omega))
  have hrow := exec_collationRestart hr hd hp
  have hform := State.restart_form s
  have hstation := State.restart_station s
  have hclosing := fun n w => State.restart_slot_of_closing (s := s) (n := n) (w := w)
  have hexporting := fun m w => State.restart_slot_of_exporting (s := s) (m := m) (w := w)
  have hstill := fun n => State.restart_slot_of_still (s := s) (n := n)
  have hnone := fun (hlaw : s.LotLaw) e => hlaw.restart_lot_none (e := e)
  have hlot := fun (hlaw : s.LotLaw) e l => hlaw.restart_lot (e := e) (l := l)
  have hcauses := fun hlaw : s.LotLaw => hlaw.mem_restart_causes
  have hrestarted := (State.mem_restart_causes s .restarted).2 (.inl rfl)
  have hwaiting : Cause.exportWaiting ∉ s.restart.causes := fun hx =>
    ((State.mem_restart_causes s _).1 hx).elim (by decide) fun h => h.2 rfl
  have hready := State.restart_ready s
  generalize s.restart = u at *
  obtain ⟨st, sl, lots, cs, rd, rfl⟩ := hform
  exact ⟨_, hrow, hstation, hclosing, hexporting, hstill, fun hlaw => ⟨hnone hlaw, hlot hlaw, hcauses hlaw⟩, rfl, rfl,
    rfl, rfl, hrestarted, hwaiting, congrArg (· ++ _) hready, rfl, rfl, rfl, rfl, rfl, rfl, rfl, rfl, rfl, rfl, rfl, rfl,
    rfl, rfl⟩

end Sys2Proof.Machine
end
